-- ==== Sys2Proof/Word.lean ====
section
/-! DEFINITION. The word types of the CG9144: the 32-bit register word (R439), the 64-bit queue word (R416)
and the byte, and nothing else. Field extraction and sign extension stand in `Machine/Operands.lean`. -/

namespace Sys2Proof

/-- A register is 32 bits wide (R439); sweep descriptors, segment entries and vectors are made of such words. -/
abbrev Word := BitVec 32

/-- A queue word holds 64 data bits (R416). -/
abbrev QData := BitVec 64

/-- A byte of the Archive, of host memory or of MRAM. -/
abbrev Byte := BitVec 8

end Sys2Proof
end

