-- ==== Sys2Proof/Syntax.lean ====
section
/-! DEFINITION. The commands of the CG9144, one constructor of `Instr` per row of `spec/opcode_table.json`
(95_what_each_step_holds.md lists what comes about inside each). The table gives its rows no operand fields; the
operands below are what the rule each row names needs to be said of the event: who makes it (`fn`, the PCI Express
function 0 to 16, R12), where it acts (tile `t`, slot `s`, context `id`, ...), and what the outside world presents to
the module at that moment (a sampled analog quantity, the answer of host memory, a received frame). -/

namespace Sys2Proof

/-- A host access to register space: function, BAR (0 or 4) and byte offset in that BAR (R409, R410). -/
structure Acc where
  fn  : Nat
  bar : Nat
  off : Nat
deriving DecidableEq, Repr

/-- What a lane's front-end presents at one ADC sample instant (R45, R58, R61, R78, R82): the raw 18-bit codes of
voltage and current against the FS of their present ranges, the force-node voltage and the measured voltage in µV, the current
at the clamp sense in pA, and whether the current or the voltage clamp is engaged. -/
structure AdcIn where
  rawV   : Int
  rawI   : Int
  vOut   : Int
  vMeas  : Int
  cur    : Int
  clampI : Bool
  clampV : Bool
deriving DecidableEq, Repr

/-- The answer of host memory to a device read (R431, R433): the words read, an error completion (UR, CA or timeout), or
words with EP set. -/
inductive HostRead where
  | data  (ws : List Word)
  | error
deriving DecidableEq, Repr

/-- What the ECC of the Archive finds in one word (R244): no error, a corrected one, or an uncorrectable one. The word is the
`k`-th of the access. -/
inductive EccErr where
  | clean | single | multi (k : Nat)
deriving DecidableEq, Repr

/-- What the ECC finds at the reads of an access (R244): 8-byte words of the Archive, each with whether its error is a multi-bit
one. -/
abbrev EccErrs := List (Nat × Bool)

/-- The parameters of CTX_OPEN (R122). -/
structure CtxParams where
  lane     : Nat
  archive  : Bool
  laddr    : Nat
  llen     : Nat
  prio     : Nat
  qahead   : Nat
  rq       : Nat
  abortDis : Bool
  abortOn  : Nat
  abortEv  : Nat
deriving DecidableEq, Repr

/-- The parameters of a calibration request (R319); `lanes` holds one 9-bit mask per tile, T00 first. -/
structure CalParams where
  lanes    : List Nat
  subst    : Nat
  kinds    : Nat
  set      : Nat
  handover : Bool
  waitMs   : Nat
  doneEv   : Nat
deriving DecidableEq, Repr

/-- What one pass of a lane's calibration measures (R307 to R311). Of the histogram of the ADC, 4,194,304 samples of the self-signal:
how many fall into the segment that each of the 35 upper capacitors adds, how many lie below each of the 256 correction points, and
how many between codes 0 and 2^j for each lower bit j. Of each of the 68 upper unit elements of the force DAC the deviation from
nominal in ppm of it; of the histogram of the force DAC, taken through the ADC, how many samples lie below each of its 256 points
and how many between codes 0 and 2^j. The hold DAC's offset and gain; the REFV that V2, V8 and V24 read, in nV, and their offsets in force-DAC LSB; for the seven current decades the
voltage forced across the reference resistor in µV, the current read in pA, and the offset; the two monitor trims; and of each
of the four edges its lateness at 64 fine positions in 0.1 ps. The lists of a kind that is not run are empty. -/
structure PassMeas where
  capHits  : List Nat := []
  below    : List Nat := []
  bitHits  : List Nat := []
  weights  : List Int := []
  dacBelow : List Nat := []
  dacHits  : List Nat := []
  hold     : List Int := []
  vRef     : List Int := []
  vOff     : List Int := []
  iForce   : List Nat := []
  iMeas    : List Int := []
  iOff     : List Int := []
  mons     : List Int := []
  edgeLate : List (List Int) := []
deriving DecidableEq, Repr

/-- The values of a set entry (R315): the ADC's 31 capacitors and the DAC's 63 elements in their order, each with the computed
peak nonlinearity of the choice, lower-bit trims, the correction points in 1/16 LSB, the hold DAC's offset and gain, for V2, V8,
V24 and I100N to I64M the gain correction in 0.01 ppm and the offset in force-DAC LSB, the two monitor trims, and four edge
deskews in 7.8125 ps. A value that a list lacks is 0. -/
structure PassData where
  adcSel   : List Nat := []
  adcPeak  : Int := 0
  adcTrims : List Int := []
  adcPts   : List Int := []
  dacSel   : List Nat := []
  dacPeak  : Int := 0
  dacTrims : List Int := []
  dacPts   : List Int := []
  hold     : List Int := []
  gains    : List Int := []
  offs     : List Int := []
  mons     : List Int := []
  edges    : List Int := []
deriving DecidableEq, Repr

/-- The quality figures of a calibrated lane (R327): in 0.01 ppm, µV, pA of each current range, 0.1 ps, counts and codes of
R263. -/
structure Quality where
  inlAdc    : Int := 0
  inlDac    : Int := 0
  gainRes   : Int := 0
  offsUv    : Int := 0
  offsPa    : List Int := []
  edgeRes   : Int := 0
  sparesDac : Nat := 0
  sparesAdc : Nat := 0
  mon0      : Nat := 0
  mon1      : Nat := 0
deriving DecidableEq, Repr

/-- What a lane's calibration measures (R309, R326, R327): two passes, the residuals (the model counts the SPARES itself), and
REFV as the tile measures it in µV. -/
structure CalMeas where
  pass1     : PassMeas
  pass2     : PassMeas
  quality   : Quality
  refvUv    : Nat
deriving DecidableEq, Repr

/-- What a window monitor of a lane has at its input (R251): the monitor, 0 or 1, and the input in µV with QSEL = V, in pA with
QSEL = I. -/
structure WmInput where
  n : Nat
  x : Int
deriving DecidableEq, Repr

/-- What one step of a window-monitor self-check shows (R261): the raw and the filtered output as codes (0 INSIDE, 1 ABOVE, 2
BELOW), and whether the trip path is seen at the gate of the trip clamp. -/
structure ChkStep where
  raw  : Nat
  filt : Nat
  gate : Bool
deriving DecidableEq, Repr

/-- A Walul frame (R365): channel, the low 16 bits of the tick at which the channel fired, hop count, origin index. -/
structure WlFrame where
  chan   : Nat
  tick16 : Nat
  hop    : Nat
  origin : Nat
deriving DecidableEq, Repr

/-- What the two ends of a Walul link exchange at training (R356), and what holds once it is UP (R356, R358, R373): the modules
that module 0 then counts, whether module 0 is reached through it, with an equal count and a phase error within the trim range,
whether the other end has had a cold reset since the last training, the modules along the wiring, and which of the links j, from
port 1 of module j, are UP. -/
structure WlPeer where
  index : Nat
  topo  : Nat
  mode  : Nat
  hmax  : Nat
  n     : Nat
  reach0 : Bool
  same  : Bool
  cold  : Bool
  size  : Nat := 8
  links : Nat := 0
deriving DecidableEq, Repr

/-- What ALIGN finds in the system when module 0 is asked for it (R362, R363): the reachable modules' conditions, the
links' one-way delays in 1/1,024 tick, and whether a module with COUNT_MISMATCH has become reachable. -/
structure AlignMeas where
  allUp     : Bool
  allRefin  : Bool
  othersQuiescent : Bool
  delays    : List Nat
  mismatch  : Bool := false
deriving DecidableEq, Repr

/-- What a module learns with ALIGN_LOAD (R357, R362): its residual in ps (on module 0 the largest), the tick of its own count at
which the load tick was named, the one-way delays of the links at its two ports, and those of all links that were measured, in 1/1,024
tick. -/
structure LoadMeas where
  resid  : Nat
  named  : Nat
  delay0 : Nat
  delay1 : Nat
  delays : List Nat
deriving DecidableEq, Repr

/-- The straps, read at cold reset (R355, R505). -/
structure Straps where
  index   : Nat
  topo    : Nat
  ref100  : Bool
deriving DecidableEq, Repr

/-- The cause of a link loss (R371). The command also says how many modules module 0 then counts and whether it can still be
reached (R372). -/
inductive LossCause where
  | lock | crcRun | peerReset | linkOff
deriving DecidableEq, Repr

/-- The commands: every row of `spec/opcode_table.json`, in the table's order. -/
inductive Instr where
  | registerWrite (a : Acc) (w : Word)
  | malformedAccess (a : Acc) (isWrite : Bool)
  | pageCtrlWrite (a : Acc) (en : Bool)
  | mbxSelWrite (a : Acc) (item : Nat)
  | mbxSnapshot (a : Acc)
  | commit (a : Acc) (item : Nat)
  | mbxCommitApply (a : Acc) (sigOk : Bool) (ver : Nat)
  | connect (fn t s : Nat)
  | disconnect (fn t s : Nat)
  | laneForceWrite (fn t s : Nat) (w : Word)
  | latchTick (t s : Nat)
  | dacSample (t s : Nat)
  | loadStrobe (g hop : Nat)
  | adcSample (t s : Nat) (x : AdcIn)
  | apertureEnd (t s : Nat)
  | oldElementOpen (t s : Nat)
  | rangingWindowEnd (t s : Nat)
  | railMoveDown (t s : Nat)
  | openLoad (t s : Nat)
  | complLong (t s : Nat)
  | pulseStartCmd (fn t s : Nat)
  | pulseStopCmd (fn t s : Nat)
  | lanePulseGo (t s hop : Nat)
  | pulseStart (t s : Nat)
  | pulseEnd (t s : Nat)
  | pulseMeas (t s : Nat)
  | preconnectEnd (t s : Nat)
  | forceSwitchClose (t s : Nat)
  | swap (t s : Nat)
  | connected (t s : Nat)
  | disconnectRampStep (t s : Nat)
  | disconnectSwitchOpen (t s : Nat)
  | lanePersWrite (fn t s : Nat) (w : Word)
  | ddsZeroCrossExit (t s : Nat)
  | toPinStep (t s : Nat)
  | toSmuStep (t s : Nat)
  | tileGangWrite (fn t g : Nat) (w : Word)
  | tileBoostWrite (fn t : Nat) (w : Word)
  | boostFault (t lowNs : Nat)
  | boostSenseOverdrive (t : Nat) (bsvMv bsiMv : Int)
  | laneRst (fn t s : Nat)
  | trip (t s n : Nat) (x : Int) (sub : Nat)
  | tripClampRelease (t s : Nat) (inp : WmInput)
  | tripClear (fn t s n : Nat)
  | wmFilteredChange (t s n : Nat)
  | wmchkRun (fn t s n : Nat)
  | wmchkDone (t s : Nat) (r : List ChkStep)
  | foldback (t s : Nat)
  | foldbackRestore (t s : Nat)
  | fclr (fn t s : Nat)
  | overdrive (t s : Nat) (uv : Int)
  | probePhase (t s : Nat)
  | openCheckEval (t s : Nat) (restOn restOff : List Int)
  | vinReversed (mv : Nat)
  | refinLost (offFreq : Bool)
  | refinRestored
  | refinLocked
  | tempReading (tiles : List Int) (ctl arc : Int)
  | tfoldRelease (t : Nat)
  | budgetEval (vinMv : Nat)
  | ctxOpen (fn : Nat) (p : CtxParams)
  | ctxStart (fn id go : Nat)
  | ctxAbort (fn id : Nat)
  | ctxClose (fn id : Nat)
  | ctxPrio (fn id prio : Nat)
  | lockGrant (t : Nat)
  | dispatch (t : Nat)
  | descPrefetch (id : Nat) (r : HostRead) (errs : EccErrs)
  | nop (id : Nat)
  | config (id : Nat)
  | lin (id : Nat)
  | list (id : Nat)
  | meas (id : Nat)
  | limit (id : Nat)
  | wait (id : Nat)
  | fire (id : Nat)
  | jump (id : Nat)
  | endList (id : Nat)
  | apertureResultRead (id : Nat)
  | resultPacket (id : Nat)
  | ctxGo (t ch hop : Nat)
  | waitEnd (id : Nat)
  | waitTimeout (id : Nat)
  | runComplete (id : Nat)
  | seqStart (fn t : Nat)
  | seqAbort (fn t : Nat)
  | seqLockGrant (t : Nat)
  | stagingComplete (t : Nat) (errs : EccErrs)
  | seqGo (t hop : Nat)
  | lockInPoint (t : Nat)
  | granuleBoundary (t : Nat)
  | segmentBoundary (t : Nat)
  | seqJumpReq (fn t target : Nat)
  | seqJreq (t j hop : Nat)
  | vectorCycle (t : Nat) (pins : List Int) (drained : Nat)
  | ddsListStep (t : Nat)
  | granuleRefill (t : Nat) (errs : EccErrs)
  | holdResume (t : Nat)
  | acqArm (fn t : Nat)
  | acqTrig (fn t : Nat)
  | acqAbort (fn t : Nat)
  | acqArmIn (t hop : Nat)
  | acqTrigIn (t hop : Nat)
  | acqFireIn (t hop : Nat)
  | acqFrame (t : Nat) (drained : Nat)
  | recordEnd (t : Nat)
  | rearmDone (t : Nat)
  | rateReduction (t share port : Nat)
  | recordCommit (t : Nat)
  | accountingWindow
  | patrolScrub (word : Nat) (e : EccErr)
  | bar2Read (fn off len : Nat) (errs : EccErrs)
  | bar2Write (fn off : Nat) (bytes : List Byte) (ep : Bool) (errs : EccErrs)
  | batonDelivery
  | batFire (fn t : Nat) (v : Nat)
  | batTrkFire (fn : Nat) (v : Nat)
  | routeWrite (a : Acc) (w : Word)
  | trigInput (n sub : Nat)
  | trigoutEnd (n : Nat)
  | catReq (fn : Nat) (p : CalParams)
  | calReq (fn q tag rq : Nat) (p : CalParams)
  | invalidate (fn scope set t s : Nat)
  | catAbort (fn run : Nat)
  | calAbort (fn tag : Nat)
  | calLaneTurn (t : Nat)
  | pendingTimeout (t s : Nat)
  | calLaneEnd (t : Nat) (m : CalMeas)
  | catCommit (run : Nat)
  | interpolation (t s : Nat)
  | autoRecal (t : Nat)
  | autoSwap (t : Nat)
  | handOut (fn t s waitMs doneEv : Nat)
  | handBack (fn t s waitMs doneEv : Nat)
  | test (fn t s waitMs doneEv : Nat)
  | retire (fn t s waitMs doneEv : Nat)
  | unretire (fn t s waitMs doneEv : Nat)
  | svcAbort (fn ticket : Nat)
  | svcWaitTimeout (t : Nat)
  | transferStart (t : Nat)
  | transferMatch (t : Nat) (meanUv : Int)
  | share (t : Nat)
  | shareStep (t : Nat)
  | transferSwap (t : Nat)
  | transferComplete (t : Nat)
  | oldSenseOpen (t : Nat)
  | transferAbort (t : Nat)
  | leaveEnd (t : Nat)
  | tileSvcDown (fn t : Nat)
  | tileSvcUp (fn t : Nat)
  | tileSvcReset (fn t : Nat)
  | archDown (fn : Nat)
  | archUp (fn : Nat)
  | ucodeStage (fn off : Nat) (last : Bool) (bytes : List Byte) (sigOk : Bool) (ver : Nat)
  | ucodeApply (fn mask drainMs : Nat)
  | ucodeLoad (t : Nat)
  | drainTimeout (t : Nat)
  | ucodeCommit (fn : Nat)
  | fwStage (fn off : Nat) (last : Bool) (bytes : List Byte) (sigOk : Bool)
  | watchdog
  | linkTraining (port : Nat) (width : Nat) (peer : WlPeer)
  | linkLoss (port : Nat) (cause : LossCause) (queued : Nat) (n : Nat) (reach0 : Bool)
  | walulFrame (port : Nat) (f : WlFrame) (crcOk : Bool)
  | walulDelivery
  | align (fn : Nat) (m : AlignMeas)
  | alignAuto (m : AlignMeas)
  | alignLoad (x : Nat) (count : Nat) (trim : Int) (meas : LoadMeas)
  | vinValid (mv : Nat) (st : Straps) (fwA fwB : Bool)
  | perst (st : Straps) (fwA fwB : Bool)
  | warm (fn : Nat)
  | hotReset
  | devReady (failed : Nat)
  | powerFail (slope : Bool) (trace : List Nat)
  | pfailRecord
  | aonOff
  | pfailRestart (st : Straps) (fwA fwB : Bool)
  | cqWrite (fn q off : Nat) (words : List QData) (whole ep : Bool)
  | commandTake (fn q : Nat)
  | fence (fn q tag rq : Nat)
  | staleTail (fn q : Nat)
  | compatStallTimeout (fn q : Nat)
  | flush (fn q : Nat)
  | arcDmaRd (fn q tag rq iova off len : Nat)
  | arcDmaWr (fn q tag rq iova off len : Nat)
  | dmaAbort (fn tag : Nat)
  | dmaComplete (fn tag : Nat) (ws : List Word) (err : Bool) (ep : List Nat) (errs : EccErrs)
  | resultWrite (fn r : Nat)
  | resultDoorbell (fn r v : Nat)
  | moderationTimer (fn r : Nat)
  | flr (fn : Nat)
  | flrComplete (fn : Nat)
  | perstRelease
  | powerStateChange (fn : Nat) (d3 : Bool)
  | busMasterEnable (fn : Nat) (en : Bool)
  | phaseTracking (errPs : Int) (refin0 : Bool)
  | frontEndTestEnd (t : Nat) (pass : Bool)
  | autoRecalEnd (t refvUv : Nat) (ref1 ref2 : Int) (lines : List Nat × List Nat)
  | blockHeadersRead (t : Nat) (errs : EccErrs)
deriving DecidableEq, Repr

end Sys2Proof
end

