-- ==== Sys2Proof/Decode.lean ====
section
/-! DEFINITION. The command a word spells. `spec/opcode_table.json` gives no row of this part any bits: the commands are
register writes, queue commands and events, not words of an instruction stream. So no word spells a command. (The queue
words of R416 to R425 are data of the state and are taken apart by COMMAND_TAKE.) -/

namespace Sys2Proof

/-- The command that the `nbits`-bit word `w` spells by the table's bits: none, as no row has bits. -/
def decodeTableWord (_nbits _w : Nat) : Option Instr := none

end Sys2Proof
end

