-- ==== Sys2Proof/Config.lean ====
section
/-! DEFINITION. The free values of the model: constants without a body, each for a value that the spec does not give.
No statement can rest on one of them; log entries 4 to 9, 11, 20, 24, 26, 27, 29, 30, 34, 37, 40, 47 and 48 name where
each is used. -/

namespace Sys2Proof

/-- The rounding of a mean that the 24-bit CODE cannot hold exactly (R47 gives none): numerator and divisor (log entry 5). -/
opaque Config.roundMean : Int → Nat → Int

/-- The tick delay, 2 or 3, of a TRIG land's synchroniser (R293), for the n-th crossing (log entry 6): its parity is used. -/
opaque Config.trigDelay : Nat → Nat

/-- What the Archive gives above its guaranteed bandwidth in an accounting window, in bytes (R246, R247; log entry 37). -/
opaque Config.arcSurplus : Nat → Nat

/-- UNIT of ARC_UE_LOG where an acquisition unit's write meets a multi-bit error: the item names no code for it (R244, R485; log
entry 47). -/
opaque Config.acqUnit : Nat

/-- The rounding of the DDS stimulus to a force-DAC code (R97 gives none): amplitude code, phase (log entry 7); its parity is
used. -/
opaque Config.ddsRound : Nat → Nat → Int

/-- A byte that a DMA ended by ARCH-off or a site reset leaves undefined (R433), by its place (log entry 8). -/
opaque Config.dmaByte : Nat → BitVec 8

/-- The CRC-32 of a power-fail record (R398 names no polynomial), as a function of its bytes (log entry 9). -/
opaque Config.crc32 : List (BitVec 8) → BitVec 32

/-- A tick that the spec gives no value: FIRST_TICK and END_TICK of a record cut before any frame (R230, R240; log entry 20). -/
opaque Config.freeTick : Nat → Nat

/-- The value that DEV_FAULT_LOG holds for a fault without a measured value that crossed a threshold: GANG, and a booster
fault by BFLT# (R264 gives none), for the n-th draw (log entry 26). -/
opaque Config.faultValue : Nat → Int

/-- The code, 0 to 15, under which DEV_FAULT_LOG holds a tile that failed its initialisation (R390 gives none), for the n-th draw
(log entry 26): taken modulo 16. -/
opaque Config.faultCode : Nat → Nat

/-- The codes of TILE_HO_LOG.REASON (R485 gives none), by the source of the abort (log entry 24). -/
opaque Config.hoReason : Nat → Nat

/-- How many units of 1/1,024 tick WL_PHASE moves at a measurement (R364 bounds its rate at 2 ps per millisecond and gives no
step), for the n-th draw (log entry 27); it is used within what the bound allows. -/
opaque Config.phaseStep : Nat → Nat

/-- The outcome of a self-check that a tile's start made before DEV_READY, where no WMCHK_DONE command gave it (log entry 29):
for the n-th draw. -/
opaque Config.chkResult : Nat → Nat

/-- A word of a mailbox item whose layout the spec does not give (WL_ALIGN_LOG, WL_LINK_LOG; R357, R485): of what is recorded, the
word at a place (log entry 30). -/
opaque Config.itemWord : List Int → Nat → Nat

/-- The 32-bit word at a byte offset of an entry of the Catalogue, whose byte layout the spec does not give (R315, R316), as a
function of the entry's content (log entry 30). -/
opaque Config.entryWord : List Int → Nat → Nat

/-- The CRC-32 over a bank of the Catalogue (R312 names no polynomial), as a function of its content (log entry 9). -/
opaque Config.bankCrc : List Int → BitVec 32

/-- The operations that an action of an engine costs: R115 bounds them and gives no count (log entry 34), for the n-th draw; taken
modulo the bound plus one. -/
opaque Config.opCount : Nat → Nat

/-- The device finds a word of a result packet corrupt (R428): of the `n`-th packet, by its place; no rule says when. -/
opaque Config.badWord : Nat → Nat → Bool

/-- A reset of the host link is due to an uncorrectable error inside the host port (R407), for the n-th draw: the row HOT_RESET does
not tell its cause (log entry 40). -/
opaque Config.portError : Nat → Bool

/-- VIN readings in mV of which no command tells: those of the record of a CORE_HOT shutdown (R398), for the n-th draw and the
reading's place; taken modulo 2^16 (log entry 48). -/
opaque Config.vinTrace : Nat → Nat → Nat

/-- What a power-fail record reads as whose commit was cut off (R398): the word at a place of the `n`-th record; taken modulo 2^32
(log entry 48). -/
opaque Config.cutWord : Nat → Nat → Nat

end Sys2Proof
end

