-- ==== Sys2Proof/Machine/State.lean ====
section
/-! DEFINITION. The state of one CG9144 module as plain data: its register fields, and beside them everything the spec
gives the module that no register shows (queues, transfers in progress, timers, stores), with `State.reset`. -/

namespace Sys2Proof.Machine

/-- Why a step can stop. -/
inductive Fault where
  /-- Raised by OVERDRIVE, BOOST_SENSE_OVERDRIVE, VIN_REVERSED and VIN_VALID when the voltage presented lies beyond the
  absolute maximum ratings of R488: the spec says that such stress can damage the module and gives no effect. Safe. -/
  | beyondRatings
deriving DecidableEq, Repr

/-- Why a command has no meaning. -/
inductive Refusal where
  /-- Raised by an arm of `exec` whose row has no meaning yet; no arm raises it now. Safe. -/
  | notModelled (mnemonic : String)
deriving DecidableEq, Repr

/-- A register page (R459, R460). `q fn` is the queue page of function `fn`. -/
inductive Page where
  | dev | pace | pwr | cat | cur | trk | wl
  | q (fn : Nat)
  | arc | site
  | tile (t : Nat)
  | lane (t s : Nat)
  | seq (t : Nat)
  | acq (t : Nat)
  | bat (t : Nat)
  | eng (t k : Nat)
  | ctxHdr (t : Nat)
deriving DecidableEq, Repr

/-- The register classes of R447. -/
inductive Cls where
  | cfg | live | stat | evt | cnt | cmd | seal
deriving DecidableEq, Repr

/-- A named register field (R444, R466 to R484): the byte offset of its register on its page, its lowest bit and its
width, its class, its reset value, and for a field that is copied per PCI Express function (R445) whose copy it is.
`Machine/RegMap.lean` names them all. -/
structure Fld where
  off : Nat
  lo  : Nat
  w   : Nat
  cls : Cls
  rst : Nat
  fn  : Nat
deriving DecidableEq, Repr

/-- The value of one register field of one page. -/
structure Cell where
  page : Page
  fld  : Fld
  val  : Nat
deriving DecidableEq, Repr

/-- A set of register fields; a field not listed has its reset value. -/
abbrev RegTab := List Cell

/-- A sparse table in rising order of key. -/
abbrev Tab (α : Type) := List (Nat × α)

/-- The three variants (R2). -/
inductive Variant where
  | a | m | b
deriving DecidableEq, Repr

/-- The board profile in flash (R26, R389): whether its signature verifies and the values it gives to fields. -/
structure Profile where
  sigOk  : Bool := true
  values : List Cell := []
deriving DecidableEq, Repr

/-- A timestamp (R17): pace count, sub-tick in 1.25 ns / 128, and the NO_REFIN flag of R279. -/
structure Stamp where
  tick : Nat := 0
  sub  : Nat := 0
  noRefin : Bool := false
deriving DecidableEq, Repr

/-- The switch states of R108, in the order of their codes (R477); UNPOWERED has no readable code. -/
inductive Sw where
  | unpowered | disconnected | preconnect | connecting | connected | measureOnly | toPin | toSmu | pin
  | disconnecting | faulted
deriving DecidableEq, Repr

/-- Who holds a lane lock (R24). `ended` is the run of context `id` that is DONE by an abort with ABORT_ACT = DISCONNECT, whose
lock goes when the lane is DISCONNECTED (R160). -/
inductive Owner where
  | ctx (id : Nat)
  | ended (id : Nat)
  | seq
  | curator
deriving DecidableEq, Repr

/-- Why a lane disconnects; `host` is a DISCONNECT command or MODE = OFF (R57), `act` a supervisor's or fault's ACT. -/
inductive DcCause where
  | host | act | fault | site | tileDown | pfail | laneReset | run
deriving DecidableEq, Repr

/-- A request for lane locks that waits (R130, R165, R323): level −1 is the Curator's. -/
structure LockReq where
  who   : Owner
  tile  : Nat
  slots : List Nat
  level : Int
deriving DecidableEq, Repr

/-- The step fields of a LIN, LIST or MEAS descriptor (R134, R137). -/
structure StepCfg where
  desc : Nat := 0
  sn : Nat := 0
  tag : Nat := 0
  res : Bool := false
  chk : Bool := false
  mark : Bool := false
  pack : Bool := false
  stepTicks : Nat := 200
  settle : Nat := 0
  reps : Nat := 1
  avg : Nat := 0
  qty : Nat := 0
  strobe : Bool := false
  group : Nat := 0
  count : Nat := 1
  lim : Option Nat := none
  fires : List Nat := []
deriving DecidableEq, Repr

/-- A DAC queue entry (R51) with the step it belongs to: `k` the step index, `rep` the repetition, 0 for the first; `keep` is set
where it plays the level that stands (R139). -/
structure QEntry where
  w   : Word := 0
  k   : Nat := 0
  rep : Nat := 0
  cfg : StepCfg := {}
  fin : Bool := false
  keep : Bool := false
deriving DecidableEq, Repr

/-- The samples of an aperture so far: their sum in units of code × FS, their number and the flags of R47. -/
structure SampleAcc where
  sum : Int := 0
  n : Nat := 0
  ranging : Bool := false
  compl : Bool := false
  ovr : Bool := false
  stale : Bool := false
  fs : Nat := 0
deriving DecidableEq, Repr

/-- A step whose first entry has played: its update tick, its aperture [apStart, apEnd) and what it has gathered. -/
structure ActiveStep where
  cfg : StepCfg := {}
  k : Nat := 0
  entry : Word := 0
  u : Nat := 0
  apStart : Nat := 0
  apEnd : Nat := 0
  slips : Nat := 0
  refused : Bool := false
  v : SampleAcc := {}
  i : SampleAcc := {}
deriving DecidableEq, Repr

/-- A step result in the lane's aperture result latch (R144): the step and its one or two lane result words. -/
structure StepResult where
  step : ActiveStep := {}
  r0 : Nat := 0
  r1 : Nat := 0
deriving DecidableEq, Repr

/-- A pulse train in progress (R70 to R73): its next or present pulse start, the pulses ended, whether the top is out, a STOP
that waits for the pulse end, the hop count of its start. -/
structure Pulse where
  start : Nat := 0
  done : Nat := 0
  onTop : Bool := false
  stopReq : Bool := false
  hop : Nat := 0
deriving DecidableEq, Repr

/-- The measurement of a pulse (R74): its first sample tick, samples per quantity, quantity code and what it gathered. -/
structure PulseMeas where
  start : Nat := 0
  avg : Nat := 0
  qty : Nat := 0
  v : SampleAcc := {}
  i : SampleAcc := {}
deriving DecidableEq, Repr

/-- The state of a window monitor (R252). -/
inductive WmState where
  | inside | above | below
deriving DecidableEq, Repr

/-- A window monitor beside its registers: the raw state and the tick from which it stands, the raw states before it with
theirs, newest first (R254), whether its trip clamp is engaged, and the input last presented: whether it is a current, in µV or
pA. -/
structure Monitor where
  raw : WmState := .inside
  since : Nat := 0
  hist : List (Nat × WmState) := []
  clamp : Bool := false
  inp : Option (Bool × Int) := none
deriving DecidableEq, Repr

/-- The fast pin driver of a lane (R102, R194): powered, on or off, its level in 0.5 mV, the code last acted on, the place of
its last transition in units of 7.8125 ps, whether a trip holds it off, the tick on which it was released, to wait for the next
vector cycle (R259), and whether it drives PARK because no vector has played since it came into PIN (R103). `edges` are the
transitions of the latest vector cycle, each with the state after it, and `base` the state before them; `fired` and
`strobeFired` are the places at which the stage fires them and the strobe, the deskew applied beneath (R311). -/
structure PinDrv where
  powered : Bool := false
  on : Bool := false
  level : Int := 0
  lastCode : Nat := 5
  lastEdge : Option Nat := none
  tripped : Bool := false
  release : Option Nat := none
  parked : Bool := false
  base : Bool × Int := (false, 0)
  edges : List (Nat × Bool × Int) := []
  fired : List Int := []
  strobeFired : Int := 0
deriving DecidableEq, Repr

/-- The corrections of an element (R317): `data` holds each value times `den`, and the element choices are those of `set`. -/
structure Corr where
  data : PassData := {}
  den : Nat := 1
  set : Nat := 0
deriving DecidableEq, Repr

/-- Everything a lane holds beside its register page. `dacOut` is the code that the output follows and `conv` what the force DAC
converts for it, the element's corrections applied (R317); the corrections in force and those of the latest interpolation are
those of the slot's own element, `interpAt` is the tick of that interpolation, `holdDac` the code of the hold DAC (R324), and
`outUv` the force-node voltage of the last sample in µV. -/
structure LaneDyn where
  owner : Option Owner := none
  since : Nat := 0
  forceSw : Bool := false
  senseSw : Bool := false
  pinSw : Bool := false
  ben : Bool := false
  dacLevel : Int := 0
  dacOut : Int := 0
  dacLast : Nat := 0
  dacNext : Nat := 0
  playLast : Nat := 0
  rampFrom : Int := 0
  rampStep : Nat := 0
  noRamp : Bool := false
  toStep : Nat := 0
  dacQ : List QEntry := []
  slipNow : Nat := 0
  step : Option ActiveStep := none
  dwellEnd : Nat := 0
  qFrom : Nat := 0
  qGate : Bool := true
  latA : Nat := 0
  latD : Nat := 0
  latch : List StepResult := []
  adcLast : Option Nat := none
  histV : List Int := []
  histI : List Int := []
  apStart : Nat := 0
  accV : SampleAcc := {}
  accI : SampleAcc := {}
  complSince : Nat := 0
  outCnt : Nat := 0
  complIsI : Bool := false
  complTicks : Nat := 0
  openSince : Option Nat := none
  openDone : Bool := false
  longDone : Bool := false
  upCnt : Nat := 0
  downCnt : Nat := 0
  railCnt : Nat := 0
  rangeS : Option Nat := none
  oldElem : Bool := false
  rngPend : Option (Nat × Bool) := none
  pulse : Option Pulse := none
  pm : List PulseMeas := []
  cutTs : Stamp := {}
  tripTs : Stamp := {}
  wm0 : Monitor := {}
  wm1 : Monitor := {}
  chk : Option (Nat × Nat) := none
  shortSince : Option Nat := none
  exitSince : Option Nat := none
  foldThermal : Bool := false
  foldClr : Bool := false
  foldShort : Bool := false
  probeOn : Bool := false
  probePhase : Bool := false
  mism : List Int := []
  mOn : Option (List Int) := none
  mOff : Option (List Int) := none
  evalAt : Option Nat := none
  probeStopped : Bool := false
  probeAt : Nat := 0
  foCnt : Nat := 0
  soCnt : Nat := 0
  goodCnt : Nat := 0
  foDecl : Bool := false
  swapHits : Nat := 0
  swapErr : Int := 0
  dds : Bool := false
  ddsAcc : Nat := 0
  ddsPhase : Nat := 0
  ddsAmpl : Nat := 0
  ddsFreq : Nat := 0
  ddsFreqL : Nat := 0
  ddsExit : Bool := false
  drv : PinDrv := {}
  hold : Bool := false
  holdWord : Nat := 0
  lastV : Int := 0
  lastI : Int := 0
  dcPend : Option DcCause := none
  rstPend : Bool := false
  estHold : Option Nat := none
  corr : Option Corr := none
  corrNext : Option Corr := none
  interpAt : Option Nat := none
  conv : Int := 0
  holdDac : Int := 0
  outUv : Int := 0
deriving DecidableEq, Repr

/-- The states of a context (R125), in the order of their codes. -/
inductive CtxSt where
  | free | openSt | lockWait | ready | running | armed | parked | done
deriving DecidableEq, Repr

/-- The active limits (R151, R153). -/
structure Limits where
  lo : Int := 0
  hi : Int := 0
  word : Nat := 0
  flagFail : Bool := false
  action : Nat := 0
  ev : Nat := 0
  failN : Nat := 1
  fails : Nat := 0
deriving DecidableEq, Repr

/-- A wait (R148): the channel (15 none), whether it keeps its engine, the end of a timed wait, or the timeout tick. -/
structure WaitInfo where
  go : Nat := 15
  keep : Bool := true
  timed : Bool := false
  time : Nat := 0
  endTick : Option Nat := none
  toAct : Bool := false
deriving DecidableEq, Repr

/-- A step descriptor in the course of being queued: kind 2 LIN, 3 LIST, 5 MEAS. -/
structure Gen where
  kind : Nat := 2
  cfg : StepCfg := {}
  start : Int := 0
  inc : Int := 0
  rngWord : Nat := 0
  entries : List Word := []
  k : Nat := 0
  rep : Nat := 0
deriving DecidableEq, Repr

/-- A 32-byte packet of eight words (R154 to R156, R427). -/
abbrev Packet := List Word

/-- A context of the context table (R122, R125, R484) with its run. Its packets stand with the key of the engine that wrote them
(`Ctx.engKey`): `pkts` await their write to the result queue, at most two of an engine (R145), `owed` are those that the engine
has beyond these two. `closing` says that a descriptor which waits for a result has closed the grid (R143). -/
structure Ctx where
  st : CtxSt := .free
  fn : Nat := 0
  par : CtxParams := ⟨0, false, 0, 0, 0, 0, 0, false, 15, 15⟩
  members : List Nat := []
  engine : Option Nat := none
  desc : Nat := 0
  goStart : Nat := 15
  fetched : List (Nat × List Word) := []
  gen : Option Gen := none
  genLen : Nat := 1
  gridOpen : Bool := false
  gridStrobe : Bool := false
  gridBegun : Bool := false
  waitI : Option WaitInfo := none
  loops : List Nat := [0, 0, 0, 0]
  limits : List Limits := []
  condFail : Bool := false
  anyFail : Bool := false
  steps : Nat := 0
  pass : Nat := 0
  fail : Nat := 0
  slips : Nat := 0
  outcome : Nat := 0
  reason : Nat := 0
  refuse : Nat := 0
  pkts : List (Nat × Packet) := []
  owed : List (Nat × Packet) := []
  packed : List Nat := []
  packDesc : Nat := 0
  packTag : Nat := 0
  packStep : Nat := 0
  fireEvs : List Nat := []
  nowEvs : List Nat := []
  final : Option (Nat × Int) := none
  limitStop : Bool := false
  badDesc : Option Nat := none
  connWait : Bool := false
  savedSrc : Nat := 0
  savedDiv : Nat := 80
  savedGroup : Nat := 0
  qTick : Nat := 0
  lastAp : Nat := 0
  sn : Nat := 0
  late : List Nat := []
  closing : Bool := false
deriving DecidableEq, Repr

/-- A jump request pending in a sequencer (R178): target, landing tick, whether it missed an earlier lock-in point (R182). -/
structure JumpReq where
  target : Nat
  tick : Nat
  late : Bool
deriving DecidableEq, Repr

/-- What a sequencer decided at a lock-in point for the boundary that follows it (R174, R176). -/
inductive SeqNext where
  | granule                       -- the next granule of the same repetition
  | rep                           -- the next repetition
  | seg (n : Nat)                 -- a segment by NEXT, JTARGET or PARK
  | jump (n : Nat) (late : Bool)  -- a jump request
  | hold                          -- HOLD_RESUME: the granule is missing
  | park                          -- PARK: the park segment
  | abort (reason : Nat)          -- HOLD_ABORT at this boundary
  | finish                        -- END
deriving DecidableEq, Repr

/-- A granule in the stream ring (R201): its place on the path, the tick at which it came whole (R204), 0 or the abort reason that
it carries (R192, R205), its words. -/
structure Granule where
  seg : Nat
  gran : Nat
  rep : Nat
  came : Nat := 0
  bad : Nat := 0
  words : List Nat := []
deriving DecidableEq, Repr

/-- Where the prefetcher stands on the path (R201): the granule (segment, granule, repetition) and the loop counters there;
`anchor`, `pow` and `lam` find that a stretch without a streamed granule repeats for ever (Brent's method). -/
structure Hunt where
  key : Nat × Nat × Nat
  loops : List Nat
  anchor : Option (Nat × List Nat) := none
  pow : Nat := 1
  lam : Nat := 0
deriving DecidableEq, Repr

/-- A tile's Stride sequencer beside its page: the play position, the staging buffer (resident granules by ADDR × 2^24 +
granule, DDS lists by ADDR, the stream ring) and what is pending. -/
structure SeqDyn where
  rep : Nat := 1
  gran : Nat := 0
  granStart : Nat := 0
  boundary : Nat := 0
  next : Option SeqNext := none
  jump : Option JumpReq := none
  saved : List (Nat × Nat × Nat) := []
  ring : List Granule := []
  stage : Tab (Nat × List Nat) := []
  ddsLists : Tab (List Nat × List Nat × List Nat) := []
  cur : List Nat := []
  fetchAt : Option Hunt := none
  staged : Bool := false
  started : Bool := false
  noRefin : Bool := false
  listAt : Nat := 0
  headersOk : Bool := false
  moved : Nat := 0
  und : Option (Nat × Nat × Nat) := none
  complete : Option Nat := none
  holding : Bool := false
  gapEnd : Option Nat := none
  gapTo : Nat := 0
  vec : Nat := 0
  cTick : Nat := 0
  period : Nat := 2
  failRep : Bool := false
  failNext : Bool := false
  idxF : Nat := 0
  idxP : Nat := 0
  idxA : Nat := 0
  lastSrc : Nat := 0
  firstFail : Option (Nat × Nat × Nat × Nat × Stamp) := none
  jumpTs : Stamp := {}
  endTs : Stamp := {}
  slipTotal : Nat := 0
  hop : Nat := 0
  goHop : Option Nat := none
deriving DecidableEq, Repr

/-- One stored frame of an acquisition (R211, R214): its frame tick, the end of its aperture or cycle, its words, whether it is a
RATE marker frame (R236) and whether REFIN was missing. -/
structure Frame where
  tick : Nat := 0
  endT : Nat := 0
  words : List Nat := []
  marker : Bool := false
  noRefin : Bool := false
deriving DecidableEq, Repr

/-- What the write port has yet to carry of a record, in this order (R232, R248): bytes from the pre-trigger ring, bytes of the
stream buffer, bytes of the header. -/
structure Outgo where
  pre : Nat := 0
  buf : Nat := 0
  head : Nat := 0
deriving DecidableEq, Repr

/-- A record of an acquisition while it is captured or waits for its commit (R229 to R237): `open_` says that its first
post-trigger frame has come, `seen` counts the post-trigger frames, `group` holds the frames of an unfinished decimation, `mark`
is the place of the present granule, `rr` the cause of a rate reduction decided for the next boundary, 0 for none, and `judged`
the boundary whose lock-in point came last. -/
structure Rec where
  n : Nat := 0
  trig : Nat := 0
  sub : Nat := 0
  source : Nat := 0
  firer : Bool := false
  opened : Bool := false
  pre : Nat := 0
  seen : Nat := 0
  frames : List Frame := []
  group : List Frame := []
  mark : Nat := 0
  factor : Nat := 0
  rr : Nat := 0
  judged : Nat := 0
  cause : Nat := 0
  frac : Nat := 0
  missed : Nat := 0
  dead : Nat := 0
  winEnd : Nat := 0
  overflow : Bool := false
  cut : Bool := false
  out : Outgo := {}
deriving DecidableEq, Repr

/-- A record that has ended and waits for its commit (R232): its slot's place in the Archive, its header, its frames, whether it
is the last of a completed acquisition (R238), whether an ARM has come since (R217), and what the port has yet to carry of it. -/
structure WaitRec where
  slot : Nat
  header : List Byte
  body : List Byte
  last : Bool := false
  old : Bool := false
  out : Outgo := {}
deriving DecidableEq, Repr

/-- A tile's acquisition unit beside its page: the ready tick, the frame in progress, the pre-trigger ring, the samples of the
frame by slot, the record in capture, the records that wait for their commit, and what the LEVEL condition has seen (`resolved`
bit 0: the rising side, bit 1: the falling side). `servAt` is the tick up to which the Archive has been seen to take data, `thr`
the causes of throttling since the last check (bit 0 SHARE, bit 1 PORT; R233), and
`trigAt` one more than the tick of the latest trigger delivery. -/
structure AcqDyn where
  ready : Nat := 0
  frameT : Nat := 0
  ring : List Frame := []
  accs : Tab (SampleAcc × SampleAcc × Option Bool) := []
  cap : Option Rec := none
  waiting : List WaitRec := []
  lastEnd : Nat := 0
  prevTrig : Option Nat := none
  missed : Nat := 0
  level : Option Int := none
  resolved : Nat := 0
  fired : Bool := false
  servAt : Nat := 0
  thr : Nat := 0
  trigAt : Nat := 0
  recN : Nat := 0
  endTs : Stamp := {}
deriving DecidableEq, Repr

/-- A stage of the baton's work in flight (R295): a local producer that fires (a trunk input port among them), a delivery to a
local consumer from a producer position, a trunk channel that fires, a load-strobe group, a TRIG land driven,
a TRIG land whose synchroniser shows its assertion. -/
inductive Stage where
  | prod (t pos : Nat)
  | cons (t c pos : Nat)
  | chan (ch : Nat)
  | strobe (g : Nat)
  | trigOut (n : Nat)
  | trigIn (n : Nat)
deriving DecidableEq, Repr

/-- A stage in flight: its tick, its hop count, how many mergers COALESCED counts, the Walul channel whose reception caused it
(R303), whether software fired it (R299), and the tiles whose ACQ_FIRE_OUT it carries (R225). -/
structure Flight where
  tick : Nat
  stage : Stage
  hop : Nat
  merged : Nat := 0
  fromWl : Option Nat := none
  soft : Bool := false
  firers : List Nat := []
deriving DecidableEq, Repr

/-- A service request (R345): op 1 HAND_OUT, 2 HAND_BACK, 3 TEST, 4 RETIRE, 5 UNRETIRE. -/
structure SvcReq where
  ticket : Nat
  op : Nat
  slot : Nat
  waitMs : Nat
  doneEv : Nat
  since : Nat
deriving DecidableEq, Repr

/-- A transfer between a lane's front-end and the substitute (R338): its H0, and whether it has come, its direction, the share
steps made, the step reached (0 H0, 1 matched, 2 FORCE closed, 3 swapped, 4 complete; 9 LEAVE), and whether the Curator has
taken the lock of an unlocked lane for it (R24). -/
structure Xfer where
  slot : Nat
  back : Bool
  h0 : Nat
  stage : Nat := 0
  shares : Nat := 0
  mv : Bool := false
  req : Option SvcReq := none
  forCal : Bool := false
  started : Bool := false
  locks : Bool := false
deriving DecidableEq, Repr

/-- A tile's substitute lane and its service queue (R332 to R348), with the slots whose own front-end did not pass its last test
or calibration (R336). A lane's `forceSw` and `senseSw` are the connections of the element that serves it; `otherForce` and
`otherSense` are those of the other element of a transfer (R332, R338), `forceTo` the tick on which an abort opens the first of
them, and `faults` the faults declared in a transfer, slot, code and value, whose response waits for the end of its abort
(R341). -/
structure SubstDyn where
  queue : List SvcReq := []
  active : Option SvcReq := none
  xfer : Option Xfer := none
  leaveAt : Nat := 0
  otherForce : Bool := false
  otherSense : Bool := false
  forceTo : Option Nat := none
  faults : List (Nat × Nat × Int) := []
  checking : Bool := false
  blocked : Bool := false
  failed : List Nat := []
  testing : Bool := false
  calBack : Bool := false
  logSlot : Nat := 0
  logBack : Bool := false
  logOutcome : Nat := 0
  logReason : Nat := 0
  logH0 : Stamp := {}
  logEnd : Stamp := {}
deriving DecidableEq, Repr

/-- How a lane is calibrated at its turn (R322). -/
inductive CalPath where
  | inPlace | hold | handed
deriving DecidableEq, Repr

/-- The lane under calibration in a tile. -/
structure CalTurn where
  run : Nat
  slot : Nat
  path : CalPath
  temp : Int
  set : Nat
  tSum : Int := 0
  tN : Nat := 0
deriving DecidableEq, Repr

/-- A tile beside its pages: temperatures, thermal state, calibration turn, automatic recalibration, microcode and service;
`deliv` holds one more than the tick of the latest delivery to each baton consumer (R302). `autoRefv` is CAT_REFV as the
recalibration under way has latched it; `refCal` and `lineCal` are the calibrations of copies A and B of the reference and of
the delay line, of which `refA` and `lineA` say whether copy A is the active one (R306, R331). `chkDue` is set while the
self-checks of an UP wait for its recalibration (R349), and `offAt` is the tick on which all engines of a draining tile were
OFFLINE (R350). -/
structure TileDyn where
  hot110 : Nat := 0
  hot120 : Nat := 0
  hot135 : Nat := 0
  temp : Int := 0
  temps : List Int := []
  below110 : Option Nat := none
  tshut : Bool := false
  turn : Option CalTurn := none
  calWait : List (Nat × Nat × Nat) := []
  autoRun : Bool := false
  autoSwapAt : Option Nat := none
  autoRetry : Nat := 0
  autoRetryAt : Nat := 0
  autoLast : Nat := 0
  autoTemp : Int := 0
  autoRefv : Nat := 5000000
  autoRef : Option Int := none
  autoRefRes : Int := 0
  autoLine : List Int := []
  autoLineRes : Int := 0
  refA : Bool := true
  lineA : Bool := true
  refCal : Int × Int := (0, 0)
  lineCal : List Int × List Int := ([], [])
  draining : Bool := false
  drainEnd : Nat := 0
  goingDown : Bool := false
  svcUp : Bool := false
  chkDue : Bool := false
  offAt : Option Nat := none
  deliv : Tab Nat := []
  svcReset : Bool := false
  chkFail : Nat := 0
  lastDisp : List Nat := [255, 255, 255, 255]
deriving DecidableEq, Repr

/-- The new values of a lane that wait for its run's commit (R329): the set, its data and quality figures, its T_SET, and the
upper elements of the force DAC that the run has marked failed (R308). -/
structure KeptCal where
  set : Nat
  data : PassData
  q : Quality
  tSet : Int
  marks : List Nat := []
deriving DecidableEq, Repr

/-- A calibration run (R319 to R329): outcomes by tile × 10 + slot; `noRefv` are the tiles whose check of REFV has failed
(R309). -/
structure CalRun where
  id : Nat
  fn : Nat
  cmd : Option (Nat × Nat × Nat) := none
  p : CalParams
  refv : Nat := 5000000
  refDone : List Nat := []
  outcomes : Tab Nat := []
  monSkip : List Nat := []
  kept : Tab KeptCal := []
  noRefv : List Nat := []
  ended : Bool := false
  started : Bool := false
  seqNo : Nat := 0
  silent : Bool := false
deriving DecidableEq, Repr

/-- A set entry of the Catalogue (R315). -/
structure SetEntry where
  valid : Bool := false
  tSet : Int := 0
  gen : Nat := 0
  data : PassData := {}
  q : Quality := {}
deriving DecidableEq, Repr

/-- A set of a tile part (R315): the reference's calibration in 0.01 ppm, the delay line's 160 positions in 0.01 ps, and the
tile-level quality figures, the differences of the two passes. -/
structure TilePart where
  valid : Bool := false
  tSet : Int := 0
  gen : Nat := 0
  ref : Int := 0
  line : List Int := []
  refRes : Int := 0
  lineRes : Int := 0
deriving DecidableEq, Repr

/-- One bank of the Catalogue (R312, R314): the header's 64-bit generation, format version and CRC, none where no header has
been written; the set entries by (tile × 10 + slot) × 8 + set, the tile parts by tile × 8 + set, and as a lane's lane-wide data,
by tile × 10 + slot, the upper elements marked failed (R308). -/
structure Bank where
  gen : Nat := 0
  version : Nat := 0
  crc : Option Word := none
  entries : Tab SetEntry := []
  parts : Tab TilePart := []
  marks : Tab (List Nat) := []
deriving DecidableEq, Repr

/-- The place of a set entry of slot `s`, and of a set of a tile part (R314). -/
def setKey (t s set : Nat) : Nat := (t * 10 + s) * 8 + set
def partKey (t set : Nat) : Nat := t * 8 + set

/-- Correction data that corrects nothing, with every list at its length (R306, R315): the first elements, in order. -/
def plainData : PassData :=
  { adcSel := List.range 31, adcTrims := List.replicate 13 0, adcPts := List.replicate 256 0, dacSel := List.range 63,
    dacTrims := List.replicate 14 0, dacPts := List.replicate 256 0, hold := [0, 0], gains := List.replicate 10 0,
    offs := List.replicate 10 0, mons := [0, 0], edges := [0, 0, 0, 0] }

/-- The factory image as the model has it at reset (R313): set 0 of every lane and tile part, measured at 40 °C, as generation
1. Its values are the part's own: DESIGN CHOICE, they correct nothing (log entry 46). -/
def factoryBank : Bank :=
  { gen := 1, version := 1,
    entries := (List.range 160).map fun k =>
      (8 * k, { valid := true, tSet := 400, gen := 1, data := plainData, q := { offsPa := List.replicate 7 0, sparesDac := 5, sparesAdc := 4 } }),
    parts := (List.range 16).map fun t => (8 * t, { valid := true, tSet := 400, gen := 1, line := List.replicate 160 0 }) }

/-- MRAM and flash (R312 to R314, R347, R351, R352, R398): they outlive every reset. The factory section holds the factory
image, the values of the reference resistors of the seven current decades in mΩ and the part's serial number (DESIGN CHOICE at
reset: 1 V at the decade's full scale, and 0; log entry 46). -/
structure Nv where
  bankA : Bank := {}
  bankB : Bank := {}
  factory : Bank := factoryBank
  resist : List Nat := [10000000000, 1000000000, 100000000, 10000000, 1000000, 100000, 15625]
  serial : Nat := 0
  retired : List Nat := List.replicate 16 15
  ucodeFlash : Option Nat := none
  lastUcode : List Nat := List.replicate 16 0
  fwA : Nat := 0
  fwB : Nat := 0
  bootCount : Nat := 0
  lastReset : Nat := 0
  fwRun : Nat := 0
  okA : Bool := true
  okB : Bool := true
  pfPending : Bool := false
  hotPending : Bool := false
  calLog : List (Nat × Nat × Nat × Bool) := []
deriving DecidableEq, Repr

/-- A fault-log entry (R264, R485). -/
structure FaultEntry where
  ts : Stamp
  index : Nat
  tile : Nat
  slot : Nat
  code : Nat
  value : Int
deriving DecidableEq, Repr

/-- A lane's entry in the power-fail record (R398). -/
structure PfLane where
  sw : Nat
  mode : Nat
  pers : Nat
  vr : Nat
  ir : Nat
  owner : Nat
  level : Int
  ctx : Nat
  flags : Nat
deriving DecidableEq, Repr

/-- A power-fail record (R398). -/
structure PfRec where
  cause : Nat := 0
  flags : Nat := 0
  index : Nat := 0
  boot : Nat := 0
  decl : Nat := 0
  safe : Option Nat := none
  cut : Bool := false
  est : Nat := 0
  allow : Nat := 0
  trace : List Nat := []
  temps : List Int := []
  domains : Nat := 0
  lanes : List PfLane := []
  ops : List (Nat × Nat × Nat × Nat) := []
deriving DecidableEq, Repr

/-- PWR_LAST_REFUSE (R286, R485). -/
structure LastRefuse where
  fn : Nat := 0
  tile : Nat := 0
  slot : Nat := 0
  limit : Nat := 0
  dom : Bool := false
  domain : Nat := 0
  present : Nat := 0
  requested : Nat := 0
  sum : Nat := 0
  tileSum : Nat := 0
  allow : Nat := 0
deriving DecidableEq, Repr

/-- A word in a command queue: data, end mark, parity bit, and whether it came with EP set (R416, R417). -/
structure QWord where
  data : QData
  last : Bool
  par : Bool
  ep : Bool
deriving DecidableEq, Repr

/-- A command queue beside its fields (R416 to R423): words, the tick of the latest one, whether words up to the next end
mark are to be discarded, the write that is stalled (R420), and completions that wait for their ring. -/
structure CmdQ where
  words : List QWord := []
  latest : Nat := 0
  skip : Bool := false
  stalled : List QWord := []
  stallAt : Nat := 0
  blocked : List (Nat × Packet) := []
deriving DecidableEq, Repr

/-- A result queue beside its fields: packets not yet signalled, the tick of the first of them, and the packets of closed
contexts that wait or are owed (R428 to R430). -/
structure ResQ where
  unsig : Nat := 0
  first : Nat := 0
  waiting : List (Nat × Packet) := []
  owed : List (Nat × Packet) := []
deriving DecidableEq, Repr

/-- An outstanding Archive DMA command (R432, R433), with the bytes that have moved and the region offset of the first poisoned word
met. -/
structure Dma where
  fn : Nat
  q : Nat
  tag : Nat
  rq : Nat
  wr : Bool
  iova : Nat
  off : Nat
  len : Nat
  seq : Nat := 0
  silent : Bool := false
  moved : Nat := 0
  bad : Option Nat := none
deriving DecidableEq, Repr

/-- A PCI Express function (R405 to R407, R414, R423, R431, R434): its power state, Bus Master Enable, a running FLR, the status and
result of its latest command, what AER has logged (R407: bit 0 a poisoned TLP received, bit 1 a completion returned poisoned, bit 2
a device read that failed, bit 3 an access in D3hot, bit 4 an uncorrectable error inside the host port), and the command queue
served last. -/
structure FnDyn where
  d3 : Bool := false
  bme : Bool := false
  flr : Option Nat := none
  status : Nat := 0
  result : Nat := 0
  dmaEnded : List Nat := []
  aer : Nat := 0
  qLast : Nat := 7
deriving DecidableEq, Repr

/-- MSI-X of a function (R410, R414): enabled, the table's words by vector × 4 + word, the vectors whose pending bit is 1, and the
messages sent by vector. -/
structure Msi where
  en : Bool := false
  table : Tab Nat := []
  pba : List Nat := []
  sent : Tab Nat := []
deriving DecidableEq, Repr

/-- A received or echoed Walul frame waiting for its delivery tick (R366). -/
structure WlPend where
  tick : Nat
  chan : Nat
  hop : Nat
  origin : Nat
deriving DecidableEq, Repr

/-- The Walul link beside its page (R354 to R375). Of the last ALIGN the load ticks with the old and new count, the links'
delays and the residuals in ps are kept (R357, R362); `alignAsked` is set from a host's write of WL_ALIGN.CMD on module 0 until
ALIGN begins, at tick `alignAt`. `slewAt` is the tick up to which the phase has slewed, `via` holds the ports through which module 0
is reached, `size` the modules along the wiring and `links` the links that are UP, of which the module's own ports tell theirs. -/
structure WlDyn where
  topoErr : List Nat := []
  pend : List WlPend := []
  seen : List (Nat × Nat × Nat) := []
  bad0 : Nat := 0
  bad1 : Nat := 0
  sent : List (Nat × WlFrame) := []
  log : List (Stamp × Nat × Nat × Nat × Nat) := []
  alignOk : Bool := false
  alignBusy : Bool := false
  alignSteps : List (Nat × Nat × Nat) := []
  alignDelays : List Nat := []
  alignResid : List Nat := []
  alignAsked : Bool := false
  alignAt : Nat := 0
  slewAt : Nat := 0
  via : List Nat := []
  size : Nat := 8
  links : Nat := 0
deriving DecidableEq, Repr

/-- A reset of the part that waits for every lane to be DISCONNECTED (R389, R393): whether it is a cold reset, its cause code
and what a cold reset latches. -/
structure RstReq where
  cold : Bool
  cause : Nat
  straps : Straps
  fwA : Bool
  fwB : Bool
deriving DecidableEq, Repr

/-- The Archive's bandwidth in the present accounting window (R246, R247): its first tick, the bytes that each function has moved
in it, the functions that wait for bandwidth beyond their share, and the bytes of accepted writes that still wait for theirs. -/
structure Acct where
  win : Nat := 0
  use : Tab Nat := []
  want : List Nat := []
  debt : Tab Nat := []
deriving DecidableEq, Repr

/-- What AON and the Curator hold beside their pages: the power state, the power-fail record being made, the firmware and
microcode staged, requests under way, and their last answers (R485 to R487). -/
structure CurDyn where
  aon : Bool := true
  linkUp : Bool := false
  perst : Bool := true
  pfail : Option PfRec := none
  pfSaved : Bool := false
  rst : Option RstReq := none
  coreHot : Bool := false
  refinBack : Bool := false
  hotCtl105 : Nat := 0
  hotCtl125 : Nat := 0
  hotArc95 : Nat := 0
  hotArc105 : Nat := 0
  stageBuf : List Host.Cell := []
  staged : Option Nat := none
  fwBuf : List Host.Cell := []
  applyMask : Nat := 0
  applyMs : Nat := 0
  applyOk : Nat := 0
  applyTo : Nat := 0
  nextRun : Nat := 0
  nextTicket : Nat := 0
  svcOut : Tab Nat := []
  catReqSt : Nat := 0
  catReqId : Nat := 0
  catCmdSt : Nat := 0
  svcSt : Nat := 0
  svcId : Nat := 0
  tileSt : Nat := 0
  tileMask : Nat := 0
  tileReq : Option Nat := none
  domSt : Nat := 0
  ucStageSt : Nat := 0
  ucApplySt : Nat := 0
  ucCommitSt : Nat := 0
  fwSt : Nat := 0
  refuse : LastRefuse := {}
  allowUw : Nat := 0
  refinLoss : Stamp := {}
  refinLock : Stamp := {}
  ueLog : Option (Nat × Nat × Nat × Nat) := none
  trigTs : Tab Stamp := []
  trigUntil : Tab Nat := []
  acct : Acct := {}
  dmaLast : Nat := 16
deriving DecidableEq, Repr

/-- The state of one module. -/
structure State where
  /-- The commands that wait, first in, first out. -/
  pending : List Instr := []
  /-- The host's accesses that wait behind a stalled write, first in, first out (R420). -/
  held : List Instr := []
  /-- The pace count (R17). -/
  pace : Nat := 0
  /-- The model's own counter of free values drawn (log entry 4). -/
  freeCtr : Nat := 0
  /-- The variant fitted (R2) and the straps as latched at the last cold reset (R355). -/
  variant : Variant := .a
  straps : Straps := ⟨0, 0, false⟩
  /-- The board profile in flash (R26). -/
  profile : Profile := {}
  /-- The module is the last of its CHAIN, by the board's wiring (R356). -/
  chainEnd : Bool := false
  /-- The register fields that differ from, or have been written since, reset. -/
  regs : RegTab := []
  /-- The LIVE lane fields as latched, that is, as in force (R22). -/
  lat : RegTab := []
  /-- The lanes, by tile × 10 + slot. -/
  lanes : Tab LaneDyn := []
  /-- Lane-lock requests that wait, in order of arrival (R130). -/
  locks : List LockReq := []
  /-- The context table, by ID (R117). -/
  ctxs : Tab Ctx := []
  /-- Operations executed per engine, by tile × 64 + k (R113). -/
  engOps : Tab Nat := []
  seqs : Tab SeqDyn := []
  /-- The segment tables, by (tile × 4096 + entry) × 8 + word (R169). -/
  segTab : Tab Word := []
  acqs : Tab AcqDyn := []
  substs : Tab SubstDyn := []
  tiles : Tab TileDyn := []
  /-- Baton stages in flight (R295). -/
  flight : List Flight := []
  /-- BAT_TSCAP items by tile × 4 + n: timestamp, hop, position (R300). -/
  tscap : Tab (Stamp × Nat × Nat) := []
  /-- Archive bytes in rising order of address, none 0; an unlisted byte reads as 0 (R243). -/
  arc : List Host.Cell := []
  /-- The Archive pages whose written bit is set (R243) and the 8-byte words that are poisoned (R244). -/
  written : List Nat := []
  poison : List Nat := []
  /-- The model's own: bit errors that lie in Archive words and that no access has met yet; true marks a multi-bit error. -/
  latent : EccErrs := []
  /-- Functions, command queues by function × 8 + n, result queues by function × 16 + r. -/
  fns : Tab FnDyn := []
  cqs : Tab CmdQ := []
  rqs : Tab ResQ := []
  dmas : List Dma := []
  /-- Bytes that the device has written into host memory, none 0 (R428). -/
  hostMem : List Host.Cell := []
  /-- MSI-X, by function (R414). -/
  msix : Tab Msi := []
  cals : List CalRun := []
  /-- Working copy of the Catalogue (R313). -/
  catalogue : Bank := {}
  nv : Nv := {}
  faultLog : List FaultEntry := []
  pfRecs : List PfRec := []
  wl : WlDyn := {}
  cur : CurDyn := {}
deriving DecidableEq, Repr

/-- The module right after a cold reset by VIN (R389, first row): AON is on and nothing else, the straps are latched, the
pace count is 0, every register has its reset value, no command waits. The variant, the straps, an empty board profile and
factory-new MRAM and flash are named in log entry 2. -/
def State.reset : State :=
  { regs := [⟨.pwr, ⟨0x114, 0, 20, .stat, 0, 0⟩, 1⟩] }

end Sys2Proof.Machine
end

