-- ==== Sys2Proof/Machine/RegMap.lean ====
section
/-! DEFINITION. The register map (R444, R459 to R484) as data: where each named field lies, its class and its reset
value, which fields each kind of page holds, and which LIVE registers carry ORIGIN (R465). -/

namespace Sys2Proof.Machine

/-! A reset value given in Register map as "Profile", "Strap", "Variant" or "—" is 0 here: the boot code, the straps or the
hardware write it (log entry 2). -/

/-! Fields of the common page header (R444); `fn` is the agent whose copy it is (R445). -/

def Fld.pageEn : Fld := ⟨0x00C, 0, 1, .live, 0, 0⟩
def Fld.ignIgn (fn : Nat) : Fld := ⟨0x014, 0, 1, .evt, 0, fn⟩
def Fld.ignErr (fn : Nat) : Fld := ⟨0x014, 1, 1, .evt, 0, fn⟩
def Fld.ignCnt (fn : Nat) : Fld := ⟨0x014, 16, 8, .cnt, 0, fn⟩
def Fld.errCnt (fn : Nat) : Fld := ⟨0x014, 24, 8, .cnt, 0, fn⟩
def Fld.ignOff (fn : Nat) : Fld := ⟨0x018, 0, 12, .stat, 0, fn⟩
def Fld.errOff (fn : Nat) : Fld := ⟨0x018, 16, 12, .stat, 0, fn⟩
def Fld.errWr (fn : Nat) : Fld := ⟨0x018, 28, 1, .stat, 0, fn⟩
def Fld.evtEn (fn : Nat) : Fld := ⟨0x024, 0, 32, .live, 0, fn⟩
def Fld.mbxSelItem (fn : Nat) : Fld := ⟨0x030, 0, 16, .live, 0, fn⟩
def Fld.mbxValid (fn : Nat) : Fld := ⟨0x034, 0, 1, .stat, 0, fn⟩
def Fld.mbxBusy (fn : Nat) : Fld := ⟨0x034, 1, 1, .stat, 0, fn⟩
def Fld.mbxDone (fn : Nat) : Fld := ⟨0x034, 2, 1, .evt, 0, fn⟩
def Fld.mbxResult (fn : Nat) : Fld := ⟨0x034, 8, 3, .stat, 0, fn⟩
def Fld.mbxItem (fn : Nat) : Fld := ⟨0x034, 16, 16, .stat, 0, fn⟩
def Fld.mbxOp (fn : Nat) : Fld := ⟨0x038, 0, 2, .cmd, 0, fn⟩
def Fld.mbxCmdItem (fn : Nat) : Fld := ⟨0x038, 16, 16, .live, 0, fn⟩
def Fld.mbxData (fn n : Nat) : Fld := ⟨0x040 + 4 * n, 0, 32, .live, 0, fn⟩

/-! Fields of the device page (R466). -/

def Fld.devCapVariant : Fld := ⟨0x100, 0, 4, .stat, 0, 0⟩
def Fld.devCapArcSize : Fld := ⟨0x100, 4, 4, .stat, 0, 0⟩
def Fld.devCapDds : Fld := ⟨0x100, 8, 1, .stat, 0, 0⟩
def Fld.devCapBoost : Fld := ⟨0x100, 9, 1, .stat, 0, 0⟩
def Fld.devCapWalul : Fld := ⟨0x100, 10, 1, .stat, 0, 0⟩
def Fld.devStrapIndex : Fld := ⟨0x104, 0, 3, .stat, 0, 0⟩
def Fld.devStrapTopo : Fld := ⟨0x104, 4, 2, .stat, 0, 0⟩
def Fld.devStrapRefin : Fld := ⟨0x104, 8, 1, .stat, 0, 0⟩
def Fld.devStatReady : Fld := ⟨0x108, 0, 1, .stat, 0, 0⟩
def Fld.devStatAlert : Fld := ⟨0x108, 1, 1, .evt, 0, 0⟩
def Fld.devStatProfileBad : Fld := ⟨0x108, 2, 1, .stat, 0, 0⟩
def Fld.devStatBootFail : Fld := ⟨0x108, 3, 1, .stat, 0, 0⟩
def Fld.devStatFwFallback : Fld := ⟨0x108, 4, 1, .evt, 0, 0⟩
def Fld.devStatFwSlot : Fld := ⟨0x108, 5, 1, .stat, 0, 0⟩
def Fld.devStatLastReset : Fld := ⟨0x108, 8, 3, .stat, 0, 0⟩
def Fld.devStatTileFail : Fld := ⟨0x108, 16, 16, .stat, 0, 0⟩
def Fld.devCtrlWarm : Fld := ⟨0x10C, 0, 1, .cmd, 0, 0⟩
def Fld.devAlertEnFault : Fld := ⟨0x110, 1, 8, .live, 0xFF, 0⟩
def Fld.devAlertEnTwarn : Fld := ⟨0x110, 16, 1, .live, 1, 0⟩
def Fld.devAlertEnOver : Fld := ⟨0x110, 17, 1, .live, 1, 0⟩
def Fld.devAlertEnRefin : Fld := ⟨0x110, 18, 1, .live, 1, 0⟩
def Fld.devSvcAutoRetire : Fld := ⟨0x114, 0, 1, .cfg, 0, 0⟩

/-! Fields of the pace page (R467). -/

def Fld.paceRefinOk : Fld := ⟨0x100, 0, 1, .stat, 0, 0⟩
def Fld.paceSrc : Fld := ⟨0x100, 1, 1, .stat, 1, 0⟩
def Fld.paceRefinLost : Fld := ⟨0x100, 8, 1, .evt, 0, 0⟩
def Fld.paceRefinLocked : Fld := ⟨0x100, 9, 1, .evt, 0, 0⟩

/-! Fields of the power page (R468). -/

def Fld.pwrVin : Fld := ⟨0x100, 0, 32, .stat, 0, 0⟩
def Fld.pwrBudget : Fld := ⟨0x104, 0, 32, .stat, 0, 0⟩
def Fld.pwrAllow : Fld := ⟨0x108, 0, 32, .stat, 0, 0⟩
def Fld.pwrEst : Fld := ⟨0x10C, 0, 32, .stat, 0, 0⟩
def Fld.pwrOverAllow : Fld := ⟨0x110, 0, 1, .stat, 0, 0⟩
def Fld.pwrArcHot : Fld := ⟨0x110, 1, 1, .stat, 0, 0⟩
def Fld.pwrPfailRecBad : Fld := ⟨0x110, 2, 1, .stat, 0, 0⟩
def Fld.pwrOverEvt : Fld := ⟨0x110, 8, 1, .evt, 0, 0⟩
def Fld.pwrCtlWarn : Fld := ⟨0x110, 9, 1, .evt, 0, 0⟩
def Fld.pwrArcWarn : Fld := ⟨0x110, 10, 1, .evt, 0, 0⟩
def Fld.pwrPfailNew : Fld := ⟨0x110, 11, 1, .evt, 0, 0⟩
def Fld.pwrDomStat : Fld := ⟨0x114, 0, 20, .stat, 0, 0⟩
def Fld.pwrTempCtl : Fld := ⟨0x118, 0, 16, .stat, 0, 0⟩
def Fld.pwrTempArc : Fld := ⟨0x11C, 0, 16, .stat, 0, 0⟩
def Fld.pwrRefuseCnt : Fld := ⟨0x120, 0, 32, .cnt, 0, 0⟩

/-! Fields of the site map page (R469). -/

def Fld.siteSealed : Fld := ⟨0x100, 0, 1, .stat, 0, 0⟩
def Fld.siteDefault : Fld := ⟨0x100, 1, 1, .stat, 0, 0⟩
def Fld.siteHome (t : Nat) : Fld := ⟨0x200 + 0x10 * t, 0, 5, .seal, 0, 0⟩
def Fld.siteOwn (t s : Nat) : Fld := ⟨(if s < 6 then 0x204 + 0x10 * t else 0x208 + 0x10 * t), 5 * (if s < 6 then s else s - 6), 5, .seal, 0, 0⟩
def Fld.siteArcBase (n : Nat) : Fld := ⟨0x400 + 0x80 * (n - 1), 0, 16, .seal, 0, 0⟩
def Fld.siteArcPages (n : Nat) : Fld := ⟨0x404 + 0x80 * (n - 1), 0, 17, .seal, 0, 0⟩
def Fld.siteShare (n : Nat) : Fld := ⟨0x408 + 0x80 * (n - 1), 0, 9, .seal, 0, 0⟩
def Fld.siteNvec (n : Nat) : Fld := ⟨0x40C + 0x80 * (n - 1), 0, 8, .seal, 0, 0⟩
def Fld.siteCompat (n : Nat) : Fld := ⟨0x40C + 0x80 * (n - 1), 8, 1, .seal, 0, 0⟩
def Fld.siteQuota (n t : Nat) : Fld := ⟨0x410 + 0x80 * (n - 1) + 4 * (t / 2), 16 * (t % 2), 9, .seal, 0, 0⟩
def Fld.siteTrk (n i : Nat) : Fld := ⟨0x430 + 0x80 * (n - 1) + 4 * i, 0, 32, .seal, 0, 0⟩
def Fld.siteWlch (n : Nat) : Fld := ⟨0x440 + 0x80 * (n - 1), 0, 16, .seal, 0, 0⟩

/-! Fields of the Catalogue page (R470). -/

def Fld.catRefv : Fld := ⟨0x100, 0, 23, .cfg, 5000000, 0⟩
def Fld.catAutoTdelta : Fld := ⟨0x104, 0, 8, .cfg, 30, 0⟩
def Fld.catAutoEn : Fld := ⟨0x104, 8, 1, .cfg, 1, 0⟩
def Fld.catFactoryRestored : Fld := ⟨0x108, 0, 1, .stat, 0, 0⟩
def Fld.catRefvMissing : Fld := ⟨0x108, 1, 1, .stat, 0, 0⟩
def Fld.catBank : Fld := ⟨0x108, 2, 1, .stat, 0, 0⟩
def Fld.catRunDone : Fld := ⟨0x108, 8, 1, .evt, 0, 0⟩
def Fld.catEvbase : Fld := ⟨0x10C, 0, 7, .seal, 0, 0⟩
def Fld.catAbortLate : Fld := ⟨0x110, 0, 32, .cnt, 0, 0⟩
def Fld.catGenLow : Fld := ⟨0x114, 0, 32, .stat, 0, 0⟩

/-! Fields of the Curator mailbox page: none (R471). -/


/-! Fields of the baton trunk page (R472). -/

def Fld.trigInCh (n : Nat) : Fld := ⟨0x100 + 4 * n, 0, 7, .live, 0, 0⟩
def Fld.trigInEn (n : Nat) : Fld := ⟨0x100 + 4 * n, 7, 1, .live, 0, 0⟩
def Fld.trigOutCh (n : Nat) : Fld := ⟨0x120 + 4 * n, 0, 7, .live, 0, 0⟩
def Fld.trigOutEn (n : Nat) : Fld := ⟨0x120 + 4 * n, 7, 1, .live, 0, 0⟩
def Fld.trigOutWidth (n : Nat) : Fld := ⟨0x120 + 4 * n, 8, 8, .live, 8, 0⟩
def Fld.wlRxCh (n : Nat) : Fld := ⟨0x140 + 4 * n, 0, 7, .live, 0, 0⟩
def Fld.wlRxEn (n : Nat) : Fld := ⟨0x140 + 4 * n, 7, 1, .live, 0, 0⟩
def Fld.wlTxCh (n : Nat) : Fld := ⟨0x180 + 4 * n, 0, 7, .live, 0, 0⟩
def Fld.wlTxEn (n : Nat) : Fld := ⟨0x180 + 4 * n, 7, 1, .live, 0, 0⟩
def Fld.trkFire : Fld := ⟨0x1C0, 0, 8, .cmd, 0, 0⟩
def Fld.trkSeen (n : Nat) : Fld := ⟨0x1C4 + 4 * n, 0, 32, .evt, 0, 0⟩
def Fld.trkRouteRef (fn : Nat) : Fld := ⟨0x1D4, 0, 1, .evt, 0, fn⟩
def Fld.trkLoop : Fld := ⟨0x1D4, 1, 1, .evt, 0, 0⟩
def Fld.trkRefOff (fn : Nat) : Fld := ⟨0x1D8, 0, 12, .stat, 0, fn⟩
def Fld.trkLoopCh : Fld := ⟨0x1DC, 0, 7, .stat, 0, 0⟩
def Fld.trkLoopWl : Fld := ⟨0x1DC, 8, 4, .stat, 0, 0⟩
def Fld.trkCoalesced (fn : Nat) : Fld := ⟨0x1E0, 0, 32, .cnt, 0, fn⟩

/-! Fields of the Walul page (R473). -/

def Fld.wlTopo : Fld := ⟨0x100, 0, 2, .stat, 0, 0⟩
def Fld.wlN : Fld := ⟨0x100, 4, 4, .stat, 1, 0⟩
def Fld.wlMode : Fld := ⟨0x100, 8, 1, .seal, 0, 0⟩
def Fld.wlHmax : Fld := ⟨0x100, 12, 3, .seal, 0, 0⟩
def Fld.wlAuto : Fld := ⟨0x100, 16, 1, .cfg, 1, 0⟩
def Fld.wlTrack : Fld := ⟨0x100, 17, 1, .cfg, 1, 0⟩
def Fld.wlPState (n : Nat) : Fld := ⟨0x110 + 4 * n, 0, 3, .stat, 0, 0⟩
def Fld.wlPWidth (n : Nat) : Fld := ⟨0x110 + 4 * n, 4, 3, .stat, 0, 0⟩
def Fld.wlPPeer (n : Nat) : Fld := ⟨0x110 + 4 * n, 8, 3, .stat, 0, 0⟩
def Fld.wlPDelay (n : Nat) : Fld := ⟨0x110 + 4 * n, 16, 16, .stat, 0, 0⟩
def Fld.wlAligned : Fld := ⟨0x120, 0, 1, .stat, 0, 0⟩
def Fld.wlCountMismatch : Fld := ⟨0x120, 1, 1, .stat, 0, 0⟩
def Fld.wlLoss : Fld := ⟨0x120, 8, 1, .evt, 0, 0⟩
def Fld.wlLate : Fld := ⟨0x120, 9, 1, .evt, 0, 0⟩
def Fld.wlTopoErr : Fld := ⟨0x120, 10, 1, .evt, 0, 0⟩
def Fld.wlAlignDone : Fld := ⟨0x120, 11, 1, .evt, 0, 0⟩
def Fld.wlAlignCmd : Fld := ⟨0x124, 0, 2, .cmd, 0, 0⟩
def Fld.wlAlignResult : Fld := ⟨0x124, 8, 3, .stat, 0, 0⟩
def Fld.wlPhase : Fld := ⟨0x128, 0, 32, .stat, 0, 0⟩
def Fld.wlLossCnt : Fld := ⟨0x130, 0, 32, .cnt, 0, 0⟩
def Fld.wlLateCnt : Fld := ⟨0x134, 0, 32, .cnt, 0, 0⟩
def Fld.wlCrcCnt : Fld := ⟨0x138, 0, 32, .cnt, 0, 0⟩
def Fld.wlTxdropCnt : Fld := ⟨0x13C, 0, 32, .cnt, 0, 0⟩

/-! Fields of a queue page (R474). -/

def Fld.qCompat : Fld := ⟨0x100, 0, 1, .stat, 0, 0⟩
def Fld.qNvec : Fld := ⟨0x100, 8, 8, .stat, 0, 0⟩
def Fld.qEvtVec : Fld := ⟨0x100, 16, 7, .live, 0, 0⟩
def Fld.qStale : Fld := ⟨0x100, 24, 3, .live, 3, 0⟩
def Fld.qOor : Fld := ⟨0x104, 0, 32, .cnt, 0, 0⟩
def Fld.cqEn (n : Nat) : Fld := ⟨0x200 + 0x20 * n, 0, 1, .live, 0, 0⟩
def Fld.cqFlush (n : Nat) : Fld := ⟨0x200 + 0x20 * n, 1, 1, .cmd, 0, 0⟩
def Fld.cqCredit (n : Nat) : Fld := ⟨0x204 + 0x20 * n, 0, 14, .stat, 8192, 0⟩
def Fld.cqTaken (n : Nat) : Fld := ⟨0x208 + 0x20 * n, 0, 32, .cnt, 0, 0⟩
def Fld.cqDiscard (n : Nat) : Fld := ⟨0x20C + 0x20 * n, 0, 32, .cnt, 0, 0⟩
def Fld.cqFlushed (n : Nat) : Fld := ⟨0x210 + 0x20 * n, 0, 32, .cnt, 0, 0⟩
def Fld.cqOverflow (n : Nat) : Fld := ⟨0x214 + 0x20 * n, 0, 1, .evt, 0, 0⟩
def Fld.cqFrame (n : Nat) : Fld := ⟨0x214 + 0x20 * n, 1, 1, .evt, 0, 0⟩
def Fld.cqPoison (n : Nat) : Fld := ⟨0x214 + 0x20 * n, 2, 1, .evt, 0, 0⟩
def Fld.cqStale (n : Nat) : Fld := ⟨0x214 + 0x20 * n, 3, 1, .evt, 0, 0⟩
def Fld.cqNoRq (n : Nat) : Fld := ⟨0x214 + 0x20 * n, 4, 1, .evt, 0, 0⟩
def Fld.rqBaseLo (n : Nat) : Fld := ⟨0x400 + 0x40 * n, 0, 32, .live, 0, 0⟩
def Fld.rqBaseHi (n : Nat) : Fld := ⟨0x404 + 0x40 * n, 0, 32, .live, 0, 0⟩
def Fld.rqTbaseLo (n : Nat) : Fld := ⟨0x408 + 0x40 * n, 0, 32, .live, 0, 0⟩
def Fld.rqTbaseHi (n : Nat) : Fld := ⟨0x40C + 0x40 * n, 0, 32, .live, 0, 0⟩
def Fld.rqWbLo (n : Nat) : Fld := ⟨0x410 + 0x40 * n, 0, 32, .live, 0, 0⟩
def Fld.rqWbHi (n : Nat) : Fld := ⟨0x414 + 0x40 * n, 0, 32, .live, 0, 0⟩
def Fld.rqEn (n : Nat) : Fld := ⟨0x418 + 0x40 * n, 0, 1, .live, 0, 0⟩
def Fld.rqWbEn (n : Nat) : Fld := ⟨0x418 + 0x40 * n, 1, 1, .live, 0, 0⟩
def Fld.rqVec (n : Nat) : Fld := ⟨0x418 + 0x40 * n, 8, 7, .live, 0, 0⟩
def Fld.rqModCnt (n : Nat) : Fld := ⟨0x418 + 0x40 * n, 16, 8, .live, 1, 0⟩
def Fld.rqModUs (n : Nat) : Fld := ⟨0x41C + 0x40 * n, 0, 16, .live, 0, 0⟩
def Fld.rqTail (n : Nat) : Fld := ⟨0x420 + 0x40 * n, 0, 32, .stat, 0, 0⟩
def Fld.rqHead (n : Nat) : Fld := ⟨0x424 + 0x40 * n, 0, 32, .stat, 0, 0⟩
def Fld.rqPkts (n : Nat) : Fld := ⟨0x428 + 0x40 * n, 0, 32, .cnt, 0, 0⟩
def Fld.rqPoison (n : Nat) : Fld := ⟨0x42C + 0x40 * n, 0, 32, .cnt, 0, 0⟩
def Fld.rqFull (n : Nat) : Fld := ⟨0x430 + 0x40 * n, 0, 1, .stat, 0, 0⟩
def Fld.rqBadHead (n : Nat) : Fld := ⟨0x430 + 0x40 * n, 1, 1, .evt, 0, 0⟩

/-! Fields of the Archive controller page (R475). -/

def Fld.arcUe : Fld := ⟨0x100, 0, 1, .evt, 0, 0⟩
def Fld.arcCeCnt : Fld := ⟨0x104, 0, 32, .cnt, 0, 0⟩
def Fld.arcUeCnt : Fld := ⟨0x108, 0, 32, .cnt, 0, 0⟩
def Fld.arcAbortLate : Fld := ⟨0x10C, 0, 32, .cnt, 0, 0⟩
def Fld.arcPages : Fld := ⟨0x110, 0, 18, .stat, 0, 0⟩

/-! Fields of a tile page (R476). -/

def Fld.tileRefuseCode : Fld := ⟨0x100, 0, 3, .stat, 0, 0⟩
def Fld.tileTfold : Fld := ⟨0x100, 4, 1, .stat, 0, 0⟩
def Fld.tileRefused : Fld := ⟨0x100, 8, 1, .evt, 0, 0⟩
def Fld.tileBoostFault : Fld := ⟨0x100, 9, 1, .evt, 0, 0⟩
def Fld.tileTwarn : Fld := ⟨0x100, 10, 1, .evt, 0, 0⟩
def Fld.tileRefuseCnt : Fld := ⟨0x104, 0, 32, .cnt, 0, 0⟩
def Fld.tileTemp : Fld := ⟨0x108, 0, 16, .stat, 0, 0⟩
def Fld.tilePwrEst : Fld := ⟨0x10C, 0, 32, .stat, 0, 0⟩
def Fld.tileGuardSrc : Fld := ⟨0x110, 0, 4, .live, 15, 0⟩
def Fld.tileGangMembers (g : Nat) : Fld := ⟨0x114 + 4 * g, 0, 9, .live, 0, 0⟩
def Fld.tileGangLeader (g : Nat) : Fld := ⟨0x114 + 4 * g, 12, 4, .live, 0, 0⟩
def Fld.tileBoostEn : Fld := ⟨0x124, 0, 1, .live, 0, 0⟩
def Fld.tileBoostSlot : Fld := ⟨0x124, 4, 4, .live, 0, 0⟩
def Fld.tileBprofVfs : Fld := ⟨0x128, 0, 16, .seal, 0, 0⟩
def Fld.tileBprofIfs : Fld := ⟨0x128, 16, 16, .seal, 0, 0⟩
def Fld.tileBprofCompMin : Fld := ⟨0x12C, 0, 2, .seal, 0, 0⟩
def Fld.tileSubstState : Fld := ⟨0x130, 0, 3, .stat, 0, 0⟩
def Fld.tileSubstSlot : Fld := ⟨0x130, 4, 4, .stat, 15, 0⟩
def Fld.tileSubstQdepth : Fld := ⟨0x130, 8, 4, .stat, 0, 0⟩
def Fld.tileSubstRetired : Fld := ⟨0x130, 12, 4, .stat, 15, 0⟩
def Fld.tileHoCnt : Fld := ⟨0x134, 0, 32, .cnt, 0, 0⟩
def Fld.tileHoAbortCnt : Fld := ⟨0x138, 0, 32, .cnt, 0, 0⟩
def Fld.tileHoAbortLate : Fld := ⟨0x13C, 0, 32, .cnt, 0, 0⟩
def Fld.tileExtrapolated : Fld := ⟨0x140, 0, 1, .stat, 0, 0⟩
def Fld.tileCalFail : Fld := ⟨0x140, 8, 1, .evt, 0, 0⟩
def Fld.tileAutoDisagree : Fld := ⟨0x140, 9, 1, .evt, 0, 0⟩
def Fld.tileCalDisagree : Fld := ⟨0x140, 10, 1, .evt, 0, 0⟩
def Fld.tileAutoT : Fld := ⟨0x140, 16, 16, .stat, 0, 0⟩
def Fld.tileUcodeVer : Fld := ⟨0x144, 0, 16, .stat, 0, 0⟩

/-! Fields of a lane page (R477). -/

def Fld.laneForceLevel : Fld := ⟨0x100, 0, 20, .live, 0, 0⟩
def Fld.laneForceMode : Fld := ⟨0x100, 20, 3, .live, 0, 0⟩
def Fld.laneForceVrange : Fld := ⟨0x100, 24, 2, .live, 1, 0⟩
def Fld.laneForceIrange : Fld := ⟨0x100, 26, 3, .live, 4, 0⟩
def Fld.laneForceOrigin : Fld := ⟨0x100, 31, 1, .stat, 0, 0⟩
def Fld.laneClampHiMag : Fld := ⟨0x104, 0, 16, .live, 6400, 0⟩
def Fld.laneClampHiScale : Fld := ⟨0x104, 16, 3, .live, 4, 0⟩
def Fld.laneClampHiOrigin : Fld := ⟨0x104, 31, 1, .stat, 0, 0⟩
def Fld.laneClampLoMag : Fld := ⟨0x108, 0, 16, .live, 6400, 0⟩
def Fld.laneClampLoScale : Fld := ⟨0x108, 16, 3, .live, 4, 0⟩
def Fld.laneClampLoOrigin : Fld := ⟨0x108, 31, 1, .stat, 0, 0⟩
def Fld.laneVclampHi : Fld := ⟨0x10C, 0, 16, .live, 8000, 0⟩
def Fld.laneVclampHiOrigin : Fld := ⟨0x10C, 31, 1, .stat, 0, 0⟩
def Fld.laneVclampLo : Fld := ⟨0x110, 0, 16, .live, 57536, 0⟩
def Fld.laneVclampLoOrigin : Fld := ⟨0x110, 31, 1, .stat, 0, 0⟩
def Fld.laneDacDiv : Fld := ⟨0x114, 0, 24, .live, 80, 0⟩
def Fld.laneDacSrc : Fld := ⟨0x114, 24, 2, .live, 0, 0⟩
def Fld.laneDacGroup : Fld := ⟨0x114, 26, 4, .live, 0, 0⟩
def Fld.laneDacOrigin : Fld := ⟨0x114, 31, 1, .stat, 0, 0⟩
def Fld.laneMeasQty : Fld := ⟨0x118, 0, 2, .live, 0, 0⟩
def Fld.laneMeasAvg : Fld := ⟨0x118, 4, 5, .live, 0, 0⟩
def Fld.laneSenseSel : Fld := ⟨0x11C, 0, 1, .live, 0, 0⟩
def Fld.laneSenseOrigin : Fld := ⟨0x11C, 31, 1, .stat, 0, 0⟩
def Fld.laneCompSel : Fld := ⟨0x120, 0, 2, .live, 1, 0⟩
def Fld.laneCompOrigin : Fld := ⟨0x120, 31, 1, .stat, 0, 0⟩
def Fld.laneRailFloor : Fld := ⟨0x124, 0, 2, .live, 0, 0⟩
def Fld.laneRailCeil : Fld := ⟨0x124, 4, 2, .live, 3, 0⟩
def Fld.laneRangeAuto : Fld := ⟨0x128, 0, 1, .live, 0, 0⟩
def Fld.laneRangeAmin : Fld := ⟨0x128, 4, 3, .live, 0, 0⟩
def Fld.laneRangeAmax : Fld := ⟨0x128, 8, 3, .live, 6, 0⟩
def Fld.laneConnectLevel : Fld := ⟨0x12C, 0, 20, .live, 0, 0⟩
def Fld.laneConnCmd : Fld := ⟨0x130, 0, 2, .cmd, 0, 0⟩
def Fld.lanePersPark : Fld := ⟨0x134, 0, 16, .live, 0, 0⟩
def Fld.lanePersSel : Fld := ⟨0x134, 16, 2, .live, 0, 0⟩
def Fld.lanePersOrigin : Fld := ⟨0x134, 31, 1, .stat, 0, 0⟩
def Fld.lanePulseWidth : Fld := ⟨0x138, 0, 24, .live, 400, 0⟩
def Fld.lanePulseCount : Fld := ⟨0x13C, 0, 16, .live, 0, 0⟩
def Fld.lanePulseCmd : Fld := ⟨0x13C, 16, 2, .cmd, 0, 0⟩
def Fld.lanePulseMdelay : Fld := ⟨0x140, 0, 24, .live, 0, 0⟩
def Fld.lanePulseTop : Fld := ⟨0x144, 0, 20, .live, 0, 0⟩
def Fld.lanePulsePeriod : Fld := ⟨0x148, 0, 32, .live, 0, 0⟩
def Fld.laneDdsAmpl : Fld := ⟨0x14C, 0, 16, .live, 0, 0⟩
def Fld.laneDdsPhase : Fld := ⟨0x14C, 16, 16, .live, 0, 0⟩
def Fld.laneDdsStop : Fld := ⟨0x150, 0, 1, .live, 0, 0⟩
def Fld.lanePinDrvHi : Fld := ⟨0x154, 0, 16, .live, 0, 0⟩
def Fld.lanePinDrvLo : Fld := ⟨0x154, 16, 16, .live, 0, 0⟩
def Fld.lanePinCmpHi : Fld := ⟨0x158, 0, 16, .live, 0, 0⟩
def Fld.lanePinCmpLo : Fld := ⟨0x158, 16, 16, .live, 0, 0⟩
def Fld.lanePinTermVtt : Fld := ⟨0x15C, 0, 16, .live, 0, 0⟩
def Fld.lanePinTermEn : Fld := ⟨0x15C, 16, 1, .live, 0, 0⟩
def Fld.laneSupvDwell : Fld := ⟨0x160, 0, 16, .live, 100, 0⟩
def Fld.laneSupvClim : Fld := ⟨0x160, 16, 16, .live, 0, 0⟩
def Fld.laneSupvAct : Fld := ⟨0x164, 0, 2, .live, 0, 0⟩
def Fld.laneSupvProbe : Fld := ⟨0x164, 4, 1, .live, 1, 0⟩
def Fld.laneSupvFclr : Fld := ⟨0x164, 8, 1, .cmd, 0, 0⟩
def Fld.laneTriplimMag : Fld := ⟨0x168, 0, 16, .live, 6400, 0⟩
def Fld.laneTriplimScale : Fld := ⟨0x168, 16, 3, .live, 4, 0⟩
def Fld.laneWmHi (n : Nat) : Fld := ⟨0x16C + 8 * n, 0, 12, .live, 0x7FF, 0⟩
def Fld.laneWmLo (n : Nat) : Fld := ⟨0x16C + 8 * n, 16, 12, .live, 0x800, 0⟩
def Fld.laneWmQsel (n : Nat) : Fld := ⟨0x170 + 8 * n, 0, 1, .live, 0, 0⟩
def Fld.laneWmFilt (n : Nat) : Fld := ⟨0x170 + 8 * n, 1, 1, .live, 0, 0⟩
def Fld.laneWmClamp (n : Nat) : Fld := ⟨0x170 + 8 * n, 2, 1, .live, 0, 0⟩
def Fld.laneWmPend (n : Nat) : Fld := ⟨0x170 + 8 * n, 3, 1, .live, 0, 0⟩
def Fld.laneWmLatch (n : Nat) : Fld := ⟨0x170 + 8 * n, 4, 1, .live, 1, 0⟩
def Fld.laneWmRblank (n : Nat) : Fld := ⟨0x170 + 8 * n, 5, 1, .live, 1, 0⟩
def Fld.laneWmHyst (n : Nat) : Fld := ⟨0x170 + 8 * n, 8, 6, .live, 8, 0⟩
def Fld.laneWmchkCmd : Fld := ⟨0x17C, 0, 2, .cmd, 0, 0⟩
def Fld.laneWmchkDone : Fld := ⟨0x17C, 4, 1, .evt, 0, 0⟩
def Fld.laneWmchkResult : Fld := ⟨0x17C, 8, 3, .stat, 0, 0⟩
def Fld.laneWmchkStep : Fld := ⟨0x17C, 12, 3, .stat, 0, 0⟩
def Fld.laneEvselA : Fld := ⟨0x180, 0, 14, .live, 0, 0⟩
def Fld.laneEvselB : Fld := ⟨0x180, 16, 14, .live, 0, 0⟩
def Fld.laneRstCmd : Fld := ⟨0x184, 0, 1, .cmd, 0, 0⟩
def Fld.laneSwState : Fld := ⟨0x200, 0, 4, .stat, 1, 0⟩
def Fld.laneRefuseCode : Fld := ⟨0x200, 4, 3, .stat, 0, 0⟩
def Fld.laneRail : Fld := ⟨0x200, 8, 2, .stat, 0, 0⟩
def Fld.laneHoPhase : Fld := ⟨0x200, 10, 2, .stat, 0, 0⟩
def Fld.laneServedBy : Fld := ⟨0x200, 12, 1, .stat, 0, 0⟩
def Fld.laneClampLimited : Fld := ⟨0x200, 13, 1, .stat, 0, 0⟩
def Fld.laneCompl : Fld := ⟨0x200, 14, 1, .stat, 0, 0⟩
def Fld.laneFoldback : Fld := ⟨0x200, 15, 1, .stat, 0, 0⟩
def Fld.laneExtrapolated : Fld := ⟨0x200, 16, 1, .stat, 0, 0⟩
def Fld.laneCalPending : Fld := ⟨0x200, 17, 1, .stat, 0, 0⟩
def Fld.laneQueueDry : Fld := ⟨0x200, 18, 1, .evt, 0, 0⟩
def Fld.laneRefused : Fld := ⟨0x200, 19, 1, .evt, 0, 0⟩
def Fld.laneComplIn : Fld := ⟨0x200, 20, 1, .evt, 0, 0⟩
def Fld.laneComplOut : Fld := ⟨0x200, 21, 1, .evt, 0, 0⟩
def Fld.laneOpenLoad : Fld := ⟨0x200, 22, 1, .evt, 0, 0⟩
def Fld.laneComplLong : Fld := ⟨0x200, 23, 1, .evt, 0, 0⟩
def Fld.lanePulseCut : Fld := ⟨0x200, 24, 1, .evt, 0, 0⟩
def Fld.laneDdsClip : Fld := ⟨0x200, 25, 1, .evt, 0, 0⟩
def Fld.laneReachClip : Fld := ⟨0x200, 26, 1, .evt, 0, 0⟩
def Fld.laneFault : Fld := ⟨0x200, 27, 1, .evt, 0, 0⟩
def Fld.laneExtrapEvt : Fld := ⟨0x200, 28, 1, .evt, 0, 0⟩
def Fld.laneCalDisagree : Fld := ⟨0x200, 29, 1, .evt, 0, 0⟩
def Fld.laneResult : Fld := ⟨0x204, 0, 32, .stat, 0, 0⟩
def Fld.lanePulseResult : Fld := ⟨0x208, 0, 32, .stat, 0, 0⟩
def Fld.laneWmState (n : Nat) : Fld := ⟨0x20C, 2 * n, 2, .stat, 0, 0⟩
def Fld.laneWmUnres (n : Nat) : Fld := ⟨0x20C, 4 + n, 1, .stat, 1, 0⟩
def Fld.laneWmOut (n : Nat) : Fld := ⟨0x20C, 8 + n, 1, .evt, 0, 0⟩
def Fld.laneWmIn (n : Nat) : Fld := ⟨0x20C, 10 + n, 1, .evt, 0, 0⟩
def Fld.laneWmTrip (n : Nat) : Fld := ⟨0x20C, 12 + n, 1, .evt, 0, 0⟩
def Fld.laneFaultCode : Fld := ⟨0x210, 0, 4, .stat, 0, 0⟩
def Fld.laneQdryCnt : Fld := ⟨0x220, 0, 32, .cnt, 0, 0⟩
def Fld.laneRefuseCnt : Fld := ⟨0x224, 0, 32, .cnt, 0, 0⟩
def Fld.laneComplCnt : Fld := ⟨0x228, 0, 32, .cnt, 0, 0⟩
def Fld.laneFaultCnt : Fld := ⟨0x22C, 0, 32, .cnt, 0, 0⟩
def Fld.laneWmCnt (n : Nat) : Fld := ⟨0x230 + 4 * n, 0, 32, .cnt, 0, 0⟩

/-! Fields of a sequencer page (R478, R479). -/

def Fld.seqLanes : Fld := ⟨0x100, 0, 9, .cfg, 0, 0⟩
def Fld.seqPolicy : Fld := ⟨0x100, 12, 2, .cfg, 0, 0⟩
def Fld.seqStartOn : Fld := ⟨0x100, 14, 1, .cfg, 0, 0⟩
def Fld.seqPrime : Fld := ⟨0x100, 16, 11, .cfg, 16, 0⟩
def Fld.seqFirst : Fld := ⟨0x104, 0, 12, .cfg, 0, 0⟩
def Fld.seqLast : Fld := ⟨0x104, 16, 12, .cfg, 0, 0⟩
def Fld.seqParkSeg : Fld := ⟨0x108, 0, 12, .cfg, 0, 0⟩
def Fld.seqDiv : Fld := ⟨0x10C, 0, 24, .cfg, 80, 0⟩
def Fld.seqJtgt (n : Nat) : Fld := ⟨0x110 + 4 * n, 0, 12, .cfg, 0, 0⟩
def Fld.seqCmdStart : Fld := ⟨0x120, 0, 1, .cmd, 0, 0⟩
def Fld.seqCmdAbort : Fld := ⟨0x120, 1, 1, .cmd, 0, 0⟩
def Fld.seqJumpTarget : Fld := ⟨0x124, 0, 12, .live, 0, 0⟩
def Fld.seqJumpReqBit : Fld := ⟨0x124, 16, 1, .cmd, 0, 0⟩
def Fld.seqJumpOrigin : Fld := ⟨0x124, 31, 1, .stat, 0, 0⟩
def Fld.seqState : Fld := ⟨0x128, 0, 3, .stat, 0, 0⟩
def Fld.seqSeg : Fld := ⟨0x128, 4, 12, .stat, 0, 0⟩
def Fld.seqJumpRefused : Fld := ⟨0x128, 16, 1, .evt, 0, 0⟩
def Fld.seqJumpTaken : Fld := ⟨0x128, 17, 1, .evt, 0, 0⟩
def Fld.seqEdgeMerge : Fld := ⟨0x128, 18, 1, .evt, 0, 0⟩
def Fld.seqFail : Fld := ⟨0x128, 19, 1, .evt, 0, 0⟩
def Fld.seqUnderrun : Fld := ⟨0x128, 20, 1, .evt, 0, 0⟩
def Fld.seqDone : Fld := ⟨0x128, 21, 1, .evt, 0, 0⟩
def Fld.seqOutcome : Fld := ⟨0x12C, 0, 2, .stat, 0, 0⟩
def Fld.seqReason : Fld := ⟨0x12C, 4, 4, .stat, 0, 0⟩
def Fld.seqStartRefuse : Fld := ⟨0x12C, 8, 4, .stat, 0, 0⟩
def Fld.seqRefuseCode : Fld := ⟨0x12C, 12, 3, .stat, 0, 0⟩
def Fld.seqBadIndex : Fld := ⟨0x130, 0, 12, .stat, 0, 0⟩
def Fld.seqJstatSeg : Fld := ⟨0x134, 0, 12, .stat, 0, 0⟩
def Fld.seqJstatLate : Fld := ⟨0x134, 16, 1, .stat, 0, 0⟩
def Fld.seqJstatGran : Fld := ⟨0x138, 0, 24, .stat, 0, 0⟩
def Fld.seqJstatRep : Fld := ⟨0x13C, 0, 24, .stat, 0, 0⟩
def Fld.seqUndSeg : Fld := ⟨0x140, 0, 12, .stat, 0, 0⟩
def Fld.seqUndGran : Fld := ⟨0x144, 0, 24, .stat, 0, 0⟩
def Fld.seqUndRep : Fld := ⟨0x148, 0, 24, .stat, 0, 0⟩
def Fld.seqSlipLast : Fld := ⟨0x14C, 0, 32, .stat, 0, 0⟩
def Fld.seqLoop (n : Nat) : Fld := ⟨0x150 + 4 * n, 0, 24, .stat, 0, 0⟩
def Fld.seqJreplCnt : Fld := ⟨0x160, 0, 32, .cnt, 0, 0⟩
def Fld.seqUndCnt : Fld := ⟨0x164, 0, 32, .cnt, 0, 0⟩
def Fld.seqMergeCnt : Fld := ⟨0x168, 0, 32, .cnt, 0, 0⟩
def Fld.seqAbortLate : Fld := ⟨0x16C, 0, 32, .cnt, 0, 0⟩
def Fld.seqLfail (n : Nat) : Fld := ⟨0x170 + 4 * n, 0, 32, .cnt, 0, 0⟩
def Fld.seqTsPer (n : Nat) : Fld := ⟨0x400 + 0x20 * n, 0, 16, .cfg, 2, 0⟩
def Fld.seqTsDon (n : Nat) : Fld := ⟨0x404 + 0x20 * n, 0, 24, .cfg, 0, 0⟩
def Fld.seqTsDat (n : Nat) : Fld := ⟨0x408 + 0x20 * n, 0, 24, .cfg, 0, 0⟩
def Fld.seqTsDoff (n : Nat) : Fld := ⟨0x40C + 0x20 * n, 0, 24, .cfg, 0, 0⟩
def Fld.seqTsStrb (n : Nat) : Fld := ⟨0x410 + 0x20 * n, 0, 24, .cfg, 0, 0⟩

/-! Fields of an acquisition page (R481). -/

def Fld.acqLanes : Fld := ⟨0x100, 0, 9, .cfg, 0, 0⟩
def Fld.acqPair : Fld := ⟨0x100, 16, 9, .cfg, 0, 0⟩
def Fld.acqAvg : Fld := ⟨0x100, 25, 5, .cfg, 0, 0⟩
def Fld.acqSrc : Fld := ⟨0x100, 30, 1, .cfg, 0, 0⟩
def Fld.acqWrap : Fld := ⟨0x100, 31, 1, .cfg, 0, 0⟩
def Fld.acqLenm1 : Fld := ⟨0x104, 0, 32, .cfg, 63, 0⟩
def Fld.acqPre : Fld := ⟨0x108, 0, 32, .cfg, 0, 0⟩
def Fld.acqNrec : Fld := ⟨0x10C, 0, 24, .cfg, 1, 0⟩
def Fld.acqDestBase : Fld := ⟨0x110, 0, 31, .cfg, 0, 0⟩
def Fld.acqDestPages : Fld := ⟨0x114, 0, 17, .cfg, 1, 0⟩
def Fld.acqTrigSrc : Fld := ⟨0x118, 0, 2, .cfg, 0, 0⟩
def Fld.acqTrigSlot : Fld := ⟨0x118, 4, 4, .cfg, 0, 0⟩
def Fld.acqTrigSlope : Fld := ⟨0x118, 8, 2, .cfg, 0, 0⟩
def Fld.acqTrigLat : Fld := ⟨0x118, 16, 8, .cfg, 0, 0⟩
def Fld.acqTrigLevel : Fld := ⟨0x11C, 0, 24, .cfg, 0, 0⟩
def Fld.acqTrigHyst : Fld := ⟨0x120, 0, 24, .cfg, 0, 0⟩
def Fld.acqRole : Fld := ⟨0x124, 0, 2, .cfg, 0, 0⟩
def Fld.acqRrMode : Fld := ⟨0x128, 0, 1, .cfg, 0, 0⟩
def Fld.acqRrThresh : Fld := ⟨0x128, 4, 4, .cfg, 8, 0⟩
def Fld.acqRrMax : Fld := ⟨0x128, 8, 3, .cfg, 5, 0⟩
def Fld.acqCmdArm : Fld := ⟨0x12C, 0, 1, .cmd, 0, 0⟩
def Fld.acqCmdTrig : Fld := ⟨0x12C, 1, 1, .cmd, 0, 0⟩
def Fld.acqCmdAbort : Fld := ⟨0x12C, 2, 1, .cmd, 0, 0⟩
def Fld.acqState : Fld := ⟨0x130, 0, 3, .stat, 0, 0⟩
def Fld.acqUnresolved : Fld := ⟨0x130, 4, 1, .stat, 0, 0⟩
def Fld.acqDone : Fld := ⟨0x130, 8, 1, .evt, 0, 0⟩
def Fld.acqCommitted : Fld := ⟨0x134, 0, 25, .stat, 0, 0⟩
def Fld.acqSlotSize : Fld := ⟨0x138, 0, 32, .stat, 0, 0⟩
def Fld.acqOutcome : Fld := ⟨0x13C, 0, 2, .stat, 0, 0⟩
def Fld.acqReason : Fld := ⟨0x13C, 4, 3, .stat, 0, 0⟩
def Fld.acqArmRefuse : Fld := ⟨0x13C, 8, 4, .stat, 0, 0⟩
def Fld.acqRecords : Fld := ⟨0x140, 0, 25, .stat, 0, 0⟩
def Fld.acqMissedCnt : Fld := ⟨0x144, 0, 32, .cnt, 0, 0⟩
def Fld.acqRrCnt : Fld := ⟨0x148, 0, 32, .cnt, 0, 0⟩
def Fld.acqOvfCnt : Fld := ⟨0x14C, 0, 32, .cnt, 0, 0⟩
def Fld.acqAbortLate : Fld := ⟨0x150, 0, 32, .cnt, 0, 0⟩

/-! Fields of a local baton page (R482). -/

def Fld.batRouteLo (c : Nat) : Fld := ⟨0x100 + 8 * c, 0, 32, .live, 0, 0⟩
def Fld.batRouteHi (c : Nat) : Fld := ⟨0x104 + 8 * c, 0, 16, .live, 0, 0⟩
def Fld.batToutCh (n : Nat) : Fld := ⟨0x280 + 4 * n, 0, 7, .live, 0, 0⟩
def Fld.batToutEn (n : Nat) : Fld := ⟨0x280 + 4 * n, 7, 1, .live, 0, 0⟩
def Fld.batTinCh (n : Nat) : Fld := ⟨0x2A0 + 4 * n, 0, 7, .live, 0, 0⟩
def Fld.batTinEn (n : Nat) : Fld := ⟨0x2A0 + 4 * n, 7, 1, .live, 0, 0⟩
def Fld.batFirePos : Fld := ⟨0x2C0, 0, 8, .cmd, 0, 0⟩
def Fld.batSeenLo : Fld := ⟨0x2C4, 0, 32, .evt, 0, 0⟩
def Fld.batSeenHi : Fld := ⟨0x2C8, 0, 16, .evt, 0, 0⟩
def Fld.batRouteRef : Fld := ⟨0x2CC, 0, 1, .evt, 0, 0⟩
def Fld.batLoop : Fld := ⟨0x2CC, 1, 1, .evt, 0, 0⟩
def Fld.batTscap (n : Nat) : Fld := ⟨0x2CC, 4 + n, 1, .evt, 0, 0⟩
def Fld.batRefOff : Fld := ⟨0x2D0, 0, 12, .stat, 0, 0⟩
def Fld.batDroppedBusy : Fld := ⟨0x2D4, 0, 32, .cnt, 0, 0⟩
def Fld.batDropLast : Fld := ⟨0x2D8, 0, 7, .stat, 0, 0⟩
def Fld.batCoalesced : Fld := ⟨0x2DC, 0, 32, .cnt, 0, 0⟩
def Fld.batCoalLast : Fld := ⟨0x2E0, 0, 6, .stat, 0, 0⟩
def Fld.batLoopPos : Fld := ⟨0x2E4, 0, 6, .stat, 0, 0⟩
def Fld.batLoopCh : Fld := ⟨0x2E4, 8, 7, .stat, 0, 0⟩
def Fld.batLoopChv : Fld := ⟨0x2E4, 15, 1, .stat, 0, 0⟩

/-! Fields of an engine status page (R483). -/

def Fld.engState : Fld := ⟨0x100, 0, 2, .stat, 0, 0⟩
def Fld.engCtx : Fld := ⟨0x100, 16, 12, .stat, 0, 0⟩

/-! Fields of a context-table header page (R484). -/

def Fld.ctxFullCnt (fn : Nat) : Fld := ⟨0x100, 0, 32, .cnt, 0, fn⟩
def Fld.ctxAbortLate (fn : Nat) : Fld := ⟨0x104, 0, 32, .cnt, 0, fn⟩
def Fld.ctxGoUnused (fn : Nat) : Fld := ⟨0x108, 0, 32, .cnt, 0, fn⟩

/-- `f 0, …, f (n - 1)` for an indexed field. -/
def Fld.idx (n : Nat) (f : Nat → Fld) : List Fld := (List.range n).map f

/-- The same for a field indexed by a site number, 1 to 16 (R12). -/
def Fld.idxSite (f : Nat → Fld) : List Fld := (List.range 16).map fun i => f (i + 1)

/-- The header fields of every page (R444), in the copies of agent `fn` (R445). -/
def headerFields (fn : Nat) : List Fld :=
   List.flatten
   [[.pageEn, .ignIgn fn, .ignErr fn, .ignCnt fn, .errCnt fn, .ignOff fn],
    [.errOff fn, .errWr fn, .evtEn fn, .mbxSelItem fn, .mbxValid fn, .mbxBusy fn],
    [.mbxDone fn, .mbxResult fn, .mbxItem fn, .mbxOp fn, .mbxCmdItem fn],
    Fld.idx 8 (.mbxData fn)]

/-- The block fields of the device page (R466). -/
def devFields (_fn : Nat) : List Fld :=
   List.flatten
   [[.devCapVariant, .devCapArcSize, .devCapDds, .devCapBoost, .devCapWalul, .devStrapIndex],
    [.devStrapTopo, .devStrapRefin, .devStatReady, .devStatAlert, .devStatProfileBad, .devStatBootFail],
    [.devStatFwFallback, .devStatFwSlot, .devStatLastReset, .devStatTileFail, .devCtrlWarm, .devAlertEnFault],
    [.devAlertEnTwarn, .devAlertEnOver, .devAlertEnRefin, .devSvcAutoRetire]]

/-- The block fields of the pace page (R467). -/
def paceFields (_fn : Nat) : List Fld :=
   List.flatten
   [[.paceRefinOk, .paceSrc, .paceRefinLost, .paceRefinLocked]]

/-- The block fields of the power page (R468). -/
def pwrFields (_fn : Nat) : List Fld :=
   List.flatten
   [[.pwrVin, .pwrBudget, .pwrAllow, .pwrEst, .pwrOverAllow, .pwrArcHot],
    [.pwrPfailRecBad, .pwrOverEvt, .pwrCtlWarn, .pwrArcWarn, .pwrPfailNew, .pwrDomStat],
    [.pwrTempCtl, .pwrTempArc, .pwrRefuseCnt]]

/-- The block fields of the Catalogue page (R470). -/
def catFields (_fn : Nat) : List Fld :=
   List.flatten
   [[.catRefv, .catAutoTdelta, .catAutoEn, .catFactoryRestored, .catRefvMissing, .catBank],
    [.catRunDone, .catEvbase, .catAbortLate, .catGenLow]]

/-- The block fields of the Curator mailbox page, which has none (R471). -/
def curFields (_fn : Nat) : List Fld :=
   []

/-- The block fields of the baton trunk page (R472). -/
def trkFields (fn : Nat) : List Fld :=
   List.flatten
   [[.trkFire, .trkRouteRef fn, .trkLoop, .trkRefOff fn, .trkLoopCh, .trkLoopWl],
    [.trkCoalesced fn],
    Fld.idx 8 .trigInCh,
    Fld.idx 8 .trigInEn,
    Fld.idx 8 .trigOutCh,
    Fld.idx 8 .trigOutEn,
    Fld.idx 8 .trigOutWidth,
    Fld.idx 16 .wlRxCh,
    Fld.idx 16 .wlRxEn,
    Fld.idx 16 .wlTxCh,
    Fld.idx 16 .wlTxEn,
    Fld.idx 4 .trkSeen]

/-- The block fields of the Walul page (R473). -/
def wlFields (_fn : Nat) : List Fld :=
   List.flatten
   [[.wlTopo, .wlN, .wlMode, .wlHmax, .wlAuto, .wlTrack],
    [.wlAligned, .wlCountMismatch, .wlLoss, .wlLate, .wlTopoErr, .wlAlignDone],
    [.wlAlignCmd, .wlAlignResult, .wlPhase, .wlLossCnt, .wlLateCnt, .wlCrcCnt],
    [.wlTxdropCnt],
    Fld.idx 2 .wlPState,
    Fld.idx 2 .wlPWidth,
    Fld.idx 2 .wlPPeer,
    Fld.idx 2 .wlPDelay]

/-- The block fields of a queue page (R474). -/
def qFields (_fn : Nat) : List Fld :=
   List.flatten
   [[.qCompat, .qNvec, .qEvtVec, .qStale, .qOor],
    Fld.idx 8 .cqEn,
    Fld.idx 8 .cqFlush,
    Fld.idx 8 .cqCredit,
    Fld.idx 8 .cqTaken,
    Fld.idx 8 .cqDiscard,
    Fld.idx 8 .cqFlushed,
    Fld.idx 8 .cqOverflow,
    Fld.idx 8 .cqFrame,
    Fld.idx 8 .cqPoison,
    Fld.idx 8 .cqStale,
    Fld.idx 8 .cqNoRq,
    Fld.idx 16 .rqBaseLo,
    Fld.idx 16 .rqBaseHi,
    Fld.idx 16 .rqTbaseLo,
    Fld.idx 16 .rqTbaseHi,
    Fld.idx 16 .rqWbLo,
    Fld.idx 16 .rqWbHi,
    Fld.idx 16 .rqEn,
    Fld.idx 16 .rqWbEn,
    Fld.idx 16 .rqVec,
    Fld.idx 16 .rqModCnt,
    Fld.idx 16 .rqModUs,
    Fld.idx 16 .rqTail,
    Fld.idx 16 .rqHead,
    Fld.idx 16 .rqPkts,
    Fld.idx 16 .rqPoison,
    Fld.idx 16 .rqFull,
    Fld.idx 16 .rqBadHead]

/-- The block fields of the Archive controller page (R475). -/
def arcFields (_fn : Nat) : List Fld :=
   List.flatten
   [[.arcUe, .arcCeCnt, .arcUeCnt, .arcAbortLate, .arcPages]]

/-- The block fields of the site map page (R469). -/
def siteFields (_fn : Nat) : List Fld :=
   List.flatten
   [[.siteSealed, .siteDefault],
    Fld.idx 16 .siteHome,
    ((List.range 16).map fun i => Fld.idx 9 (.siteOwn i)).flatten,
    Fld.idxSite .siteArcBase,
    Fld.idxSite .siteArcPages,
    Fld.idxSite .siteShare,
    Fld.idxSite .siteNvec,
    Fld.idxSite .siteCompat,
    ((List.range 16).map fun i => Fld.idx 16 (.siteQuota (i + 1))).flatten,
    ((List.range 16).map fun i => Fld.idx 4 (.siteTrk (i + 1))).flatten,
    Fld.idxSite .siteWlch]

/-- The block fields of a tile page (R476). -/
def tileFields (_fn : Nat) : List Fld :=
   List.flatten
   [[.tileRefuseCode, .tileTfold, .tileRefused, .tileBoostFault, .tileTwarn, .tileRefuseCnt],
    [.tileTemp, .tilePwrEst, .tileGuardSrc, .tileBoostEn, .tileBoostSlot, .tileBprofVfs],
    [.tileBprofIfs, .tileBprofCompMin, .tileSubstState, .tileSubstSlot, .tileSubstQdepth, .tileSubstRetired],
    [.tileHoCnt, .tileHoAbortCnt, .tileHoAbortLate, .tileExtrapolated, .tileCalFail, .tileAutoDisagree],
    [.tileCalDisagree, .tileAutoT, .tileUcodeVer],
    Fld.idx 4 .tileGangMembers,
    Fld.idx 4 .tileGangLeader]

/-- The block fields of a lane page (R477). -/
def laneFields (_fn : Nat) : List Fld :=
   List.flatten
   [[.laneForceLevel, .laneForceMode, .laneForceVrange, .laneForceIrange, .laneForceOrigin, .laneClampHiMag],
    [.laneClampHiScale, .laneClampHiOrigin, .laneClampLoMag, .laneClampLoScale, .laneClampLoOrigin, .laneVclampHi],
    [.laneVclampHiOrigin, .laneVclampLo, .laneVclampLoOrigin, .laneDacDiv, .laneDacSrc, .laneDacGroup],
    [.laneDacOrigin, .laneMeasQty, .laneMeasAvg, .laneSenseSel, .laneSenseOrigin, .laneCompSel],
    [.laneCompOrigin, .laneRailFloor, .laneRailCeil, .laneRangeAuto, .laneRangeAmin, .laneRangeAmax],
    [.laneConnectLevel, .laneConnCmd, .lanePersPark, .lanePersSel, .lanePersOrigin, .lanePulseWidth],
    [.lanePulseCount, .lanePulseCmd, .lanePulseMdelay, .lanePulseTop, .lanePulsePeriod, .laneDdsAmpl],
    [.laneDdsPhase, .laneDdsStop, .lanePinDrvHi, .lanePinDrvLo, .lanePinCmpHi, .lanePinCmpLo],
    [.lanePinTermVtt, .lanePinTermEn, .laneSupvDwell, .laneSupvClim, .laneSupvAct, .laneSupvProbe],
    [.laneSupvFclr, .laneTriplimMag, .laneTriplimScale, .laneWmchkCmd, .laneWmchkDone, .laneWmchkResult],
    [.laneWmchkStep, .laneEvselA, .laneEvselB, .laneRstCmd, .laneSwState, .laneRefuseCode],
    [.laneRail, .laneHoPhase, .laneServedBy, .laneClampLimited, .laneCompl, .laneFoldback],
    [.laneExtrapolated, .laneCalPending, .laneQueueDry, .laneRefused, .laneComplIn, .laneComplOut],
    [.laneOpenLoad, .laneComplLong, .lanePulseCut, .laneDdsClip, .laneReachClip, .laneFault],
    [.laneExtrapEvt, .laneCalDisagree, .laneResult, .lanePulseResult, .laneFaultCode, .laneQdryCnt],
    [.laneRefuseCnt, .laneComplCnt, .laneFaultCnt],
    Fld.idx 2 .laneWmHi,
    Fld.idx 2 .laneWmLo,
    Fld.idx 2 .laneWmQsel,
    Fld.idx 2 .laneWmFilt,
    Fld.idx 2 .laneWmClamp,
    Fld.idx 2 .laneWmPend,
    Fld.idx 2 .laneWmLatch,
    Fld.idx 2 .laneWmRblank,
    Fld.idx 2 .laneWmHyst,
    Fld.idx 2 .laneWmState,
    Fld.idx 2 .laneWmUnres,
    Fld.idx 2 .laneWmOut,
    Fld.idx 2 .laneWmIn,
    Fld.idx 2 .laneWmTrip,
    Fld.idx 2 .laneWmCnt]

/-- The block fields of a sequencer page (R478, R479). -/
def seqFields (_fn : Nat) : List Fld :=
   List.flatten
   [[.seqLanes, .seqPolicy, .seqStartOn, .seqPrime, .seqFirst, .seqLast],
    [.seqParkSeg, .seqDiv, .seqCmdStart, .seqCmdAbort, .seqJumpTarget, .seqJumpReqBit],
    [.seqJumpOrigin, .seqState, .seqSeg, .seqJumpRefused, .seqJumpTaken, .seqEdgeMerge],
    [.seqFail, .seqUnderrun, .seqDone, .seqOutcome, .seqReason, .seqStartRefuse],
    [.seqRefuseCode, .seqBadIndex, .seqJstatSeg, .seqJstatLate, .seqJstatGran, .seqJstatRep],
    [.seqUndSeg, .seqUndGran, .seqUndRep, .seqSlipLast, .seqJreplCnt, .seqUndCnt],
    [.seqMergeCnt, .seqAbortLate],
    Fld.idx 4 .seqJtgt,
    Fld.idx 4 .seqLoop,
    Fld.idx 9 .seqLfail,
    Fld.idx 32 .seqTsPer,
    Fld.idx 32 .seqTsDon,
    Fld.idx 32 .seqTsDat,
    Fld.idx 32 .seqTsDoff,
    Fld.idx 32 .seqTsStrb]

/-- The block fields of an acquisition page (R481). -/
def acqFields (_fn : Nat) : List Fld :=
   List.flatten
   [[.acqLanes, .acqPair, .acqAvg, .acqSrc, .acqWrap, .acqLenm1],
    [.acqPre, .acqNrec, .acqDestBase, .acqDestPages, .acqTrigSrc, .acqTrigSlot],
    [.acqTrigSlope, .acqTrigLat, .acqTrigLevel, .acqTrigHyst, .acqRole, .acqRrMode],
    [.acqRrThresh, .acqRrMax, .acqCmdArm, .acqCmdTrig, .acqCmdAbort, .acqState],
    [.acqUnresolved, .acqDone, .acqCommitted, .acqSlotSize, .acqOutcome, .acqReason],
    [.acqArmRefuse, .acqRecords, .acqMissedCnt, .acqRrCnt, .acqOvfCnt, .acqAbortLate]]

/-- The block fields of a local baton page (R482). -/
def batFields (_fn : Nat) : List Fld :=
   List.flatten
   [[.batFirePos, .batSeenLo, .batSeenHi, .batRouteRef, .batLoop, .batRefOff],
    [.batDroppedBusy, .batDropLast, .batCoalesced, .batCoalLast, .batLoopPos, .batLoopCh],
    [.batLoopChv],
    Fld.idx 48 .batRouteLo,
    Fld.idx 48 .batRouteHi,
    Fld.idx 8 .batToutCh,
    Fld.idx 8 .batToutEn,
    Fld.idx 8 .batTinCh,
    Fld.idx 8 .batTinEn,
    Fld.idx 4 .batTscap]

/-- The block fields of an engine status page (R483). -/
def engFields (_fn : Nat) : List Fld :=
   List.flatten
   [[.engState, .engCtx]]

/-- The block fields of a context-table header page (R484). -/
def ctxHdrFields (fn : Nat) : List Fld :=
   List.flatten
   [[.ctxFullCnt fn, .ctxAbortLate fn, .ctxGoUnused fn]]

/-- The block fields of a page of the kind of `p`, in the copies of agent `fn` where they are copied (R445). -/
def Page.blockFields (p : Page) (fn : Nat) : List Fld :=
  match p with
  | .dev => devFields fn
  | .pace => paceFields fn
  | .pwr => pwrFields fn
  | .cat => catFields fn
  | .cur => curFields fn
  | .trk => trkFields fn
  | .wl => wlFields fn
  | .q _ => qFields fn
  | .arc => arcFields fn
  | .site => siteFields fn
  | .tile _ => tileFields fn
  | .lane _ _ => laneFields fn
  | .seq _ => seqFields fn
  | .acq _ => acqFields fn
  | .bat _ => batFields fn
  | .eng _ _ => engFields fn
  | .ctxHdr _ => ctxHdrFields fn

/-- Every field that agent `fn` can reach on page `p`. -/
def Page.fields (p : Page) (fn : Nat) : List Fld := headerFields fn ++ p.blockFields fn

/-- The LIVE registers that carry ORIGIN at bit 31, by page and offset (R465). -/
def Page.origin (p : Page) (off : Nat) : Option Fld :=
  match p with
  | .lane _ _ =>
    if off = 0x100 then some .laneForceOrigin else if off = 0x104 then some .laneClampHiOrigin
    else if off = 0x108 then some .laneClampLoOrigin else if off = 0x10C then some .laneVclampHiOrigin
    else if off = 0x110 then some .laneVclampLoOrigin else if off = 0x114 then some .laneDacOrigin
    else if off = 0x11C then some .laneSenseOrigin else if off = 0x120 then some .laneCompOrigin
    else if off = 0x134 then some .lanePersOrigin else none
  | .seq _ => if off = 0x124 then some .seqJumpOrigin else none
  | _ => none

/-- PAGE_ID.TYPE (R461). -/
def Page.typeCode : Page → Nat
  | .dev => 0x0001 | .pace => 0x0002 | .pwr => 0x0003 | .cat => 0x0004 | .cur => 0x0005 | .trk => 0x0006 | .wl => 0x0007
  | .q _ => 0x0008 | .arc => 0x0009 | .site => 0x000A | .tile _ => 0x0010 | .lane _ _ => 0x0011 | .seq _ => 0x0012
  | .acq _ => 0x0013 | .bat _ => 0x0014 | .eng _ _ => 0x0015 | .ctxHdr _ => 0x0016

/-- PAGE_ID.INSTANCE (R444). -/
def Page.inst : Page → Nat
  | .lane t s => t * 10 + s | .eng t k => t * 64 + k | .tile t => t | .seq t => t | .acq t => t | .bat t => t
  | .ctxHdr t => t | _ => 0

/-- The reset value of PAGE_CTRL.EN: 0 on pages with CFG fields, 1 otherwise (R444). -/
def Page.enReset : Page → Nat
  | .dev | .cat | .wl | .seq _ | .acq _ => 0
  | _ => 1

/-- The PF0 plan of the device-level pages (R459). -/
def devicePage (fn n : Nat) : Option Page :=
  match n with
  | 0 => some .dev | 1 => some .pace | 2 => some .pwr | 3 => some .cat | 4 => some .cur | 5 => some .trk | 6 => some .wl
  | 7 => some (.q fn) | 8 => some .arc | 9 => some .site | _ => none

/-- What a 1 MiB tile offset addresses (R460): a page and the offset in it, a word of the segment-table window, or a word
of the context-entry window. -/
inductive Target where
  | reg (p : Page) (off : Nat)
  | segWord (t word : Nat)
  | ctxWord (t word : Nat)
  | queueWin (q : Nat)
  | doorbell (r : Nat)
  | msixEnt (v word : Nat)
  | msixPba (word : Nat)
  | none
deriving DecidableEq, Repr

/-- The layout of tile `t` (R460). -/
def tileTarget (t o : Nat) : Target :=
  let pg := o / 0x1000
  let off := o % 0x1000
  if pg = 0 then .reg (.tile t) off
  else if 0x10 ≤ pg ∧ pg ≤ 0x19 then .reg (.lane t (pg - 0x10)) off
  else if pg = 0x20 then .reg (.seq t) off
  else if pg = 0x30 then .reg (.acq t) off
  else if pg = 0x38 then .reg (.bat t) off
  else if 0x40 ≤ pg ∧ pg ≤ 0x5F then .segWord t ((o - 0x40000) / 4)
  else if 0x80 ≤ pg ∧ pg ≤ 0xBF then .reg (.eng t (pg - 0x80)) off
  else if pg = 0xC0 then .reg (.ctxHdr t) off
  else if 0xC1 ≤ pg ∧ pg ≤ 0xC4 then .ctxWord t ((o - 0xC1000) / 4)
  else .none

/-- What PF0 offset `o` addresses (R459). -/
def pf0Target (fn o : Nat) : Target :=
  if o < 0x1000000 then
    match devicePage fn (o / 0x1000) with
    | some p => .reg p (o % 0x1000)
    | Option.none => .none
  else if o < 0x2000000 then tileTarget ((o - 0x1000000) / 0x100000) ((o - 0x1000000) % 0x100000)
  else .none

/-- What BAR4 offset `o` addresses (R410): the core view, a command queue window, the word of a result doorbell, a word of the MSI-X
table, or a word of the Pending Bit Array. -/
def bar4Target (fn o : Nat) : Target :=
  if o < 0x100000 then pf0Target fn o
  else if o < 0x180000 then .queueWin ((o - 0x100000) / 0x10000)
  else if o < 0x190000 then (if o % 0x1000 < 4 then .doorbell ((o - 0x180000) / 0x1000) else .none)
  else if 0x200000 ≤ o ∧ o < 0x200800 then .msixEnt ((o - 0x200000) / 16) (o % 16 / 4)
  else if 0x208000 ≤ o ∧ o < 0x208010 then .msixPba ((o - 0x208000) / 4)
  else .none

/-- What a host access addresses: BAR0 of PF0 (R459), BAR0 of a site, which maps the tiles only (R409), and BAR4 (R410). -/
def accTarget (a : Acc) : Target :=
  if a.bar = 0 then (if a.fn = 0 then pf0Target a.fn a.off else pf0Target a.fn (0x1000000 + a.off))
  else if a.bar = 4 then bar4Target a.fn a.off
  else .none

end Sys2Proof.Machine
end

