-- ==== Sys2Proof/Machine/Operands.lean ====
section
/-! DEFINITION. The operand forms of the part as pure functions: bit fields and signs, register and queue words, the
descriptors of R134 to R150, segment-table entries (R169), vectors (R192), result words (R47) and packets (R154). -/

namespace Sys2Proof.Machine

/-- Bits [lo + w - 1 : lo] of a number. -/
def bits (v lo w : Nat) : Nat := v / 2 ^ lo % 2 ^ w

/-- The two's-complement value of a `w`-bit number. -/
def sext (w v : Nat) : Int := if v % 2 ^ w < 2 ^ (w - 1) then Int.ofNat (v % 2 ^ w) else Int.ofNat (v % 2 ^ w) - 2 ^ w

/-- The `w`-bit two's-complement code of a number. -/
def enc (w : Nat) (x : Int) : Nat := (x % 2 ^ w).toNat

/-- `x` held between `-(2^(w-1))` and `2^(w-1) - 1`. -/
def satS (w : Nat) (x : Int) : Int := max (-(2 ^ (w - 1))) (min x (2 ^ (w - 1) - 1))

/-- Bits [lo + w - 1 : lo] of a register word. -/
def wbits (x : Word) (lo w : Nat) : Nat := bits x.toNat lo w

/-- The bit positions set in `v` below `n`. -/
def setBits (v n : Nat) : List Nat := (List.range n).filter fun i => v.testBit i

/-- The number of ones among the low `n` bits. -/
def ones (v n : Nat) : Nat := (setBits v n).length

/-- A 32-bit word of a packet. -/
def pw (v : Nat) : Word := BitVec.ofNat 32 v

/-- A Bool as a bit. -/
def bit (b : Bool) : Nat := if b then 1 else 0

/-- The quotient rounded up. -/
def ceilDiv (a b : Nat) : Nat := (a + b - 1) / b

/-- The nearest integer to a / b, halves away from zero. -/
def nearest (a : Int) (b : Nat) : Int :=
  if b = 0 then 0 else if a ≥ 0 then (2 * a + b) / (2 * b) else -((2 * (-a) + b) / (2 * b))

/-! The sine of the DDS stimulus (R97). -/

/-- `n` terms of the sine series at `x`, from the term `t` of power `k` on, in units of 2^-64. -/
def sinSeries (x : Int) : Nat → Nat → Int → Int
  | 0, _, _ => 0
  | n + 1, k, t => t + sinSeries x n (k + 2) (-(t * x / 2 ^ 64 * x / 2 ^ 64) / ((k + 1) * (k + 2) : Nat))

/-- sin(2π × phase / 2^48) in units of 2^-64, to within 2^-56; 28,976,077,832,308,491,370 is π / 2 in these units. At the whole
quarter cycles it is exact. -/
def sinPhase (phase : Nat) : Int :=
  let q := phase / 2 ^ 46 % 4
  let r := phase % 2 ^ 46
  let x : Int := ((if q % 2 = 1 then 2 ^ 46 - r else r) * 28976077832308491370 / 2 ^ 46 : Nat)
  let v := if r = 0 then (if q % 2 = 1 then 2 ^ 64 else 0) else sinSeries x 14 1 x
  if 2 ≤ q then -v else v

/-- (AMPL / 65,536) × FS × sin(2π × phase / 2^48) as a force-DAC code (R97): one of the two codes beside the exact value, and
which is free (log entry 7). -/
def ddsCode (ampl phase : Nat) : Int :=
  let v := 8 * (ampl : Int) * sinPhase phase
  v / 2 ^ 64 + (if v % 2 ^ 64 = 0 then 0 else Config.ddsRound ampl phase % 2)

end Sys2Proof.Machine
end

