-- ==== Sys2Proof/Machine/Ops.lean ====
section
/-! DEFINITION. The named operations over the state: sparse tables, register fields by class (R447, R449 to R451), event
flags and their messages (R415, R444, R445), byte memories, pages and their viewers (R29, R441, R461), and the fault log.
Every family reads and writes the state through these. -/

namespace Sys2Proof.Machine

/-! Sparse tables in rising order of key. -/

/-- The entry at key `k`, or `d` where none is listed. -/
def tabGet {α : Type} (d : α) : Tab α → Nat → α
  | [], _ => d
  | (j, x) :: t, k => if j = k then x else tabGet d t k

/-- The table with `x` at key `k`. -/
def tabSet {α : Type} : Tab α → Nat → α → Tab α
  | [], k, x => [(k, x)]
  | (j, y) :: t, k, x =>
    if k < j then (k, x) :: (j, y) :: t
    else if k = j then (k, x) :: t
    else (j, y) :: tabSet t k x

/-- The table without key `k`. -/
def tabDel {α : Type} (t : Tab α) (k : Nat) : Tab α := t.filter fun e => e.1 != k

/-! Byte memories: the Archive (R243) and the bytes written into host memory. An unlisted byte reads as 0. -/

/-- The byte at address `a`. -/
def memGet : List Host.Cell → Nat → Byte
  | [], _ => 0
  | (b, x) :: m, a => if b = a then x else memGet m a

/-- The memory with byte `v` at address `a`, in canonical form. -/
def memSet : List Host.Cell → Nat → Byte → List Host.Cell
  | [], a, v => if v = 0 then [] else [(a, v)]
  | (b, x) :: m, a, v =>
    if a < b then (if v = 0 then (b, x) :: m else (a, v) :: (b, x) :: m)
    else if a = b then (if v = 0 then m else (a, v) :: m)
    else (b, x) :: memSet m a v

/-- The memory with `bs` stored from address `a` upward. -/
def memStore : List Host.Cell → Nat → List Byte → List Host.Cell
  | m, _, [] => m
  | m, a, b :: bs => memStore (memSet m a b) (a + 1) bs

/-- `n` bytes from address `a`. -/
def memLoad (m : List Host.Cell) (a n : Nat) : List Byte := (List.range n).map fun i => memGet m (a + i)

/-- The little-endian number that `bs` spells (R439 has registers little-endian; the Archive's blocks follow it). -/
def leNat : List Byte → Nat
  | [] => 0
  | b :: bs => b.toNat + 256 * leNat bs

/-- `n` bytes of `v`, little-endian. -/
def leBytes (v : Nat) : Nat → List Byte
  | 0 => []
  | n + 1 => BitVec.ofNat 8 v :: leBytes (v / 256) n

/-- The memory without the bytes of [a, a + n). -/
def memErase (m : List Host.Cell) (a n : Nat) : List Host.Cell := m.filter fun c => c.1 < a || a + n ≤ c.1

/-- The canonical form: addresses strictly rising, no byte 0. -/
def Memory.wf : List Host.Cell → Bool
  | [] => true
  | [c] => c.2 != 0
  | c :: d :: m => c.2 != 0 && decide (c.1 < d.1) && Memory.wf (d :: m)

/-! Register fields. -/

/-- A field's value at reset; PAGE_CTRL.EN's depends on the page (R444). -/
def regReset (p : Page) (f : Fld) : Nat := if f = .pageEn then p.enReset else f.rst

/-- The value of a field in a set of fields. -/
def regGet : RegTab → Page → Fld → Nat
  | [], p, f => regReset p f
  | c :: t, p, f => if c.fld = f ∧ c.page = p then c.val else regGet t p f

/-- The fields with one more value. -/
def regSet (t : RegTab) (p : Page) (f : Fld) (v : Nat) : RegTab :=
  ⟨p, f, v⟩ :: t.filter fun c => !(decide (c.fld = f) && decide (c.page = p))

/-- The value of field `f` of page `p`. -/
def State.r (m : State) (p : Page) (f : Fld) : Nat := regGet m.regs p f

/-- Field `f` of page `p` takes the value `v`, cut to its width. -/
def State.w (m : State) (p : Page) (f : Fld) (v : Nat) : State :=
  { m with regs := regSet m.regs p f (v % 2 ^ f.w) }

/-- Several fields of one page take values. -/
def State.ws (m : State) (p : Page) : List (Fld × Nat) → State
  | [] => m
  | (f, v) :: l => (m.w p f v).ws p l

/-- A CNT field counts one event and wraps (R451, R465). -/
def State.inc (m : State) (p : Page) (f : Fld) : State := m.w p f (m.r p f + 1)

/-- A CNT field counts `n` events. -/
def State.incBy (m : State) (p : Page) (f : Fld) (n : Nat) : State := m.w p f (m.r p f + n)

/-- A saturating count (R444, R451) counts one event. -/
def State.incSat (m : State) (p : Page) (f : Fld) : State := m.w p f (min (m.r p f + 1) (2 ^ f.w - 1))

/-- Field `f` of page `p` returns to its reset value. -/
def State.rstFld (m : State) (p : Page) (f : Fld) : State := m.w p f (regReset p f)

/-- The value of a LIVE lane field as latched, which is the value in force (R22). -/
def State.l (m : State) (p : Page) (f : Fld) : Nat := regGet m.lat p f

/-- The LIVE fields `fs` of page `p` are latched (R22). -/
def State.latch (m : State) (p : Page) : List Fld → State
  | [] => m
  | f :: fs => ({ m with lat := regSet m.lat p f (m.r p f) } : State).latch p fs

/-- Page `p` in every copy returns to its reset values. -/
def State.rstPage (m : State) (p : Page) : State :=
  { m with regs := m.regs.filter (fun c => c.page != p), lat := m.lat.filter (fun c => c.page != p) }

/-! What stands beside the pages. -/

/-- The lane of tile `t`, slot `s`. -/
def State.lane (m : State) (t s : Nat) : LaneDyn := tabGet {} m.lanes (t * 10 + s)
def State.setLane (m : State) (t s : Nat) (d : LaneDyn) : State := { m with lanes := tabSet m.lanes (t * 10 + s) d }
def State.modLane (m : State) (t s : Nat) (f : LaneDyn → LaneDyn) : State := m.setLane t s (f (m.lane t s))

/-- The context with identifier `id`. -/
def State.ctx (m : State) (id : Nat) : Ctx := tabGet {} m.ctxs id
def State.setCtx (m : State) (id : Nat) (c : Ctx) : State := { m with ctxs := tabSet m.ctxs id c }
def State.modCtx (m : State) (id : Nat) (f : Ctx → Ctx) : State := m.setCtx id (f (m.ctx id))

/-- The Stride sequencer, the acquisition unit, the substitute and the rest of tile `t`. -/
def State.seq (m : State) (t : Nat) : SeqDyn := tabGet {} m.seqs t
def State.setSeq (m : State) (t : Nat) (q : SeqDyn) : State := { m with seqs := tabSet m.seqs t q }
def State.modSeq (m : State) (t : Nat) (f : SeqDyn → SeqDyn) : State := m.setSeq t (f (m.seq t))
def State.acq (m : State) (t : Nat) : AcqDyn := tabGet {} m.acqs t
def State.setAcq (m : State) (t : Nat) (q : AcqDyn) : State := { m with acqs := tabSet m.acqs t q }
def State.modAcq (m : State) (t : Nat) (f : AcqDyn → AcqDyn) : State := m.setAcq t (f (m.acq t))
def State.subst (m : State) (t : Nat) : SubstDyn := tabGet {} m.substs t
def State.setSubst (m : State) (t : Nat) (q : SubstDyn) : State := { m with substs := tabSet m.substs t q }
def State.modSubst (m : State) (t : Nat) (f : SubstDyn → SubstDyn) : State := m.setSubst t (f (m.subst t))
def State.tile (m : State) (t : Nat) : TileDyn := tabGet {} m.tiles t
def State.setTile (m : State) (t : Nat) (q : TileDyn) : State := { m with tiles := tabSet m.tiles t q }
def State.modTile (m : State) (t : Nat) (f : TileDyn → TileDyn) : State := m.setTile t (f (m.tile t))

/-- A PCI Express function, its command queue `n` and its result queue `r`. -/
def State.fn (m : State) (f : Nat) : FnDyn := tabGet {} m.fns f
def State.setFn (m : State) (f : Nat) (q : FnDyn) : State := { m with fns := tabSet m.fns f q }
def State.cq (m : State) (f n : Nat) : CmdQ := tabGet {} m.cqs (f * 8 + n)
def State.setCq (m : State) (f n : Nat) (q : CmdQ) : State := { m with cqs := tabSet m.cqs (f * 8 + n) q }
def State.rq (m : State) (f n : Nat) : ResQ := tabGet {} m.rqs (f * 16 + n)
def State.setRq (m : State) (f n : Nat) (q : ResQ) : State := { m with rqs := tabSet m.rqs (f * 16 + n) q }

/-- The pace has reached tick `e`: a paced event happens at its due tick (log entry 3). -/
def State.due (m : State) (e : Nat) : State := { m with pace := max m.pace e }

/-- A free value is drawn: the counter moves on (log entry 4). -/
def State.drawn (m : State) : State := { m with freeCtr := m.freeCtr + 1 }

/-- The first multiple of `n` after tick `e`, and at or after it. -/
def nextMul (n e : Nat) : Nat := (e / n + 1) * n
def ceilMul (n e : Nat) : Nat := (e + n - 1) / n * n

/-! Domains, ownership and pages. -/

/-- Domain bit `n` of PWR_DOM_STAT (R381): 0 AON, 1 CORE, 2 LINK, 3 ARCH, 4 + t the domain of tile t. -/
def State.dom (m : State) (n : Nat) : Bool := (m.r .pwr .pwrDomStat).testBit n

/-- A domain bit is set or cleared. -/
def State.setDom (m : State) (n : Nat) (on : Bool) : State :=
  let d := m.r .pwr .pwrDomStat
  m.w .pwr .pwrDomStat (if on then d ||| 2 ^ n else d - (if d.testBit n then 2 ^ n else 0))

/-- Tile `t` is powered and out of reset. -/
def State.tileOn (m : State) (t : Nat) : Bool := decide (t < 16) && m.dom (4 + t)

/-- ARCH is powered. -/
def State.archOn (m : State) : Bool := m.dom 3

/-- The home site of tile `t`, 0 for none (R26). -/
def State.home (m : State) (t : Nat) : Nat := m.r .site (.siteHome t)

/-- The owner of a lane: its site, 0 for PF0; the substitute is PF0's (R26, R30). -/
def State.laneOwner (m : State) (t s : Nat) : Nat := if s < 9 then m.r .site (.siteOwn t s) else 0

/-- The site `fn` owns trunk channel `ch`; PF0 owns all for this purpose (R15, R26). -/
def State.ownsTrk (m : State) (fn ch : Nat) : Bool :=
  fn == 0 || (m.r .site (.siteTrk fn (ch / 32))).testBit (ch % 32)

/-- The owner of trunk channel `ch`: a site, or PF0 (R26). -/
def State.trkOwner (m : State) (ch : Nat) : Nat :=
  ((List.range 16).map (· + 1)).find? (fun n => m.ownsTrk n ch) |>.getD 0

/-- The site `fn` owns Walul channel `k`. -/
def State.ownsWl (m : State) (fn k : Nat) : Bool := fn == 0 || (m.r .site (.siteWlch fn)).testBit k

/-- The function `fn` has a context quota in tile `t` (R121). -/
def State.quota (m : State) (fn t : Nat) : Nat := m.r .site (.siteQuota fn t)

/-- The unit of a page is fitted (R3): the Walul page is absent on the CG9144-B. -/
def State.fitted (m : State) (p : Page) : Bool :=
  match p with
  | .wl => m.variant != .b
  | _ => true

/-- The DDS, the booster ports and the Walul ports are fitted (R2). -/
def State.hasDds (m : State) : Bool := m.variant != .b
def State.hasBoost (m : State) : Bool := m.variant == .a
def State.hasWalul (m : State) : Bool := m.variant != .b

/-- The function `fn` is among the viewers of the page (R29, R461). -/
def State.views (m : State) (fn : Nat) (p : Page) : Bool :=
  (fn == 0 || m.r .site .siteDefault == 0) &&
  match p with
  | .dev | .trk => true
  | .q f => f == fn
  | .pace | .pwr | .cat | .cur | .wl | .arc | .site => fn == 0
  | .tile t | .seq t | .acq t | .bat t | .eng t _ => fn == 0 || m.home t == fn
  | .lane t s => fn == 0 || (decide (s < 9) && m.laneOwner t s == fn)
  | .ctxHdr t => fn == 0 || m.quota fn t != 0

/-- The tile that holds a page. -/
def Page.tileOf : Page → Option Nat
  | .tile t | .lane t _ | .seq t | .acq t | .bat t | .eng t _ | .ctxHdr t => some t
  | _ => none

/-- The page's place exists: 16 tiles, 10 slots, 64 engines (R12). -/
def Page.valid : Page → Bool
  | .lane t s => decide (t < 16) && decide (s < 10)
  | .eng t k => decide (t < 16) && decide (k < 64)
  | .tile t | .seq t | .acq t | .bat t | .ctxHdr t => decide (t < 16)
  | .q fn => decide (fn < 17)
  | _ => true

/-- Page `p` is present for function `fn` (R3, R29, R390, R441). -/
def State.present (m : State) (fn : Nat) (p : Page) : Bool :=
  p.valid && decide (fn < 17) && m.fitted p && m.views fn p &&
    (match p.tileOf with | some t => m.tileOn t | none => true) &&
    (p == .dev || m.r .dev .devStatReady == 1)

/-- A full queue in CG7048-compatible mode stalls the whole link (R420). -/
def State.linkStalled (m : State) : Bool := m.cqs.any fun e => !e.2.stalled.isEmpty

/-- The function is there for the host: the link is up, and PF0 alone where no Curator image verifies (R389, R391, R395). -/
def State.linked (m : State) (fn : Nat) : Bool :=
  decide (fn < 17) && (fn == 0 || m.r .dev .devStatBootFail == 0) && m.cur.aon && m.cur.linkUp && m.cur.pfail.isNone

/-- The host's accesses wait: behind a stalled write, or behind others that have waited for it (R420). -/
def State.waits (m : State) : Bool := m.linkStalled || !m.held.isEmpty

/-- The host reaches the BARs of function `fn`: no access waits, the function is in D0 and no reset of it runs (R389, R406, R420,
R434). -/
def State.reach (m : State) (fn : Nat) : Bool :=
  m.linked fn && !m.waits && !(m.fn fn).d3 && (m.fn fn).flr.isNone

/-! Event flags and messages. -/

/-- A number put into a rising list, once. -/
def insertUp (n : Nat) : List Nat → List Nat
  | [] => [n]
  | k :: l => if n < k then n :: k :: l else if n = k then k :: l else k :: insertUp n l

/-- The offsets of the page's block registers that hold an EVT field, ascending: the EVT groups (R464). -/
def evtOffs (p : Page) (fn : Nat) : List Nat :=
  ((p.blockFields fn).filter fun f => f.cls == .evt).foldl (fun l f => insertUp f.off l) []

/-- The value of an EVT field as function `fn` sees it: on the trunk page a site sees its own channels only (R297). -/
def State.evtSeen (m : State) (p : Page) (fn : Nat) (f : Fld) : Nat :=
  if p = .trk ∧ fn ≠ 0 then
    if 0x1C4 ≤ f.off ∧ f.off ≤ 0x1D0 then
      m.r p f &&& m.r .site (.siteTrk fn ((f.off - 0x1C4) / 4))
    else if f = .trkRouteRef fn then m.r p f
    else if f = .trkLoop then (if m.ownsTrk fn (m.r .trk .trkLoopCh) then m.r p f else 0) else 0
  else m.r p f

/-- EVT_RAW as function `fn` reads it (R444, R445). -/
def State.evtRaw (m : State) (p : Page) (fn : Nat) : Nat :=
  let fs := (p.blockFields fn).filter fun f => f.cls == .evt
  let grp := (evtOffs p fn).zipIdx.foldl (fun acc (off, i) =>
    if fs.any (fun f => f.off == off && m.evtSeen p fn f != 0) then acc ||| 2 ^ i else acc) 0
  let own := m.r p (.ignIgn fn) + m.r p (.ignErr fn) + m.r p (.mbxDone fn)
  grp + (if own = 0 then 0 else 2 ^ 31)

/-- EVT_PEND as function `fn` reads it (R444). -/
def State.evtPend (m : State) (p : Page) (fn : Nat) : Nat := m.evtRaw p fn &&& m.r p (.evtEn fn)

/-- The signalling functions of a page (R415): on the trunk page every function, each for its own view of the flags, and PF0 for
every other page, the queue pages among them. -/
def State.signalFns (m : State) (p : Page) : List Nat :=
  match p with
  | .lane t s => [m.laneOwner t s]
  | .tile t | .seq t | .acq t | .bat t | .eng t _ | .ctxHdr t => [m.home t]
  | .trk => List.range 17
  | _ => [0]

/-- Word `k` of entry `v` of the MSI-X table (R410, R414): message address, upper address, data and vector control, whose mask bit
is 1 until the host clears it. -/
def Msi.word (x : Msi) (v k : Nat) : Nat := tabGet (if k = 3 then 1 else 0) x.table (v * 4 + k)

/-- MSI-X of function `fn`. -/
def State.msi (m : State) (fn : Nat) : Msi := tabGet {} m.msix fn
def State.setMsi (m : State) (fn : Nat) (x : Msi) : State := { m with msix := tabSet m.msix fn x }

/-- MSI-X after a reset of its function, or of all (R414, R436): disabled, every entry masked, nothing pending; what has been sent
has been sent. -/
def Msi.off (x : Msi) : Msi := { sent := x.sent }
def State.msixOff (m : State) : Tab Msi := m.msix.map fun (f, x) => (f, x.off)

/-- A message on vector `v` can go out: MSI-X is enabled, the entry is not masked, and the function may write to memory (R406, R414,
R431). -/
def State.tells (m : State) (fn v : Nat) : Bool :=
  (m.msi fn).en && (m.fn fn).bme && !(m.fn fn).d3 && (m.fn fn).flr.isNone && (m.msi fn).word v 3 % 2 == 0

/-- A message is due on vector `v` of function `fn` (R414): it is sent, or its pending bit sets while MSI-X is enabled and it cannot
be; with MSI-X disabled none is sent (log entry 12). -/
def State.message (m : State) (fn v : Nat) : State :=
  let x := m.msi fn
  if m.tells fn v then m.setMsi fn { x with sent := tabSet x.sent v (tabGet 0 x.sent v + 1) }
  else if x.en then m.setMsi fn { x with pba := insertUp v x.pba }
  else m

/-- The pending messages of function `fn` that can now be sent are sent, and their pending bits clear (R414). -/
def State.sendPending (m : State) (fn : Nat) : State :=
  let x := m.msi fn
  (x.pba.filter (m.tells fn)).foldl (fun m v => m.message fn v) (m.setMsi fn { x with pba := x.pba.filter fun v => !m.tells fn v })

/-- Some field that is PF0's on the trunk page has set (R415): a channel flag, or the loop flag of a channel, that no site owns, or
any other flag. -/
def trkTellsPf0 (before after : State) : Bool :=
  (evtOffs .trk 0).any fun off => ((Page.trk.blockFields 0).filter fun f => f.cls == .evt && f.off == off).any fun f =>
    let new := after.r .trk f - (after.r .trk f &&& before.r .trk f)
    if 0x1C4 ≤ off ∧ off ≤ 0x1D0 then
      (List.range 32).any fun i => new.testBit i && (List.range 16).all fun k => !(after.r .site (.siteTrk (k + 1) ((off - 0x1C4) / 4))).testBit i
    else if f = .trkLoop then new != 0 && (List.range 16).all fun k => !after.ownsTrk (k + 1) (after.r .trk .trkLoopCh)
    else new != 0

/-- Bit 31 of EVT_RAW is new for function `fn` (R444, R445). -/
def ownTells (before after : State) (p : Page) (fn : Nat) : Bool :=
  decide (before.evtRaw p fn < 2 ^ 31) && decide (2 ^ 31 ≤ after.evtRaw p fn)

/-- `after`, with a message for each signalling function of page `p` whose EVT_PEND went from zero to nonzero (R415): on the trunk
page PF0 only for a field that is its own. -/
def signal (before after : State) (p : Page) : State :=
  (after.signalFns p).foldl (fun m fn =>
    if before.evtPend p fn = 0 ∧ after.evtPend p fn ≠ 0 ∧ (p ≠ .trk ∨ fn ≠ 0 ∨ trkTellsPf0 before after ∨ ownTells before after p 0) then
      m.message fn (m.r (.q fn) .qEvtVec)
    else m) after

/-- Hardware sets the EVT field `f` of page `p` (R447). -/
def State.flag (m : State) (p : Page) (f : Fld) : State := signal m (m.w p f 1) p

/-- Hardware sets bits `b` of the EVT field `f`. -/
def State.flagBits (m : State) (p : Page) (f : Fld) (b : Nat) : State := signal m (m.w p f (m.r p f ||| b)) p

/-- A hardware write to a LIVE register: its fields change and its ORIGIN reads 1 (R449). -/
def State.hwLive (m : State) (p : Page) (l : List (Fld × Nat)) : State :=
  l.foldl (fun m (f, v) =>
    let m := m.w p f v
    match p.origin f.off with
    | some o => m.w p o 1
    | none => m) m

/-- An ignored write of agent `fn` at offset `off` of page `p` (R448). -/
def State.ignore (m : State) (fn : Nat) (p : Page) (off : Nat) : State :=
  let m1 := if m.r p (.ignIgn fn) = 0 then m.w p (.ignOff fn) off else m
  signal m ((m1.w p (.ignIgn fn) 1).incSat p (.ignCnt fn)) p

/-- A malformed access of agent `fn` at offset `off` of page `p` (R439, R448). -/
def State.malformed (m : State) (fn : Nat) (p : Page) (off : Nat) (wr : Bool) : State :=
  let m1 := if m.r p (.ignErr fn) = 0 then (m.w p (.errOff fn) off).w p (.errWr fn) (if wr then 1 else 0) else m
  signal m ((m1.w p (.ignErr fn) 1).incSat p (.errCnt fn)) p

/-! Time, faults and alerts. -/

/-- The timestamp of tick `e` (R17), with the NO_REFIN flag while REFIN is missing (R279). -/
def State.stamp (m : State) (e : Nat) (sub : Nat := 0) : Stamp :=
  ⟨e, sub, m.r .pace .paceRefinOk == 0⟩

/-- DEV_STAT.ALERT sets, where its enable bit is set (R265). -/
def State.alert (m : State) (en : Bool) : State := if en then m.flag .dev .devStatAlert else m

/-- An entry of DEV_FAULT_LOG, the newest first, 256 kept (R264). -/
def State.logFault (m : State) (t s code : Nat) (value : Int) : State :=
  { m with faultLog := (⟨m.stamp m.pace, m.r .dev .devStrapIndex, t, s, code, value⟩ :: m.faultLog).take 256 }

/-- AER of function `fn` logs an error of kind `k` (R407). -/
def State.aerLog (m : State) (fn k : Nat) : State := m.setFn fn { m.fn fn with aer := (m.fn fn).aer ||| 2 ^ k }

/-- A BAR access that meets its function in D3hot is logged (R406, R407). -/
def State.barTouch (m : State) (fn : Nat) : State :=
  if (m.fn fn).d3 && m.linked fn && !m.waits && (m.fn fn).flr.isNone then m.aerLog fn 3 else m

/-- What the host gets for a read of a BAR: no completion at once while its accesses wait, or while the function is not there;
Unsupported Request; or data. -/
inductive Reply where
  | none | waits | unsupported | data (v : Nat)
deriving DecidableEq, Repr

/-- The answer to a read of function `fn` that finds the value `v` (R406, R420, R434). -/
def State.reply (m : State) (fn v : Nat) : Reply :=
  if !m.linked fn then .none
  else if m.waits then .waits
  else if (m.fn fn).d3 || (m.fn fn).flr.isSome then .unsupported
  else .data v

/-- What a step answers. -/
abbrev Out := Host.Outcome State Fault Refusal

/-- The next state. -/
def done (m : State) : Out := .next m

/-- The effect where the event's condition holds, else no effect (log entry 3). -/
def onlyIf (c : Bool) (m : State) (m' : State) : Out := .next (if c then m' else m)

/-- Host access `i` of function `fn` waits behind a stalled write, and acts after it (R420; log entry 1). -/
def State.hold (m : State) (i : Instr) : State := { m with held := m.held ++ [i] }

/-- The effect of host access `i` of function `fn` where it reaches its register or window, else no effect but what R407 logs. -/
def byHost (i : Instr) (fn : Nat) (c : Bool) (m : State) (m' : State) : Out :=
  .next (if m.linked fn && m.waits then m.hold i else if c then m' else m.barTouch fn)

end Sys2Proof.Machine
end

