-- ==== Sys2Proof/Machine/Corrections.lean ====
section
/-! DEFINITION. Calibration as arithmetic (R307 to R311, R317): the choice of converter elements, the values that a pass gives, and the
corrections applied to what a lane forces, measures and times. -/

namespace Sys2Proof.Machine

/-! The choice of elements (R307, R308). -/

/-- Two lists of values taken together; a value that one of them lacks counts as 0. -/
def zipPad (f : Int → Int → Int) : List Int → List Int → List Int
  | [], l => l.map (f 0)
  | l, [] => l.map fun x => f x 0
  | x :: a, y :: b => f x y :: zipPad f a b

/-- The sums of the first 1, 2, … values. -/
def partialSums (acc : Int) : List Int → List Int
  | [] => []
  | x :: l => (acc + x) :: partialSums (acc + x) l

/-- The greatest magnitude of a list. -/
def peakOf (l : List Int) : Int := l.foldl (fun a x => max a x.natAbs) 0

/-- The peak nonlinearity of capacitors with the deviations `l`, used in this order, against the line through both ends: in ppm
of a capacitor times their number. -/
def inlPeak (l : List Int) : Int :=
  peakOf ((partialSums 0 l).zipIdx.map fun (x, k) => l.length * x - (k + 1 : Nat) * l.sum)

/-- The choices of four elements out of `n`, ascending. -/
def fours (n : Nat) : List (List Nat) :=
  (List.range n).flatMap fun a => (List.range a).flatMap fun b => (List.range b).flatMap fun c => (List.range c).map fun d => [d, c, b, a]

/-- The choice with the least value of `f`, of equal ones the first. -/
def leastBy (f : List Nat → Int) : List (List Nat) → Option (List Nat × Int)
  | [] => none
  | x :: l => some (l.foldl (fun b y => let v := f y; if v < b.2 then (y, v) else b) (x, f x))

/-- The 31 of the 35 upper capacitors whose combination gives the least peak nonlinearity, and that peak (R307). -/
def chooseCaps (caps : List Int) : List Nat × Int :=
  let used (out : List Nat) : List Nat := (List.range caps.length).filter fun i => !out.contains i
  match leastBy (fun out => inlPeak ((used out).map fun i => caps.getD i 0)) (fours caps.length) with
  | some (out, p) => (used out, p)
  | none => (List.range caps.length, inlPeak caps)

/-- The weight of an upper element of the force DAC lies beyond ±2 % of nominal (R308). -/
def badWeight (w : Int) : Bool := decide (20000 < w.natAbs)

/-- `n` elements in the order in which the accumulated error of each upper code in its turn is least (R308; log entry 46). -/
def orderElems (w : List Int) : Nat → Int → List Nat → List Nat
  | 0, _, _ => []
  | n + 1, acc, left =>
    match leastBy (fun l => (acc + w.getD (l.headD 0) 0).natAbs) (left.map fun i => [i]) with
    | some ([i], _) => i :: orderElems w n (acc + w.getD i 0) (left.filter (· != i))
    | _ => []

/-- The good upper elements: not marked failed before, and not now (R308). -/
def goodElems (w : List Int) (marks : List Nat) : List Nat :=
  (List.range w.length).filter fun i => !badWeight (w.getD i 0) && !marks.contains i

/-- 63 of the good elements in their order, and the peak of the accumulated error in ppm of an element (R308). -/
def chooseElems (w : List Int) (marks : List Nat) : List Nat × Int :=
  let l := orderElems w 63 0 (goodElems w marks)
  (l, peakOf (partialSums 0 (l.map fun i => w.getD i 0)))

/-! The values of a pass (R307 to R311). -/

/-- The ADC's correction points in 1/16 LSB from the histogram of the self-signal (R307): of a triangle that spans ±102 % of
full scale, `c` of 4,194,304 samples below a code put its lower edge at (204 × c / 4,194,304 − 102) % of full scale, 131,072
codes. Point `k` stands at code 1,024 × k − 131,072 (log entry 46). -/
def adcPoints (below : List Nat) : List Int :=
  below.zipIdx.map fun (c, k) => nearest (204 * (c : Int) - 64 * 131072 - 3276800 * (k : Int)) 200

/-- The deviation of an upper capacitor in ppm of it (R307): the segment that it adds, 8,192 codes, takes 4,194,304 / (32 × 1.02)
samples of the self-signal (log entry 46). -/
def capDev (hits : Nat) : Int := nearest ((hits : Int) * 3264 * 1000000 - 100 * 4194304 * 1000000) (100 * 4194304)

/-- The trims of the ADC's lower bits in 1/16 LSB (R307): each takes off what the span from code 0 to its own code has too much, of
which a sample of the self-signal makes 1.02 (log entry 46). -/
def adcTrims (hits : List Nat) : List Int := hits.zipIdx.map fun (c, j) => nearest (100 * (16 * 2 ^ j : Nat) - 102 * (c : Int)) 100

/-- The force DAC's correction points in 1/16 LSB from its histogram (R307): what a code has to be given so that the level of point
`k`, code 4,096 × k − 524,288, comes out; and its trims, 8 bits each, in 1/16 LSB (log entry 46). -/
def dacPoints (below : List Nat) : List Int :=
  below.zipIdx.map fun (c, k) => nearest (408 * (c : Int) - 16777216 - 6553600 * (k : Int)) 100
def dacTrims (hits : List Nat) : List Int :=
  hits.zipIdx.map fun (c, j) => satS 8 (nearest (408 * (c : Int) - 100 * (16 * 2 ^ j : Nat)) 100)

/-- A gain correction in 0.01 ppm that takes the reading `got` to `want`. -/
def gainFor (want got : Int) : Int := if got ≤ 0 then 0 else nearest ((want - got) * 100000000) got.toNat

/-- The deskew of an edge (R311): the mean of its lateness at the 64 positions, 0.1 ps each, in 7.8125 ps. -/
def deskewOf (late : List Int) : Int := nearest late.sum 5000

/-- The values that a pass gives, for a run that has latched `refv` µV, with the resistors and the elements of the lane that are
marked failed; of kinds LIN and the rest only those named (R307 to R311). -/
def passData (x : PassMeas) (lin : Bool) (refv : Nat) (resist marks : List Nat) : PassData :=
  let caps := if lin then chooseCaps (x.capHits.map capDev) else ([], 0)
  let elems := if lin then chooseElems x.weights marks else ([], 0)
  let gainI := (List.range x.iMeas.length).map fun r =>
    gainFor ((x.iForce.getD r 0 : Int) * 1000000000) (x.iMeas.getD r 0 * (resist.getD r 0 : Nat))
  { adcSel := caps.1, adcPeak := caps.2, adcTrims := adcTrims x.bitHits, adcPts := adcPoints x.below,
    dacSel := elems.1, dacPeak := elems.2, dacTrims := dacTrims x.dacHits, dacPts := dacPoints x.dacBelow,
    hold := x.hold, gains := x.vRef.map (gainFor (1000 * (refv : Int))) ++ gainI, offs := x.vOff ++ x.iOff, mons := x.mons,
    edges := x.edgeLate.map deskewOf }

/-- The positions of a fine delay line from code density (R331): of `n` edges placed at random within a tick each position takes
its share; the error of each position's start against 7.8125 ps × k, in 0.01 ps. -/
def lineErrs (n : Nat) (hits : List Nat) : List Int :=
  (partialSums 0 (0 :: (hits.dropLast.map Int.ofNat))).zipIdx.map fun (c, k) => nearest (500000 * c - (3125 * k * n : Nat)) (4 * n)

/-! Corrections applied (R307, R310, R311, R317). The corrections of an element hold every value times `den`. -/

/-- The correction of the code `code` of a converter with `half` codes on either side of 0, in 1/16 LSB times `den` × `half` /
128: the points lie `half` / 128 codes apart and the value between two is linear (R307). -/
def tableAt (pts : List Int) (half : Nat) (code : Int) : Int :=
  let step := half / 128
  let x := (max 0 (min (code + half) (2 * half - 1))).toNat
  let k := x / step
  let f := x % step
  pts.getD k 0 * (step - f : Nat) + pts.getD (min (k + 1) 255) 0 * f

/-- The place of a range among the gains and offsets (R315): V2, V8, V24, then I100N to I64M; VB and IB stand on V2 (R310). -/
def gainPlace (isI : Bool) (code : Nat) : Nat := if isI then (if code < 7 then 3 + code else 0) else if code < 3 then code else 0

/-- A code with the element's table, gain and offset applied; `lsb` is the number of force-DAC LSB in one of the converter's. -/
def Corr.apply (c : Corr) (pts : List Int) (half lsb place : Nat) (code : Int) : Int :=
  let step := half / 128
  let x := 16 * (c.den * step : Nat) * code + tableAt pts half code
  let g := x * (100000000 * c.den + c.data.gains.getD place 0) + 16 * (step * 100000000 * c.den : Nat) * c.data.offs.getD place 0 / lsb
  nearest g (16 * c.den * step * 100000000 * c.den)

/-- The reading of a sample code (R307, R317), held to the 18 bits of the ADC's code; a code at either end of the ADC stays
there (R47). -/
def Corr.read (c : Corr) (isI : Bool) (range : Nat) (code : Int) : Int :=
  if code ≤ -131072 ∨ 131071 ≤ code then code else satS 18 (c.apply c.data.adcPts 131072 4 (gainPlace isI range) code)

/-- What the force DAC converts for the code `code` (R307, R317), held to its 20 bits. -/
def Corr.drive (c : Corr) (isI : Bool) (range : Nat) (code : Int) : Int :=
  satS 20 (c.apply c.data.dacPts 524288 1 (gainPlace isI range) code)

/-- The 16-bit code of the hold DAC that holds the force-DAC code `code` (R306, R324): its gain in 0.01 ppm and its offset in
its LSB. -/
def Corr.holdCode (c : Corr) (code : Int) : Int :=
  satS 16 (nearest (code * (100000000 * c.den + c.data.hold.getD 1 0)) (16 * 100000000 * c.den) + nearest (c.data.hold.getD 0 0) c.den)

/-- The deskew of edge `k` of the pin stage (0 drive-on, 1 data, 2 drive-off, 3 strobe) in units of 7.8125 ps (R311). -/
def Corr.deskew (c : Corr) (k : Nat) : Int := nearest (c.data.edges.getD k 0) c.den

end Sys2Proof.Machine
end

