-- ==== Sys2Proof/Machine/LaneOps.lean ====
section
/-! DEFINITION. The shared operations of a lane: baton firings, ranges and clamps in exact units (µV, pA), gangs and the
booster, the power estimate and the governor, refusals, and the ways into DISCONNECTING and FAULTED. -/

namespace Sys2Proof.Machine

/-! Firing an event (R294, R303, R304). -/

/-- A stage goes into flight. A stage of the same place and tick is merged: one firing with the larger hop count. Of a channel
every merger counts (R302); of a producer one of software with hardware does, once (R299), and a lane port's own does not
(R290). -/
def addFlight (l : List Flight) (f : Flight) : List Flight :=
  match l with
  | [] => [f]
  | g :: l' =>
    if g.tick = f.tick ∧ g.stage = f.stage then
      let n := match f.stage with
        | .chan _ => g.merged + 1
        | .prod _ _ => max g.merged (bit (f.soft || g.soft))
        | _ => g.merged
      { g with hop := max g.hop f.hop, merged := n, fromWl := g.fromWl <|> f.fromWl, soft := g.soft || f.soft,
               firers := g.firers ++ f.firers.filter fun t => !g.firers.contains t } :: l'
    else g :: addFlight l' f

/-- An emission of tile `t` that would carry hop count 15 is not made (R304). -/
def State.loopAt (m : State) (t pos : Nat) (ch : Option Nat) : State :=
  (m.ws (.bat t) [(.batLoopPos, pos), (.batLoopCh, ch.getD 0), (.batLoopChv, bit ch.isSome)]).flag (.bat t) .batLoop

/-- Producer position `pos` of tile `t` fires on tick `e` with hop count `h`, for the acquisition units of `who` (R225, R288,
R294); a tile that is off fires nothing (R305). -/
def State.fireProd (m : State) (t pos e h : Nat) (soft : Bool := false) (who : List Nat := []) : State :=
  if !m.tileOn t then m
  else if h ≥ 15 then m.loopAt t pos none
  else { m with flight := addFlight m.flight { tick := e, stage := .prod t pos, hop := h, soft := soft, firers := who } }

/-- The lane events of R290, in the order of the bits of LANE_EVSEL (R477). -/
inductive LaneEv where
  | mark | complIn | complOut | openLoad | complLong | pulseStart | pulseEnd | pulseMeas
  | wmOut (n : Nat) | wmIn (n : Nat) | trip | fault
deriving DecidableEq, Repr

/-- The bit of an event in LANE_EVSEL. -/
def LaneEv.bit : LaneEv → Nat
  | .mark => 0 | .complIn => 1 | .complOut => 2 | .openLoad => 3 | .complLong => 4
  | .pulseStart => 5 | .pulseEnd => 6 | .pulseMeas => 7
  | .wmOut n => 8 + 2 * n | .wmIn n => 9 + 2 * n | .trip => 12 | .fault => 13

/-- A lane event occurs on tick `e`: each port that selects it fires (R288, R290); the ports of slot 9 do not while the substitute
serves a lane or is moved to one (R333). -/
def State.laneEvent (m : State) (t s : Nat) (ev : LaneEv) (e : Nat) (h : Nat := 0) : State :=
  let st := m.r (.tile t) .tileSubstState
  let mute := s == 9 && decide (1 ≤ st) && decide (st ≤ 4)
  let a := !mute && (m.r (.lane t s) .laneEvselA).testBit ev.bit
  let b := !mute && (m.r (.lane t s) .laneEvselB).testBit ev.bit
  let m := if a then m.fireProd t (2 * s) e h else m
  if b then m.fireProd t (2 * s + 1) e h else m

/-- Context event CTX_EVn of tile `t` (R288): `n` above 7 names none. -/
def State.ctxEvent (m : State) (t n e : Nat) (h : Nat := 0) : State := if n < 8 then m.fireProd t (20 + n) e h else m

/-- Trunk channel `ch` fires on tick `e` with hop count `h` (R291). -/
def State.fireChan (m : State) (ch e h : Nat) (fromWl : Option Nat := none) (who : List Nat := []) : State :=
  { m with flight := addFlight m.flight { tick := e, stage := .chan ch, hop := h, fromWl := fromWl, firers := who } }

/-- An event reaches baton consumer `c` of tile `t` on tick `e`: with one that has reached it on that tick before it makes one
activation (R302), else it acts by `f`. -/
def State.activation (m : State) (t c e : Nat) (f : State → State) : State :=
  if tabGet 0 (m.tile t).deliv c = e + 1 then (m.inc (.bat t) .batCoalesced).w (.bat t) .batCoalLast c
  else f (m.modTile t fun d => { d with deliv := tabSet d.deliv c (e + 1) })

/-! Switch states (R108, R477). -/

/-- The code of a switch state in LANE_STAT.SW_STATE. -/
def Sw.code : Sw → Nat
  | .unpowered => 0 | .disconnected => 1 | .preconnect => 2 | .connecting => 3 | .connected => 4 | .measureOnly => 5
  | .toPin => 6 | .toSmu => 7 | .pin => 8 | .disconnecting => 9 | .faulted => 10

/-- The switch state of a code. -/
def Sw.ofCode : Nat → Sw
  | 1 => .disconnected | 2 => .preconnect | 3 => .connecting | 4 => .connected | 5 => .measureOnly | 6 => .toPin
  | 7 => .toSmu | 8 => .pin | 9 => .disconnecting | 10 => .faulted | _ => .unpowered

/-- The switch state of a lane: UNPOWERED while its tile is off. -/
def State.sw (m : State) (t s : Nat) : Sw :=
  if m.tileOn t && decide (s < 10) then Sw.ofCode (m.r (.lane t s) .laneSwState) else .unpowered

/-- A lane enters a switch state on tick `e`. -/
def State.setSw (m : State) (t s : Nat) (w : Sw) (e : Nat) : State :=
  (m.w (.lane t s) .laneSwState w.code).modLane t s fun d => { d with since := e }

/-! Ranges and codes (R41 to R44). -/

/-- The full scale of a VRANGE code in µV. -/
def State.vFs (m : State) (t code : Nat) : Nat :=
  match code with
  | 0 => 2000000 | 1 => 8000000 | 2 => 24000000 | _ => 10000 * m.r (.tile t) .tileBprofVfs

/-- The full scale of an IRANGE code in pA. -/
def State.iFs (m : State) (t code : Nat) : Nat :=
  match code with
  | 0 => 100000 | 1 => 1000000 | 2 => 10000000 | 3 => 100000000 | 4 => 1000000000 | 5 => 10000000000
  | 6 => 64000000000 | _ => 100000000 * m.r (.tile t) .tileBprofIfs

/-- The lane is bound to its tile's booster port (R92). -/
def State.boosted (m : State) (t s : Nat) : Bool :=
  m.hasBoost && m.r (.tile t) .tileBoostEn == 1 && m.r (.tile t) .tileBoostSlot == s && decide (s < 9)

/-- The gang of tile `t` that names slot `s`, if any (R87). -/
def State.gangOf (m : State) (t s : Nat) : Option Nat :=
  (List.range 4).find? fun g => (m.r (.tile t) (.tileGangMembers g)).testBit s && decide (s < 9)

/-- The slot that governs `s`: its gang's leader, or itself (R89). -/
def State.leader (m : State) (t s : Nat) : Nat :=
  match m.gangOf t s with
  | some g => m.r (.tile t) (.tileGangLeader g)
  | none => s

/-- The lane is a gang member other than the leader. -/
def State.follower (m : State) (t s : Nat) : Bool := m.leader t s != s

/-- The slots that a command to `s` acts on: the members of the gang it leads, or itself alone (R90). -/
def State.unit (m : State) (t s : Nat) : List Nat :=
  match m.gangOf t s with
  | some g => if m.leader t s = s then setBits (m.r (.tile t) (.tileGangMembers g)) 9 else [s]
  | none => [s]

/-- The number of lanes that share the leader's current. -/
def State.gangN (m : State) (t s : Nat) : Nat := (m.unit t s).length

/-- The present values of a lane's fields: as stored, or as in force. -/
def State.stored (m : State) (t s : Nat) : Fld → Nat := m.r (.lane t s)
def State.inForce (m : State) (t s : Nat) : Fld → Nat := m.l (.lane t s)

/-- The slot whose place an element takes: from H0 on the other element of a transfer, slot 9, that of the lane under transfer
(R338). -/
def State.actSlot (m : State) (t s : Nat) : Nat :=
  match (m.subst t).xfer with
  | some x => if s = 9 ∧ x.started ∧ x.stage ≠ 9 then x.slot else s
  | none => s

/-- The switch state of the lane that an element forces for (R338). -/
def State.actSw (m : State) (t s : Nat) : Sw := m.sw t (m.actSlot t s)

/-- A lane follows its leader's LANE_FORCE (R89), the other element of a transfer that of its lane (R338): the fields in force that
govern it. -/
def State.gov (m : State) (t s : Nat) : Fld → Nat := m.inForce t (m.leader t (m.actSlot t s))

/-- An effective current clamp in units of pA / 64,000 (R43). -/
def State.clampHi (m : State) (t : Nat) (g : Fld → Nat) : Nat :=
  min (g .laneClampHiMag * m.iFs t (g .laneClampHiScale)) (64000 * m.iFs t (g .laneForceIrange))
def State.clampLo (m : State) (t : Nat) (g : Fld → Nat) : Nat :=
  min (g .laneClampLoMag * m.iFs t (g .laneClampLoScale)) (64000 * m.iFs t (g .laneForceIrange))

/-- The rail ceiling: the code written, or by VRANGE for AUTO (R83). -/
def railCeil (g : Fld → Nat) : Nat :=
  if g .laneRailCeil < 3 then g .laneRailCeil
  else match g .laneForceVrange with | 0 => 0 | 1 => 1 | _ => 2

/-- The reach of a rail in µV (R81). -/
def railReach : Nat → Nat
  | 0 => 3000000 | 1 => 9000000 | _ => 25500000

/-- The rail's voltage in 0.1 V (R81). -/
def railV10 : Nat → Nat
  | 0 => 55 | 1 => 110 | _ => 280

/-- The effective voltage clamp in mV, upper and lower, and whether something other than LANE_VCLAMP sets it (R44, R83); on
a booster lane the ceiling limits nothing. -/
def State.vclampEff (m : State) (t s : Nat) (g : Fld → Nat) : Int × Int × Bool :=
  let fs : Int := m.vFs t (g .laneForceVrange) / 1000
  let lim : Int := if m.boosted t s then fs else min fs (Int.ofNat (railReach (railCeil g)) / 1000 - 500)
  let hi := sext 16 (g .laneVclampHi)
  let lo := sext 16 (g .laneVclampLo)
  (min hi lim, max lo (-lim), decide (lim < hi) || decide (lo < -lim))

/-- LANE_STAT.CLAMP_LIMITED follows the clamps in force (R43, R44, R83), which a fold-back caps at 10 mA (R268). -/
def State.clampLimited (m : State) (t s : Nat) : Bool :=
  let g := m.inForce t s
  let fs := 64000 * m.iFs t (g .laneForceIrange)
  let cap (x : Nat) : Nat := if m.r (.lane t s) .laneFoldback = 1 then min x 640000000000000 else x
  decide (fs < cap (g .laneClampHiMag * m.iFs t (g .laneClampHiScale))) ||
  decide (fs < cap (g .laneClampLoMag * m.iFs t (g .laneClampLoScale))) ||
  (m.vclampEff t s g).2.2

/-! The elements and their corrections (R317, R333). -/

/-- The slot whose own element is behind lane (t, s): the substitute's for a lane that it serves, and for slot 9 that lane's
front-end. -/
def State.front (m : State) (t s : Nat) : Nat :=
  let sl := m.r (.tile t) .tileSubstSlot
  if s = 9 then (if sl < 9 ∧ m.r (.lane t sl) .laneServedBy = 1 then sl else 9)
  else if m.r (.lane t s) .laneServedBy = 1 then 9 else s

/-- The corrections in force of the element behind lane (t, s); none before its first interpolation. -/
def State.corrOf (m : State) (t s : Nat) : Option Corr := (m.lane t (m.front t s)).corr

/-- The reading of the ADC code `x` of lane (t, s) (R307, R310, R317). -/
def State.reading (m : State) (t s : Nat) (isI : Bool) (x : Int) : Int :=
  let g := m.gov t s
  match m.corrOf t s with
  | some c =>
    let range := if m.boosted t s then (if isI then 7 else 3) else g (if isI then .laneForceIrange else .laneForceVrange)
    c.read isI range x
  | none => x

/-- What the force DAC of lane (t, s) converts for the code `x` of a current or a voltage (R307, R310, R317). -/
def State.drivingAs (m : State) (t s : Nat) (isI : Bool) (x : Int) : Int :=
  let g := m.gov t s
  match m.corrOf t s with
  | some c => c.drive isI (if m.boosted t s then (if isI then 7 else 3) else g (if isI then .laneForceIrange else .laneForceVrange)) x
  | none => x

/-- What it converts for the code `x` of the forced quantity. -/
def State.driving (m : State) (t s : Nat) (x : Int) : Int := m.drivingAs t s (m.gov t s .laneForceMode == 2) x

/-- The force DAC converts anew for the level that stands, where the corrections beneath it have changed (R317, R333). -/
def State.reconv (m : State) (t s : Nat) : State :=
  m.modLane t s fun d => { d with conv := if d.hold then d.conv else m.driving t s d.dacOut }

/-! The trip clamps and the limit in force. -/

/-- Monitor `n` of a lane, and its replacement. -/
def LaneDyn.wm (d : LaneDyn) (n : Nat) : Monitor := if n = 0 then d.wm0 else d.wm1
def LaneDyn.setWm (d : LaneDyn) (n : Nat) (x : Monitor) : LaneDyn := if n = 0 then { d with wm0 := x } else { d with wm1 := x }

/-- The trip clamp of monitor `n` is released on tick `e` (R258); a pin driver that no clamp holds off any more waits for the
next vector cycle (R259). -/
def LaneDyn.unclamp (d : LaneDyn) (n e : Nat) : LaneDyn :=
  { d.setWm n { d.wm n with clamp := false } with
    drv := if d.drv.tripped && !(d.wm (1 - n)).clamp then { d.drv with release := some e } else d.drv }

/-- Slot `s` is under transfer, from its admission to its last step; stage 9 is an abort's way out (R338, R341). -/
def State.underXfer (m : State) (t s : Nat) : Bool := ((m.subst t).xfer.map (·.slot == s)).getD false

/-- From H0 until its end the other element of the lane's transfer plays what the lane plays, with its settings (R338). -/
def State.shadowed (m : State) (t s : Nat) : Bool :=
  decide (s < 9) && (m.subst t).xfer.any fun x => x.slot == s && x.started && x.stage != 9

/-- The FORCE connection of the other element of a transfer is closed: an abort opens it on its tick (R338, R341). -/
def State.otherForceOn (m : State) (t : Nat) : Bool :=
  (m.subst t).otherForce && (m.subst t).forceTo.all fun z => decide (m.pace < z)

/-- The element of lane (t, s), or of slot 9 as the other one of a transfer, is connected to the DUT. -/
def State.forcesOn (m : State) (t s : Nat) : Bool :=
  if m.actSlot t s = s then (m.lane t s).forceSw || (m.lane t s).ben else m.otherForceOn t

/-- The elements whose monitors act together: those of a gang, and the two of a transfer (R260, R340). -/
def State.kin (m : State) (t s : Nat) : List Nat :=
  let k := m.actSlot t s
  m.unit t (m.leader t k) ++ if m.shadowed t k then [9] else []

/-- A trip clamp of some member of the lane's gang, or of either element of its transfer, acts (R257, R258, R260, R340). -/
def State.tripped (m : State) (t s : Nat) : Bool :=
  (m.kin t s).any fun k => (m.lane t k).wm0.clamp || (m.lane t k).wm1.clamp

/-- The limit in force of positive or negative current in units of pA / 64,000 (R39, R43, R257, R260, R267): the effective clamp
or the coarse limiter; while a trip clamp acts the lesser of it and LANE_TRIPLIM; under a fold-back at most 10 mA. Of a gang it
is the share of one member, the leader's fields scaled by the number of members. -/
def State.curLimit (m : State) (t s : Nat) (hi : Bool) : Nat :=
  let g := m.gov t s
  let a := if g .laneForceMode = 3 then 70000000000 * 64000 else if hi then m.clampHi t g else m.clampLo t g
  let a := if m.tripped t s then min a (g .laneTriplimMag * m.iFs t (g .laneTriplimScale)) else a
  if m.r (.lane t (m.leader t (m.actSlot t s))) .laneFoldback = 1 then min a (10000000000 * 64000) else a

/-- The lane's limit exceeds 10 mA (R281): not of a booster lane, which has no fold-back (R268), and not of a lane whose loop
drives nothing. -/
def State.limitAbove (m : State) (t s : Nat) : Bool :=
  let on := match m.actSw t s with | .connected | .toPin | .toSmu | .preconnect | .connecting => true | _ => false
  on && !m.boosted t s && decide (10000000000 * 64000 < max (m.curLimit t s true) (m.curLimit t s false))

/-! The power estimate (R85, R86). -/

/-- I_lim of a forcing mode as a fraction, in pA: numerator and denominator. -/
def State.iLim (m : State) (t s : Nat) (g : Fld → Nat) : Nat × Nat :=
  if m.boosted t s then (0, 1)
  else match g .laneForceMode with
    | 1 => (max (m.clampHi t g) (m.clampLo t g), 64000)
    | 2 => (m.iFs t (g .laneForceIrange) *
             ((sext 20 (g .laneForceLevel)).natAbs + if g .lanePersSel = 1 then 8 * g .laneDdsAmpl else 0), 524288)
    | 3 => (70000000000, 1)
    | _ => (0, 1)

/-- P_Q + I_lim × V_rail in µW, rounded up, for a forcing lane. -/
def State.forceEst (m : State) (t s : Nat) (g : Fld → Nat) : Nat :=
  let (n, d) := m.iLim t s g
  350000 + ceilDiv (n * railV10 (railCeil g)) (d * 10000000)

/-- The fields with which a lane leaves TO_SMU: FV at PARK on V8 (R106). -/
def toSmuFields (g : Fld → Nat) : Fld → Nat := fun f =>
  if f = .laneForceMode then 1 else if f = .laneForceVrange then 1 else if f = .lanePersSel then 0 else g f

/-- The preconditions of R104 for SMU to PIN hold with the fields `g`: CONNECTED, FV, V8 or V24, no gang, no booster. -/
def State.pinFits (m : State) (t s : Nat) (g : Fld → Nat) : Bool :=
  m.sw t s == .connected && g .laneForceMode == 1 && (g .laneForceVrange == 1 || g .laneForceVrange == 2) &&
    (m.gangOf t s).isNone && !m.boosted t s && !(m.lane t s).dds

/-- The estimate of one lane in µW from the fields `g` and its switch state (R85): SEL = PIN counts where it leads to TO_PIN. -/
def State.estIn (m : State) (t s : Nat) (g : Fld → Nat) : Nat :=
  match m.sw t s with
  | .unpowered => 0
  | .disconnected | .faulted | .disconnecting => 50000
  | .preconnect | .connecting => m.forceEst t s g
  | .measureOnly => if g .laneForceMode = 4 then 200000 else m.forceEst t s g
  | .connected =>
    if g .laneForceMode = 4 then 200000
    else if g .lanePersSel = 2 ∧ m.pinFits t s g then 700000
    else m.forceEst t s g
  | .toPin | .pin => if g .lanePersSel = 2 then 700000 else max 700000 (m.forceEst t s (toSmuFields g))
  | .toSmu => max 700000 (m.forceEst t s (toSmuFields g))

/-- The estimate of a lane by its own state and settings: held while DISCONNECTING or in a transition, else of its present
settings; a gang member's settings are its leader's. -/
def State.ownEst (m : State) (t s : Nat) : Nat :=
  match (m.lane t s).estHold with
  | some e => e
  | none => m.estIn t s (m.stored t (m.leader t s))

/-- The substitute carries the estimate of slot `s`: from the admission of a transfer until it returns to FREE (R334). -/
def State.substFor (m : State) (t s : Nat) : Bool :=
  let st := m.r (.tile t) .tileSubstState
  decide (1 ≤ st) && decide (st ≤ 4) && m.r (.tile t) .tileSubstSlot == s && decide (s < 9)

/-- The estimate that counts for a lane (R85, R334): a rested front-end counts as DISCONNECTED, and the substitute as the lane
that it serves. -/
def State.laneEst (m : State) (t s : Nat) : Nat :=
  if m.tileOn t then
    let sl := m.r (.tile t) .tileSubstSlot
    if s = 9 then (if m.substFor t sl then m.ownEst t sl else m.ownEst t 9)
    else if m.substFor t s && m.r (.lane t s) .laneServedBy == 1 && m.r (.lane t s) .laneHoPhase == 0 then 50000
    else m.ownEst t s
  else 0

/-- The estimate of a lane or of the gang that it leads, the substitute that carries it included. -/
def State.unitEst (m : State) (t s : Nat) : Nat :=
  ((m.unit t s).map (m.laneEst t)).sum + if m.substFor t s then m.laneEst t 9 else 0

/-- The sum over a tile's ten lanes and over the module (R283). -/
def State.tileEst (m : State) (t : Nat) : Nat := ((List.range 10).map (m.laneEst t)).sum
def State.sumEst (m : State) : Nat := ((List.range 16).map m.tileEst).sum

/-- The tile is in TFOLD (R281). -/
def State.tfold (m : State) (t : Nat) : Bool := m.r (.tile t) .tileTfold == 1

/-- The limit that refuses the change from `m` to `m'` on the unit of (t, s): 3 OVER, 2 TFOLD, 0 MODULE, 1 TILE, in the order
of R286; none where the governor admits it (R283, R285). -/
def governor (m m' : State) (t s : Nat) : Option Nat :=
  if m'.unitEst t s ≤ m.unitEst t s then none
  else if m.r .pwr .pwrOverAllow = 1 then some 3
  else if m.tfold t then some 2
  else if m.cur.allowUw < m'.sumEst then some 0
  else if 20000000 < m'.tileEst t then some 1
  else none

/-- A refusal by the governor is counted and recorded, but not after a power-failure declaration (R286, R395). -/
def State.govRefused (m m' : State) (fn t s lim : Nat) : State :=
  if m.cur.pfail.isSome then m
  else
    let m1 := m.inc .pwr .pwrRefuseCnt
    { m1 with cur := { m1.cur with refuse :=
      { fn := fn, tile := t, slot := s, limit := lim, present := m.unitEst t s, requested := m'.unitEst t s,
        sum := m.sumEst, tileSum := m.tileEst t, allow := m.cur.allowUw } } }

/-- OVER_ALLOW clears when the sum falls to the allowance (R285). -/
def State.overSettle (m : State) : State :=
  if m.r .pwr .pwrOverAllow = 1 ∧ m.sumEst ≤ m.cur.allowUw then m.w .pwr .pwrOverAllow 0 else m

/-! Refusals (R55). -/

/-- The reason codes of R55. -/
inductive Why where
  | unitAbsent | locked | wrongState | rangeOverload | outOfWindow | powerBudget | gangMember
deriving DecidableEq, Repr

/-- The code of a reason. -/
def Why.code : Why → Nat
  | .unitAbsent => 1 | .locked => 2 | .wrongState => 3 | .rangeOverload => 4 | .outOfWindow => 5 | .powerBudget => 6
  | .gangMember => 7

/-- A lane refuses: REFUSED, REFUSE_CODE and the count, and nothing else (R55). -/
def State.refuse (m : State) (t s : Nat) (w : Why) : State :=
  ((m.flag (.lane t s) .laneRefused).w (.lane t s) .laneRefuseCode w.code).inc (.lane t s) .laneRefuseCnt

/-- A tile page refuses (R55). -/
def State.refuseTile (m : State) (t : Nat) (w : Why) : State :=
  ((m.flag (.tile t) .tileRefused).w (.tile t) .tileRefuseCode w.code).inc (.tile t) .tileRefuseCnt

/-- The change to `m'` takes place where the governor admits it; else the lane refuses with POWER_BUDGET, as it does for every
change that the governor would evaluate after a power-failure declaration (R86, R286, R395). -/
def State.admitTry (m m' : State) (fn t s : Nat) : State × Option Why :=
  if m.cur.pfail.isSome ∧ m.unitEst t s ≠ m'.unitEst t s then (m.refuse t s .powerBudget, some .powerBudget)
  else match governor m m' t s with
    | some lim => ((m.govRefused m' fn t s lim).refuse t s .powerBudget, some .powerBudget)
    | none => (m'.overSettle, none)

/-- The lane locks of a run or sequence are released; LANE_DAC.SRC and the rest stay with the caller. -/
def State.unlock (m : State) (t s : Nat) : State := m.modLane t s fun d => { d with owner := none, dacQ := [] }

end Sys2Proof.Machine
end

