-- ==== Sys2Proof/Machine/TripOps.lean ====
section
/-! DEFINITION. What a lane's DAC drives (R83, R89, R97, R100), the GUARD land (R66), the end of a pulse train (R70 to R73), and the
window monitors with their trip path (R250 to R260). -/

namespace Sys2Proof.Machine

/-! The DAC's output. -/

/-- A force target held to ± FS, and in FV and FVMV to ± (reach − 0.5 V) of the ceiling: the codes that the two leave, with the
fields `g` in force (R83, R97, R100). -/
def State.clipCodes (m : State) (t s : Nat) (g : Fld → Nat) (x : Int) : Int × Int :=
  let a := max (-524288) (min x 524288)
  let md := g .laneForceMode
  if (md = 1 ∨ md = 3) ∧ !m.boosted t s then
    let lim : Int := ((railReach (railCeil g) - 500000) * 524288 / m.vFs t (g .laneForceVrange) : Nat)
    (a, max (-lim) (min a lim))
  else (a, a)

/-- Before H0 + 8,400 of a transfer the other element of an FI lane forces voltage on its internal load (R338). -/
def State.tapped (m : State) (t s : Nat) : Bool :=
  m.shadowed t s && m.gov t s .laneForceMode == 2 && (m.subst t).xfer.any fun x => decide (x.stage < 2)

/-- The other element of the transfer of lane (t, s) forces the voltage of the match tap, as the lane's last sample has shown it, on
its internal load (R332, R338), the nearest code (DESIGN CHOICE, log entry 24). -/
def State.followTap (m : State) (t s : Nat) : State :=
  let x := satS 20 (nearest ((m.lane t s).outUv * 524288) (m.vFs t (m.gov t s .laneForceVrange)))
  m.modLane t 9 fun d => { d with dacOut := x, conv := m.drivingAs t 9 false x }

/-- The DAC of lane (t, s) holds the level `lv` and drives `out`; the members of the gang that it leads force their share, which
is the same code of their own range (R89), and so does the other element of a transfer, but while it forces the voltage of the
match tap (R338). While the hold DAC has taken a lane over its output stays (R324). -/
def State.putDac (m : State) (t s : Nat) (lv out : Int) : State :=
  (m.unit t s ++ if m.shadowed t s then [9] else []).foldl (fun m k => m.modLane t k fun d =>
    if d.hold || (k == 9 && m.tapped t s) then { d with dacLevel := lv }
    else { d with dacLevel := lv, dacOut := out, conv := m.driving t k out }) m

/-- The loop holds the level `lv` and is set to the target `x` under the fields `g`: it drives what both clips leave, and
REACH_CLIP sets where the ceiling clips (R83). -/
def State.driveOut (m : State) (t s : Nat) (g : Fld → Nat) (lv x : Int) : State :=
  let y := m.clipCodes t s g x
  let m := m.putDac t s lv y.2
  if y.2 ≠ y.1 then m.flag (.lane t s) .laneReachClip else m

/-- The loop is set to the level `lv`. A gang member other than the leader has no level of its own (R89). -/
def State.driveTo (m : State) (t s : Nat) (g : Fld → Nat) (lv : Int) : State :=
  if m.follower t s then m else m.driveOut t s g lv lv

/-- The lane's DAC takes its level, the DDS stimulus added and both clips made (R83, R97, R100); while a pulse top is out it stays
there. -/
def State.dacDrive (m : State) (t s : Nat) : State :=
  let p := Page.lane t s
  let d := m.lane t s
  if m.sw t s ≠ .connected ∨ m.follower t s ∨ (d.pulse.map (·.onTop)).getD false then m
  else
    let seq := d.owner == some .seq
    let amp := if seq then d.ddsAmpl else m.l p .laneDdsAmpl
    let off := if seq then d.ddsPhase * 2 ^ 32 else 0
    let x := if d.dds then d.dacLevel + ddsCode amp ((d.ddsAcc + off) % 2 ^ 48) else d.dacLevel
    let clipped := d.dds && (m.clipCodes t s (m.gov t s) x).1 != x
    let m := m.driveOut t s (m.gov t s) d.dacLevel x
    if clipped then m.flag p .laneDdsClip else m

/-- A pulse train of the lane ends on tick `e` (R70): LANE_PULSE_END fires and LANE_PULSE.CMD is finished (R447, R452). -/
def State.endTrain (m : State) (t s e : Nat) : State :=
  if (m.lane t s).pulse.isSome then
    ((m.w (.lane t s) .lanePulseCmd 0).modLane t s fun d => { d with pulse := none }).laneEvent t s .pulseEnd e
  else m

/-- A pulse top in progress of the lane's gang ends between tick `e` and the tick before it (R73, R257, R260): PULSE_CUT with its
timestamp, the base level, and the end of the train. -/
def State.pulseCut (m : State) (t s e sub : Nat) : State :=
  let ld := m.leader t s
  match (m.lane t ld).pulse with
  | some q =>
    if q.onTop then
      let m := (m.endTrain t ld e).modLane t ld fun d => { d with cutTs := m.stamp (e - 1) sub }
      (m.dacDrive t ld).flag (.lane t ld) .lanePulseCut
    else m
  | none => m

/-! The GUARD land (R66). -/

/-- What a tile's GUARD land does: high impedance, driven to 0 V, or following the sense node of a slot. -/
inductive Guard where
  | highZ | zero | follows (s : Nat)
deriving DecidableEq, Repr

/-- The GUARD land of tile `t`. A code of TILE_GUARD.SRC from 9 to 14 selects no slot and leaves it as OFF does (DESIGN CHOICE,
log entry 44). -/
def State.guardLand (m : State) (t : Nat) : Guard :=
  let s := m.r (.tile t) .tileGuardSrc
  if !m.tileOn t || decide (9 ≤ s) then .highZ
  else match m.sw t s with
    | .connected | .measureOnly => .follows s
    | _ => .zero

/-! Window monitors (R250 to R256). -/

/-- The mode in force measures no current (R253). -/
def State.noCurrent (m : State) (t s : Nat) : Bool :=
  let md := m.gov t s .laneForceMode
  md == 3 || md == 4 || m.sw t s == .pin

/-- Monitor `n` is kept in its reset state: its QSEL selects a current that the mode does not measure (R253). -/
def State.wmBlind (m : State) (t s n : Nat) : Bool := m.l (.lane t s) (.laneWmQsel n) == 1 && m.noCurrent t s

/-- The range reference of monitor `n` in µV or pA (R251): the FS of the monitored quantity's present range, the gang FS on a gang
leader, the FS of VB or IB on a booster lane, that of V8 in PIN. -/
def State.wmFs (m : State) (t s n : Nat) : Nat :=
  let g := m.gov t s
  if m.l (.lane t s) (.laneWmQsel n) = 1 then
    m.gangN t s * m.iFs t (if m.boosted t s then 7 else g .laneForceIrange)
  else if m.sw t s = .pin then 8000000
  else m.vFs t (if m.boosted t s then 3 else g .laneForceVrange)

/-- The thresholds of a monitor in force (R250): HI, LO and HYST as codes, and the range reference. -/
structure WmBand where
  hi : Int
  lo : Int
  hyst : Int
  fs : Nat
deriving DecidableEq, Repr

def State.wmBand (m : State) (t s n : Nat) : WmBand :=
  let p := Page.lane t s
  { hi := sext 12 (m.l p (.laneWmHi n)), lo := sext 12 (m.l p (.laneWmLo n)), hyst := m.l p (.laneWmHyst n), fs := m.wmFs t s n }

/-- The input `x` lies above the code `c`, which stands for c / 2,048 × FS (R251). -/
def WmBand.isOver (b : WmBand) (x c : Int) : Bool := decide (c * b.fs < 2048 * x)

/-- The input `x` lies below the code `c`. -/
def WmBand.isUnder (b : WmBand) (x c : Int) : Bool := decide (2048 * x < c * b.fs)

/-- The state that a monitor in state `w` takes with the input `x` (R252). -/
def WmBand.next (b : WmBand) (w : WmState) (x : Int) : WmState :=
  match w with
  | .inside => if b.isOver x b.hi then .above else if b.isUnder x b.lo then .below else .inside
  | .above => if b.isUnder x (b.hi - b.hyst) then (if b.isUnder x b.lo then .below else .inside) else .above
  | .below => if b.isOver x (b.lo + b.hyst) then (if b.isOver x b.hi then .above else .inside) else .below

/-- The input `x` lies in a hysteresis band (R252). -/
def WmBand.inBand (b : WmBand) (x : Int) : Bool :=
  (!b.isUnder x (b.hi - b.hyst) && !b.isOver x b.hi) || (!b.isUnder x b.lo && !b.isOver x (b.lo + b.hyst))

/-- Monitor `n` compares on tick `e`: no check runs on it (R262), its quantity is measured (R253), and it is not blanked
(R255). -/
def State.wmLive (m : State) (t s n e : Nat) : Bool :=
  let d := m.lane t s
  m.tileOn t && decide (s < 10) && decide (n < 2) && !(d.chk.any fun c => c.1 == n) && !m.wmBlind t s n &&
    !(m.l (.lane t s) (.laneWmRblank n) == 1 && d.rangeS.any fun z => decide (z ≤ e) && decide (e < z + 1600))

/-- A raw state that begins on tick `e`; of two changes between the same ticks only the second is ever sampled (R254). -/
def Monitor.move (x : Monitor) (w : WmState) (e : Nat) : Monitor :=
  { x with raw := w, since := e, hist := (if x.since = e then x.hist else (x.since, x.raw) :: x.hist).take 10 }

/-- The trip clamp of monitor `n` engages (R257); in PIN the driver turns off (R259). -/
def LaneDyn.clampOn (d : LaneDyn) (n : Nat) (pin : Bool) : LaneDyn :=
  { d.setWm n { d.wm n with clamp := true } with
    drv := if pin then { d.drv with on := false, tripped := true, release := none } else d.drv }

/-- A trip clamp has a loop or a driver to act on: not in DISCONNECTED and MEASURE_ONLY (R256), but for the substitute in a
transfer, whose raw monitor outputs act on both elements (R340). -/
def State.wmActs (m : State) (t s : Nat) : Bool :=
  (m.sw t s != .disconnected && m.sw t s != .measureOnly) || m.actSlot t s != s

/-- A trip of monitor `n`, `e` the first tick after it (R257, R258): TRIPn, the timestamp, LANE_TRIP, and what CLAMP and PEND
ask for, of the other element of a transfer on its lane's pulse too (R340). -/
def State.wmTrip (m : State) (t s n e sub : Nat) : State :=
  let p := Page.lane t s
  let m := ((m.flag p (.laneWmTrip n)).modLane t s fun d => { d with tripTs := m.stamp e }).laneEvent t s .trip e
  let m := if m.l p (.laneWmClamp n) = 1 ∧ m.wmActs t s then m.modLane t s fun d => d.clampOn n (m.sw t s == .pin) else m
  if m.l p (.laneWmPend n) = 1 then m.pulseCut t (m.actSlot t s) e sub else m

/-- The raw state of monitor `n` becomes `w` at sub-tick `sub` before tick `e` (R252, R257, R258): UNRESn clears, a change out of
INSIDE is a trip, and with LATCH = 0 a return to INSIDE releases the trip clamp. -/
def State.wmMove (m : State) (t s n : Nat) (w : WmState) (e sub : Nat) : State :=
  let d := (m.lane t s).wm n
  let m := (m.w (.lane t s) (.laneWmUnres n) 0).modLane t s fun d => d.setWm n ((d.wm n).move w e)
  if d.raw = .inside then m.wmTrip t s n e sub
  else if w = .inside ∧ d.clamp ∧ m.l (.lane t s) (.laneWmLatch n) = 0 then m.modLane t s fun d => d.unclamp n e
  else m

/-- Monitor `n`, where it compares on tick `tick`, compares the input last presented to it (R251, R252, R255). -/
def State.wmEval (m : State) (t s n tick e sub : Nat) : State :=
  let d := (m.lane t s).wm n
  match d.inp with
  | some (isI, x) =>
    let w := (m.wmBand t s n).next d.raw x
    if m.wmLive t s n tick && isI == (m.l (.lane t s) (.laneWmQsel n) == 1) && w != d.raw then m.wmMove t s n w e sub else m
  | none => m

/-- Monitor `n` enters its reset state on tick `e` (R253): INSIDE, no trip held, UNRESn set; an input beyond a threshold makes its
transition at once, with every action that it carries. -/
def State.wmReset (m : State) (t s n e : Nat) : State :=
  (((m.w (.lane t s) (.laneWmState n) 0).w (.lane t s) (.laneWmUnres n) 1).modLane t s fun d =>
    (if (d.wm n).clamp then d.unclamp n e else d).setWm n { raw := .inside, since := e, clamp := false, inp := (d.wm n).inp }).wmEval
      t s n e e 0

end Sys2Proof.Machine
end

