-- ==== Sys2Proof/Machine/SwitchOps.lean ====
section
/-! DEFINITION. What ends a lane's work and moves its switches: self-checks cut short, page resets, the ways into DISCONNECTING and
FAULTED, and the personality transitions (R99, R104 to R110, R253, R263, R385). -/

namespace Sys2Proof.Machine

/-! Self-checks cut short, and lane and page resets. -/

/-- A running self-check of the lane ends ABORTED on tick `e` (R263); one of the substitute's own has then not passed (R344). -/
def State.abortChk (m : State) (t s e : Nat) : State :=
  match (m.lane t s).chk with
  | some (n, _) =>
    let m := ((m.w (.lane t s) .laneWmchkResult 5).w (.lane t s) .laneWmchkCmd 0).flag (.lane t s) .laneWmchkDone
    let m := if s = 9 then m.modSubst t fun q => { q with checking := false, blocked := q.blocked || q.checking } else m
    (m.modLane t s fun d => { d with chk := none }).wmReset t s n e
  | none => m

/-- Page `p` takes its reset values in every copy (R458): a function whose commit was under way learns ABORTED, unless it is
the function `skip` that is reset itself. -/
def State.resetPage (m : State) (p : Page) (skip : Option Nat := none) : State :=
  let cut := (List.range 17).filter fun f =>
    m.r p (.mbxBusy f) == 1 && m.r p (.mbxOp f) == 1 && skip != some f
  let items := cut.map fun f => (f, m.r p (.mbxCmdItem f))
  items.foldl (fun m (f, i) => (m.ws p [(.mbxResult f, 4), (.mbxItem f, i)]).flag p (.mbxDone f)) (m.rstPage p)

/-- A lane page takes its reset values (R385); what mirrors the state of the substitute, of the calibration and of the
switches stays as it is (log entry 14). -/
def State.resetLanePage (m : State) (t s e : Nat) (skip : Option Nat := none) : State :=
  let p := Page.lane t s
  let keep := [Fld.laneSwState, .laneHoPhase, .laneServedBy, .laneExtrapolated, .laneCalPending].map fun f => (f, m.r p f)
  let d := m.lane t s
  let m := (m.resetPage p skip).ws p keep
  let m := m.setLane t s { owner := d.owner, since := d.since, dcPend := d.dcPend, corr := d.corr, corrNext := d.corrNext,
                           interpAt := d.interpAt, holdDac := d.holdDac,
                           hold := d.hold, holdWord := d.holdWord, apStart := 0, wm0 := { inp := d.wm0.inp },
                           wm1 := { inp := d.wm1.inp } }
  (m.wmReset t s 0 e).wmReset t s 1 e

/-! Transfers and calibration holds (R322, R324, R338 to R342), as the rest of the lane sees them. -/

/-- A range change whose sample instant is tick `e` waits until H0 + 25,200 (R340). -/
def State.xferHolds (m : State) (t s e : Nat) : Bool :=
  match (m.subst t).xfer with
  | some x => x.slot == s && x.stage != 9 && decide (x.h0 ≤ e) && decide (e < x.h0 + 25200)
  | none => false

/-- The Curator calibrates the lane in place with hold (R324). -/
def State.calHold (m : State) (t s : Nat) : Bool :=
  (m.lane t s).owner == some .curator && (((m.tile t).turn.map fun c => c.slot == s && c.path == .hold).getD false)

/-! Disconnecting (R108, R109). -/

/-- The lane reaches DISCONNECTED on tick `e` (R108): trip clamps are released (R258), a lock that waited for it is released
(R160), and a lane reset that waited for it takes place (R385). -/
def State.arrive (m : State) (t s e : Nat) : State :=
  let m := ((m.abortChk t s e).endTrain t s e).setSw t s .disconnected e
  let m := m.modLane t s fun d =>
    { d with forceSw := false, senseSw := false, pinSw := false, ben := false, dacLevel := 0, dacOut := 0, conv := 0, dacQ := [],
             estHold := none, dcPend := none, dds := false, ddsExit := false, rampStep := 0, noRamp := false,
             wm0 := { d.wm0 with clamp := false }, wm1 := { d.wm1 with clamp := false }, rangeS := none, oldElem := false,
             rngPend := none, hold := false, drv := { d.drv with on := false, powered := false, tripped := false, release := none } }
  let m := match (m.lane t s).owner with
    | some (.ended _) => m.unlock t s
    | _ => m
  (if (m.lane t s).rstPend then m.resetLanePage t s e else m).overSettle

/-- The level from which a disconnect ramp starts (R109): the level in use as the ceiling leaves it (R83), or the pulse top. -/
def State.rampTop (m : State) (t s : Nat) : Int :=
  let d := m.lane t s
  if ((m.lane t (m.leader t s)).pulse.map (·.onTop)).getD false then d.dacOut else (m.clipCodes t s (m.gov t s) d.dacLevel).2

/-- The disconnect of one lane begins on tick `e` (R108): PRECONNECT and FAULTED go to DISCONNECTED at once, a transition holds
it, and the other connected states enter DISCONNECTING, whose estimate is held (R85); the DDS stimulus and a pulse train stop, a
running self-check ends (R263), and a DISCONNECT clears LANE_FAULT.CODE (R264). A lane under transfer waits (R342). -/
def State.discOne (m : State) (t s e : Nat) (cause : DcCause) : State :=
  let est := m.ownEst t s
  let m := if cause = .host ∨ m.sw t s = .faulted then m.w (.lane t s) .laneFaultCode 0 else m
  if m.underXfer t s then m.modLane t s fun d => { d with dcPend := some cause }
  else match m.sw t s with
  | .preconnect | .faulted => m.arrive t s e
  | .toPin | .toSmu => m.modLane t s fun d => { d with dcPend := some cause }
  | .connecting | .connected =>
    let top := m.rampTop t s
    (((m.abortChk t s e).endTrain t s e).setSw t s .disconnecting e).modLane t s fun d =>
      { d with rampFrom := top, rampStep := 0, noRamp := false, estHold := some est,
               dds := false, ddsExit := false, dacOut := top, conv := m.driving t s top, hold := false, dacQ := [], rngPend := none, dcPend := none }
  | .measureOnly | .pin =>
    ((m.abortChk t s e).setSw t s .disconnecting e).modLane t s fun d =>
      { d with rampFrom := 0, rampStep := 64, noRamp := true, estHold := some est, dacQ := [],
               drv := { d.drv with on := false }, dcPend := none }
  | .disconnected => if (m.lane t s).rstPend then m.arrive t s e else m
  | .disconnecting | .unpowered => m

/-- The disconnect of a lane, or of every member of the gang it leads (R90); the leader, whose pulse top the members share, goes
last. -/
def State.discUnit (m : State) (t s e : Nat) (cause : DcCause) : State :=
  (((m.unit t s).filter (· != s)) ++ [s]).foldl (fun m k => m.discOne t k e cause) m

/-- The switches of a lane open at once without a ramp and it is FAULTED (R108, R269, R275). -/
def State.faultOpen (m : State) (t s e : Nat) : State :=
  ((m.endTrain t s e).setSw t s .faulted e).modLane t s fun d =>
    { d with forceSw := false, senseSw := false, pinSw := false, ben := false, dds := false, dacQ := [],
             dcPend := none, estHold := none, dacLevel := 0, dacOut := 0, conv := 0, rngPend := none, rangeS := none, oldElem := false,
             hold := false, drv := { d.drv with on := false } }

/-! Personality transitions (R99, R104 to R106). -/

/-- The force level of PARK in codes of the range with full scale `fs` µV (R101, R105, R106), the nearest one (DESIGN CHOICE, log
entry 44). -/
def State.parkCode (m : State) (t s fs : Nat) : Int :=
  nearest (sext 16 (m.r (.lane t s) .lanePersPark) * 500 * 524288) fs

/-- The pin driver drives PARK, but where a trip clamp holds it off (R259). -/
def State.drvPark (m : State) (t s : Nat) : State :=
  let park := sext 16 (m.r (.lane t s) .lanePersPark)
  m.modLane t s fun d =>
    let held := d.wm0.clamp || d.wm1.clamp
    { d with drv := { powered := true, on := !held, level := park, lastCode := d.drv.lastCode, tripped := held, parked := true } }

/-- The preconditions of R104 for SMU to PIN hold in what is in force. -/
def State.pinMet (m : State) (t s : Nat) : Bool := m.pinFits t s (m.inForce t s)

/-- DDS may be entered (R100, R104): CONNECTED in FV or FI. -/
def State.ddsMet (m : State) (t s : Nat) : Bool :=
  let md := m.gov t s .laneForceMode
  m.sw t s == .connected && (md == 1 || md == 2)

/-- TO_PIN begins on tick `e` (R105): the force level steps to PARK and the driver drives PARK. -/
def State.toPinStart (m : State) (t s e : Nat) : State :=
  let lv := m.parkCode t s (m.vFs t (m.l (.lane t s) .laneForceVrange))
  let m := ((m.endTrain t s e).drvPark t s).setSw t s .toPin e
  (m.modLane t s fun d => { d with toStep := 0, rngPend := none }).driveTo t s (m.gov t s) lv

/-- TO_SMU begins on tick `e` (R106): the driver drives PARK and the loop runs FV at PARK on V8. -/
def State.toSmuStart (m : State) (t s e : Nat) : State :=
  let m := ((m.drvPark t s).setSw t s .toSmu e).modLane t s fun d => { d with toStep := 0 }
  m.driveTo t s (toSmuFields (m.gov t s)) (m.parkCode t s 8000000)

/-- The DDS stimulus is removed (R99): the level alone is driven. -/
def State.ddsOff (m : State) (t s : Nat) : State :=
  (m.modLane t s fun d => { d with dds := false, ddsExit := false }).driveTo t s (m.gov t s) (m.lane t s).dacLevel

end Sys2Proof.Machine
end

