-- ==== Sys2Proof/Machine/Flags.lean ====
section
/-! DEFINITION. The flag and verdict computations of the part: result words and their flags (R47), limit verdicts (R151),
the compliance and window-monitor judgements, and queue parity (R417). -/

namespace Sys2Proof.Machine

/-- A mean that the CODE cannot hold exactly is rounded down or up; which, the spec leaves open (log entry 5). -/
def roundFree (num : Int) (den : Nat) : Int :=
  if den = 0 then 0
  else if num % den = 0 then num / den
  else num / den + Config.roundMean num den % 2

/-- A mean rounded to the nearest integer (R213); at the middle, either neighbour (log entry 5). -/
def roundNear (num : Int) (den : Nat) : Int :=
  if den = 0 then 0
  else
    let r := num % den
    if 2 * r < den then num / den else if 2 * r > den then num / den + 1 else num / den + Config.roundMean num den % 2

/-- The word with CODE `code` and the flags of an aperture (R47). -/
def packWord (code : Int) (a : SampleAcc) (isI : Bool) : Nat :=
  enc 24 (max (-8388607) (min code 8388607)) + 2 ^ 24 * bit a.ranging + 2 ^ 25 * bit a.stale + 2 ^ 26 * bit a.compl +
    2 ^ 27 * bit a.ovr + 2 ^ 28 * bit isI

/-- The word of an ANALOG frame (R213). -/
def frameWord (a : SampleAcc) (isI : Bool) : Nat := packWord (roundNear (a.sum * 64) (a.n * a.fs)) a isI

/-- The lane result word of R47 from an aperture: `isI` the quantity, `fs` the FS of its range at the last sample. -/
def resultWord (a : SampleAcc) (isI : Bool) : Nat := packWord (roundFree (a.sum * 64) (a.n * a.fs)) a isI

/-- One raw sample enters an aperture: valued on the range on which it was taken (R47). -/
def SampleAcc.add (a : SampleAcc) (raw : Int) (fs : Nat) (ranging compl stale : Bool) : SampleAcc :=
  { sum := a.sum + raw * fs, n := a.n + 1, ranging := a.ranging || ranging, compl := a.compl || compl,
    ovr := a.ovr || decide (raw ≥ 131071) || decide (raw ≤ -131072), stale := a.stale || stale, fs := fs }

/-- A sample of the other quantity of an ALT aperture: its flags, and the FS of this quantity's range in force at it (R47). -/
def SampleAcc.note (a : SampleAcc) (fs : Nat) (ranging compl stale : Bool) : SampleAcc :=
  { a with ranging := a.ranging || ranging, compl := a.compl || compl, stale := a.stale || stale, fs := fs }

/-- The quantity of a sample at tick `e` (R45, R507): QTY, the mode and whether the lane is in PIN. Where no current is measured
every sample of ALT is a voltage sample too, so that the mean holds 2N of them; and AUTO with MODE = OFF, for which R45 names no
quantity, measures the voltage (DESIGN CHOICE, log entry 44). -/
def sampleIsI (qty mode : Nat) (pin : Bool) (e : Nat) : Bool :=
  if mode = 3 || mode = 4 || pin then false
  else match qty with
    | 0 => mode == 1
    | 1 => false
    | 2 => true
    | _ => e % 100 != 0

/-- The number of ticks of an aperture of 2^avg samples per quantity (R46). -/
def apTicks (avg qty : Nat) : Nat := 2 ^ avg * 50 * (if qty = 3 then 2 else 1)

/-- The verdicts of R151. -/
inductive Verdict where
  | pass | failLo | failHi | failFlag | invalid
deriving DecidableEq, Repr

/-- The code of a verdict in a STEP packet (R154). -/
def Verdict.code : Verdict → Nat
  | .pass => 0 | .failLo => 1 | .failHi => 2 | .failFlag => 3 | .invalid => 4

/-- A verdict counts as a fail. -/
def Verdict.isFail : Verdict → Bool
  | .failLo | .failHi | .failFlag => true
  | _ => false

/-- The verdict on one result word, judged in the order of R151. -/
def judgeWord (l : Limits) (w : Nat) : Verdict :=
  if w.testBit 24 || w.testBit 25 then .invalid
  else if l.flagFail && (w.testBit 26 || w.testBit 27) then .failFlag
  else if sext 24 w < l.lo then .failLo
  else if sext 24 w > l.hi then .failHi
  else .pass

/-- The verdict on a step: none where it is not checked (R151). With WORD = 2 the first failing word names the fail. -/
def judgeStep (l : Option Limits) (cfg : StepCfg) (r0 r1 : Nat) : Option Verdict :=
  match l with
  | none => none
  | some l =>
    if !cfg.chk then none
    else if cfg.qty ≠ 3 then (if l.word = 1 then none else some (judgeWord l r0))
    else match l.word with
      | 0 => some (judgeWord l r0)
      | 1 => some (judgeWord l r1)
      | _ =>
        let a := judgeWord l r0
        let b := judgeWord l r1
        if a.isFail then some a else if b.isFail then some b
        else if a = .invalid ∧ b = .invalid then some .invalid else some .pass

/-- Even parity over 64 data bits and the parity bit (R417). -/
def parityOk (d : QData) (p : Bool) : Bool := (ones d.toNat 64 + bit p) % 2 == 0

/-- The parity bit that makes the ones even (R428). -/
def parityOf (d : Nat) : Nat := ones d 64 % 2

/-- Whether every window level of R101 holds: codes of 0.5 mV. -/
def pinLevelOk (v : Nat) : Bool := decide (-3000 ≤ sext 16 v) && decide (sext 16 v ≤ 12000)

/-- A window monitor's raw state in the next state of R252 from a code and its thresholds with hysteresis. -/
def wmOutside (w : WmState) : Bool := w != .inside

end Sys2Proof.Machine
end

