-- ==== Sys2Proof/Machine/Outcomes.lean ====
section
/-! DEFINITION. The outcomes that the Curator and the queue logic report (R32, R33): completions (R427), DONE_EV (R319,
R345), service requests (R345, R487), calibration lanes and runs (R328, R329), and the abort of a transfer (R341). -/

namespace Sys2Proof.Machine

/-! Completions of command queues. -/

/-- A completion (R427): W0 to W7. -/
def completionPacket (opcode cq tag status detail seq tick : Nat) (res : List Nat) : Packet :=
  [pw (4 + 16 * opcode + 4096 * cq + 65536 * tag), pw (status + 256 * detail)] ++
    (res ++ List.replicate (4 - res.length) 0).map pw ++ [pw (seq % 2 ^ 32), pw (tick % 2 ^ 32)]

/-- A completion goes towards result queue `rq` of its function (R423, R427); where that queue is not enabled none is written and
NO_RQ sets (R418). -/
def State.complete (m : State) (fn q rq : Nat) (p : Packet) : State :=
  if m.r (.q fn) (.rqEn rq) = 0 then m.flag (.q fn) (.cqNoRq q)
  else
    let c := m.cq fn q
    m.setCq fn q { c with blocked := c.blocked ++ [(rq, p)] }

/-! Service requests. -/

/-- DONE_EV at an outcome: trunk channel CAT_EVBASE + offset fires; offset 15 names none (R319, R345). -/
def State.doneEvent (m : State) (off : Nat) : State :=
  if off < 15 then m.fireChan (m.r .cat .catEvbase + off) (m.pace + 1) 0 else m

/-- A service request reaches its outcome, a code of R487 (R345); the Curator's own requests (R348) have no ticket. -/
def State.svcDone (m : State) (r : SvcReq) (code : Nat) : State :=
  let c := m.cur
  if 65535 < r.ticket then m
  else
    let m : State := { m with cur := { c with svcOut := tabSet c.svcOut r.ticket code,
                                              svcSt := if c.svcId = r.ticket then code else c.svcSt } }
    m.doneEvent r.doneEv

/-! Calibration lanes (R328). -/

/-- The run with identifier `id` is changed. -/
def State.modCal (m : State) (id : Nat) (f : CalRun → CalRun) : State :=
  { m with cals := m.cals.map fun c => if c.id = id then f c else c }

/-- The places of MRAM after the banks (R314): factory section, logs, and power-fail record with the Curator's state; and the entries
of 16 bytes that the calibration run log holds beside 256 of the fault log, 64 bytes each (DESIGN CHOICE, log entry 46). -/
def mramFactory : Nat := 0x0C00000
def mramLogs : Nat := 0x0E00000
def mramPfail : Nat := 0x0F00000
def mramEnd : Nat := 0x1000000
def runLogMax : Nat := (mramPfail - mramLogs - 256 * 64) / 16

/-- Lane (t, s) of a run takes its outcome, unless it has one; the run log gets an entry, and CAL_FAIL sets for DISAGREE,
TEMP_MOVED, QUALITY and ELEMENTS. -/
def State.calOutcome (m : State) (run t s code : Nat) : State :=
  match m.cals.find? fun c => c.id == run with
  | some c =>
    if c.outcomes.any fun e => e.1 == t * 10 + s then m
    else
      let m := m.modCal run fun c => { c with outcomes := tabSet c.outcomes (t * 10 + s) code }
      let m := { m with nv := { m.nv with
        calLog := ((run, t * 10 + s, code, c.monSkip.contains (t * 10 + s)) :: m.nv.calLog).take runLogMax } }
      if 1 ≤ code ∧ code ≤ 4 then m.flag (.tile t) .tileCalFail else m
  | none => m

/-- Lane (t, s) no longer waits with CAL_PENDING for run `run` (R322). -/
def State.calUnwait (m : State) (run t s : Nat) : State :=
  let m := m.modTile t fun d => { d with calWait := d.calWait.filter fun w => w.1 != run || w.2.1 != s }
  if (m.tile t).calWait.any fun w => w.2.1 == s then m
  else ({ m with locks := m.locks.filter fun q => !(q.who == .curator && q.tile == t && q.slots == [s]) } : State).w
    (.lane t s) .laneCalPending 0

/-- The lane under calibration in tile `t` leaves it: its lock is released, a hold ends at the next latch tick, a freed lane
waits for its hand-back, the substitute returns to FREE. -/
def State.calLeave (m : State) (t : Nat) : State :=
  match (m.tile t).turn with
  | some c =>
    let m := m.modTile t fun d => { d with turn := none }
    let keep := m.underXfer t c.slot
    let m := m.modLane t c.slot fun d => { d with owner := if d.owner = some .curator ∧ !keep then none else d.owner }
    if c.slot = 9 then
      if m.r (.tile t) .tileSubstState = 5 then m.w (.tile t) .tileSubstState 0 else m
    else match c.path with
      | .handed => if (m.subst t).xfer.isNone then m.modSubst t fun q => { q with calBack := true } else m
      | _ => m
  | none => m

/-- The calibration of lane (t, s) is ended early with outcome `code` (R324, R328): a hold ends at once. -/
def State.calCut (m : State) (t s code : Nat) : State :=
  match (m.tile t).turn with
  | some c =>
    if c.slot = s then ((m.calOutcome c.run t s code).calLeave t).modLane t s fun d => { d with hold := false } else m
  | none => m

/-! The abort of a transfer (R341). The reasons: 1 fault, 2 failed match, 3 power failure, 4 lane reset, 5 tile domain off, 6
SVC_REQ ABORT. -/

/-- The last transfer is recorded for TILE_HO_LOG (R335, R485). -/
def State.xferLog (m : State) (t : Nat) (x : Xfer) (outcome reason e : Nat) : State :=
  m.modSubst t fun q => { q with logSlot := x.slot, logBack := x.back, logOutcome := outcome, logReason := Config.hoReason reason % 16,
                                 logH0 := m.stamp x.h0, logEnd := m.stamp e }

/-- An abort of the transfer of tile `t` reaches its arbiter on tick `e` with a reason and the status that its request takes
(R338, R341): at or after H0 + 24,800, in MV H0 + 8,400, and after an abort that has won, it is late (R33). The other element's
FORCE connection opens 400 ticks later. -/
def State.xferAbort (m : State) (t reason status e : Nat) : State :=
  let p := Page.tile t
  match (m.subst t).xfer with
  | none => m
  | some x =>
    if x.stage ≥ 4 ∨ (x.started ∧ x.h0 + (if x.mv then 8400 else 24800) ≤ e) then m.inc p .tileHoAbortLate
    else
      let m := ((m.w p .tileSubstState 4).w (.lane t x.slot) .laneHoPhase 3).inc p .tileHoAbortCnt
      let m := (m.xferLog t x 2 reason e).modSubst t fun q =>
        { q with xfer := some { x with stage := 9, req := none }, leaveAt := e + 800, active := none, forceTo := some (e + 400) }
      let m := match x.req with
        | some r => m.svcDone r status
        | none => m
      if x.forCal && !x.back then m.calCut t x.slot 10 else m

end Sys2Proof.Machine
end

