-- ==== Sys2Proof/Machine/Descriptors.lean ====
section
/-! DEFINITION. The sweep descriptors as data (R134 to R150): their fields, and which of them are well formed. -/

namespace Sys2Proof.Machine

/-- Word `i` of a descriptor. -/
def dw (ws : List Word) (i : Nat) : Word := ws.getD i 0

/-- Every bit of `x` outside `mask` is 0. -/
def within (x mask : Word) : Bool := x &&& ~~~mask == 0

/-- Words `i` of the list are 0. -/
def zeros (ws : List Word) (is : List Nat) : Bool := is.all fun i => dw ws i == 0

/-- The fields that LIN, LIST and MEAS share (R134, R137). -/
def stepCfg (ws : List Word) (desc count : Nat) : StepCfg :=
  let w0 := dw ws 0
  let w6 := dw ws 6
  { desc := desc, tag := wbits w0 8 8, res := w0.getLsbD 4, chk := w0.getLsbD 5, mark := w0.getLsbD 6, pack := w0.getLsbD 7,
    stepTicks := wbits (dw ws 4) 0 24, settle := wbits (dw ws 5) 0 24, reps := wbits w6 0 16, avg := wbits w6 16 5,
    qty := wbits w6 21 2, strobe := w6.getLsbD 23, group := wbits w6 24 4, count := count }

/-- The ranges of those fields (R137, R138). -/
def stepCfgOk (ws : List Word) (g : StepCfg) : Bool :=
  within (dw ws 0) 0xFFFF && within (dw ws 4) 0xFFFFFF && within (dw ws 5) 0xFFFFFF && within (dw ws 6) 0xFFFFFFF &&
  dw ws 7 == 0 && g.stepTicks % 50 == 0 && decide (200 ≤ g.stepTicks) && decide (g.stepTicks ≤ 16777200) &&
  g.settle % 50 == 0 && decide (g.settle ≤ 16777200) && decide (1 ≤ g.reps) && decide (g.avg ≤ 16) &&
  decide (1 ≤ g.count) && (g.strobe || decide (g.settle + apTicks g.avg g.qty + 50 ≤ g.stepTicks * g.reps))

/-- The first and last level of a LIN (R138, R139). -/
def linLevels (ws : List Word) : Int × Int :=
  let st := sext 20 (wbits (dw ws 1) 0 20)
  (st, st + (wbits (dw ws 3) 0 20 - 1 : Nat) * sext 21 (wbits (dw ws 2) 0 21))

/-- The number of DATA descriptors of a LIST (R138). -/
def listLen (ws : List Word) : Nat := (wbits (dw ws 1) 0 16 + 6) / 7

/-- A level code in range (R42). -/
def levelOk (x : Int) : Bool := decide (-524288 ≤ x) && decide (x ≤ 524287)

/-- A descriptor is well formed (R136, R138, R139, R146 and the table of the control descriptors); `llen` and `abortOn` are
the context's. A LIST's DATA descriptors are judged with it. -/
def descOk (ws : List Word) (llen abortOn : Nat) : Bool :=
  let w0 := dw ws 0
  let w1 := dw ws 1
  match wbits w0 0 4 with
  | 0 => within w0 0xFFFF && zeros ws [1, 2, 3, 4, 5, 6, 7]
  | 1 => within w0 0xFFFF && within w1 0x0F037737 && wbits w1 16 2 != 3 && within (dw ws 2) 0xFFFFF &&
         within (dw ws 3) 0x7FFFF && within (dw ws 4) 0x7FFFF && zeros ws [6, 7]
  | 2 => within w1 0x0F0FFFFF && within (dw ws 2) 0x1FFFFF && within (dw ws 3) 0xFFFFF &&
         stepCfgOk ws (stepCfg ws 0 (wbits (dw ws 3) 0 20)) && levelOk (linLevels ws).1 && levelOk (linLevels ws).2
  | 3 => within w1 0xFFFF && zeros ws [2, 3] && stepCfgOk ws (stepCfg ws 0 (wbits w1 0 16))
  | 5 => zeros ws [1, 2] && within (dw ws 3) 0xFFFFF && stepCfgOk ws (stepCfg ws 0 (wbits (dw ws 3) 0 20))
  | 6 => within w0 0xFFFF && within w1 0xFFFFFF && within (dw ws 2) 0xFFFFFF && within (dw ws 3) 0xFFFF7313 &&
         wbits (dw ws 3) 0 2 != 3 && decide (sext 24 (wbits w1 0 24) ≤ sext 24 (wbits (dw ws 2) 0 24)) && zeros ws [4, 5, 6, 7]
  | 7 => within w0 0xFFFF && within w1 0x37 && within (dw ws 3) 1 && zeros ws [4, 5, 6, 7] && wbits w1 0 3 != abortOn
  | 8 => within w0 0xFFFF && within w1 7 && zeros ws [2, 3, 4, 5, 6, 7]
  | 9 => within w0 0xFFFF && within w1 0x33FFFF && within (dw ws 2) 0xFFFF && zeros ws [3, 4, 5, 6, 7] &&
         decide (wbits w1 0 16 < llen) && (wbits w1 16 2 != 3 || wbits (dw ws 2) 0 16 != 0)
  | 10 => within w0 0xFFFF && within w1 3 && wbits w1 0 2 != 3 && within (dw ws 2) 0xFFFFF && zeros ws [3, 4, 5, 6, 7]
  | _ => false

/-- Descriptor `i` of a context's list as fetched. -/
def Ctx.descAt (c : Ctx) (i : Nat) : Option (List Word) := (c.fetched.find? fun e => e.1 == i).map (·.2)

/-- The DATA entries of a LIST at index `i` with `n` DATA descriptors: none where one is not fetched yet, with the index of the
first that is bad; past the list's end it is the last one's (R136). -/
def Ctx.dataAt (c : Ctx) (i : Nat) : Nat → Option (List Word × Option Nat)
  | 0 => some ([], none)
  | n + 1 =>
    if i + 1 ≥ c.par.llen then some ([], some (c.par.llen - 1))
    else match c.descAt (i + 1) with
      | none => none
      | some ws =>
        if dw ws 0 ≠ 4 then some ([], some (i + 1))
        else (c.dataAt (i + 1) n).map fun (es, bad) => ((ws.drop 1).take 7 ++ es, bad)

/-- The descriptor that the engine decodes next is a step's, well formed, its DATA descriptors too. -/
def Ctx.stepNext (c : Ctx) : Bool :=
  match c.descAt c.desc with
  | some ws =>
    [2, 3, 5].contains (wbits (dw ws 0) 0 4) && descOk ws c.par.llen c.par.abortOn &&
      (wbits (dw ws 0) 0 4 != 3 || (match c.dataAt c.desc (listLen ws) with | some (_, some _) => false | _ => true))
  | none => false

end Sys2Proof.Machine
end

