-- ==== Sys2Proof/Machine/RunOps.lean ====
section
/-! DEFINITION. The shared operations on runs: reading results into packets (R151 to R155), ending a context run (R156 to
R161) and a sequence (R206 to R209), each through its completion arbiter (R32, R33). -/

namespace Sys2Proof.Machine

/-! Packets. -/

/-- The SLIPS field saturates at 255 (R154). -/
def stepPacket (id : Nat) (r : StepResult) (v : Option Verdict) : Packet :=
  let st := r.step
  let slips := min st.slips 255
  [pw (1 + 16 * id + 2 ^ 16 * st.cfg.tag + 2 ^ 24 * bit v.isSome + 2 ^ 25 * (v.map Verdict.code).getD 0 +
       2 ^ 28 * bit (decide (slips ≠ 0)) + 2 ^ 29 * bit st.refused),
   pw (st.cfg.desc + 2 ^ 24 * slips), pw st.k, st.entry, pw (st.u % 2 ^ 32), pw (st.u / 2 ^ 32), pw r.r0, pw r.r1]

/-- A PACKED packet of the result words collected (R155). -/
def packedPacket (id : Nat) (c : Ctx) : Packet :=
  [pw (2 + 16 * id + 2 ^ 16 * c.packTag + 2 ^ 24 * c.packed.length), pw (c.packDesc + 2 ^ 16 * (c.packStep % 2 ^ 16))] ++
    (c.packed ++ List.replicate (6 - c.packed.length) 0).map pw

/-- The SUMMARY packet of R156. -/
def summaryPacket (id : Nat) (c : Ctx) (endTick : Nat) : Packet :=
  [pw (3 + 16 * id + 2 ^ 16 * c.outcome + 2 ^ 24 * c.reason),
   pw (c.desc % 2 ^ 16 + 2 ^ 23 * bit c.anyFail + 2 ^ 24 * c.refuse), pw c.pass, pw c.fail,
   pw (endTick % 2 ^ 32), pw (endTick / 2 ^ 32), pw c.steps, pw (min c.slips (2 ^ 32 - 1))]

/-- The engine that serves context `id`, as a key over all tiles; 1,024 where none does. -/
def Ctx.engKey (c : Ctx) (id : Nat) : Nat := match c.engine with | some k => id / 256 * 64 + k | none => 1024

/-- A packet of context `id` awaits its write. -/
def Ctx.send (c : Ctx) (id : Nat) (p : Packet) : Ctx := { c with pkts := c.pkts ++ [(c.engKey id, p)] }

/-- The words collected for a PACKED packet are sent (R155). -/
def Ctx.flushPacked (c : Ctx) (id : Nat) : Ctx :=
  if c.packed = [] then c else { c.send id (packedPacket id c) with packed := [] }

/-- A step's result goes into packets as R154 and R155 state. -/
def Ctx.packStepResult (c : Ctx) (id : Nat) (r : StepResult) (v : Option Verdict) : Ctx :=
  let cfg := r.step.cfg
  let c := if c.packDesc ≠ cfg.desc then c.flushPacked id else c
  if cfg.pack then
    if v = none ∨ v = some .pass then
      let c := if c.packed = [] then { c with packDesc := cfg.desc, packTag := cfg.tag, packStep := r.step.k } else c
      let c := { c with packed := c.packed ++ (if cfg.qty = 3 then [r.r0, r.r1] else [r.r0]) }
      if c.packed.length ≥ 6 ∨ r.step.k + 1 = cfg.count then c.flushPacked id else c
    else
      let c := c.flushPacked id
      c.send id (stepPacket id r v)
  else if cfg.res then c.send id (stepPacket id r v)
  else c

/-- The LIMIT in force for a step (R151): the one that stood when its descriptor was decoded. -/
def Ctx.limitOf (c : Ctx) (cfg : StepCfg) : Option Limits := cfg.lim.bind fun i => c.limits[i]?

/-- The counts of a verdict (R151). -/
def Ctx.count (c : Ctx) (cfg : StepCfg) (v : Option Verdict) : Ctx :=
  match v with
  | some .pass => { c with pass := c.pass + 1 }
  | some .invalid | none => c
  | some _ =>
    { c with fail := c.fail + 1, anyFail := true, condFail := true,
             limits := c.limits.modify (cfg.lim.getD 0) fun l => { l with fails := l.fails + 1 } }

/-- The context's lane: tile and slot of its logical lane (R12). -/
def Ctx.tile (c : Ctx) : Nat := c.par.lane / 9
def Ctx.slot (c : Ctx) : Nat := c.par.lane % 9

/-- The packets of engine `key` that await their write, those of closed contexts among them. -/
def State.engHeld (m : State) (key : Nat) : Nat :=
  let of (l : List (Nat × Packet)) : Nat := (l.filter fun x => x.1 == key).length
  (m.ctxs.map fun x => of x.2.pkts).sum + (m.rqs.map fun x => of x.2.waiting).sum

/-- What a context has beyond the two packets that its engine can hold is owed (R145). -/
def State.spill (m : State) (id : Nat) : State :=
  let c := m.ctx id
  let key := c.engKey id
  let keep := c.pkts.length - (if key = 1024 then 0 else m.engHeld key - 2)
  m.setCtx id { c with pkts := c.pkts.take keep, owed := c.owed ++ c.pkts.drop keep }

/-- Engine `key` owes a packet: it stalls at its write and reads no aperture result (R145). -/
def State.engStalled (m : State) (key : Nat) : Bool :=
  m.ctxs.any (fun x => x.2.owed.any fun o => o.1 == key) || m.rqs.any (fun x => x.2.owed.any fun o => o.1 == key)

/-- The first element of key `key` and the rest. -/
def takeKey (key : Nat) : List (Nat × Packet) → Option ((Nat × Packet) × List (Nat × Packet))
  | [] => none
  | x :: l => if x.1 = key then some (x, l) else (takeKey key l).map fun (y, l') => (y, x :: l')

/-- Engine `key`, one of whose packets has been written, writes the next that it owes (R145). -/
def State.payOwed (m : State) (key : Nat) : State :=
  match m.ctxs.findSome? fun (id, c) => (takeKey key c.owed).map fun r => (id, r) with
  | some (id, x, l) => m.modCtx id fun c => { c with pkts := c.pkts ++ [x], owed := l }
  | none =>
    match m.rqs.findSome? fun (k, q) => (takeKey key q.owed).map fun r => (k, r) with
    | some (k, x, l) =>
      let q := m.rq (k / 16) (k % 16)
      m.setRq (k / 16) (k % 16) { q with waiting := q.waiting ++ [x], owed := l }
    | none => m

/-- The FIRE events that wait for a step which is only queued, or in the course of being queued, wait again for the next step or
the outcome when that step is discarded (R149). -/
def State.reclaimFires (m : State) (id : Nat) : State :=
  let c := m.ctx id
  let q := (m.lane c.tile c.slot).dacQ.filter fun q => q.k == 0 && q.rep == 0
  let g := match c.gen with | some g => if g.k = 0 ∧ g.rep = 0 then g.cfg.fires else [] | none => []
  m.setCtx id { c with fireEvs := q.flatMap (fun q => q.cfg.fires) ++ g ++ c.fireEvs,
                       gen := c.gen.map fun g => { g with cfg := { g.cfg with fires := [] } } }

/-- END_SWEEP on the lane (R153): the unplayed entries of the descriptor are discarded; the last step that has played keeps its
aperture and its dwell, of which `left` repetitions were unplayed (R140, R143), and is the descriptor's last (R155; log entry
42). -/
def LaneDyn.sweepEnd (d : LaneDyn) (cfg : StepCfg) (left : Nat) : LaneDyn :=
  let cut (st : ActiveStep) : ActiveStep :=
    if st.cfg.sn = cfg.sn then { st with cfg := { st.cfg with count := st.k + 1 } } else st
  let ap := (d.step.map (·.apEnd)).getD 0
  { d with dacQ := d.dacQ.filter (fun q => q.cfg.sn != cfg.sn), step := d.step.map cut,
           latch := if d.step.isSome then d.latch
                    else d.latch.dropLast ++ (d.latch.getLast?.map fun r => { r with step := cut r.step }).toList,
           dwellEnd := if cfg.strobe then max d.dwellEnd ap else d.dwellEnd + left * cfg.stepTicks }

/-- A step's entry of context `id` is queued, being queued, or of the descriptor that the engine decodes next, which is not bad;
after a LIMIT's STOP none is due. -/
def State.entryDue (m : State) (id : Nat) : Bool :=
  let c := m.ctx id
  !(m.lane c.tile c.slot).dacQ.isEmpty || c.gen.isSome ||
    (c.badDesc.isNone && c.final.isNone && !c.limitStop && c.stepNext)

/-- The DAC sample periods or strobes that an entry has lost are slips of the run also where the entry is discarded (R144,
R156). -/
def State.noteSlips (m : State) (id : Nat) : State :=
  let c := m.ctx id
  let n := if m.entryDue id then (m.lane c.tile c.slot).slipNow else 0
  (m.setCtx id { c with slips := c.slips + n }).modLane c.tile c.slot fun d => { d with slipNow := 0 }

/-- The step grid of the context has begun: its anchor, or with STROBE = 1 the first strobe that plays, has passed (R141). -/
def State.gridRuns (m : State) (id : Nat) : Bool :=
  let c := m.ctx id
  c.gridOpen && (c.gridBegun || (!c.gridStrobe && decide ((m.lane c.tile c.slot).qFrom ≤ m.pace)))

/-- The action of a LIMIT at its FAIL_N-th fail (R153); the discards take their place before the next DAC sample. END_SWEEP discards
the failing step's own descriptor, also where a later one plays already (DESIGN CHOICE, log entry 42). The slips of an entry that
it discards count for the run (R144, R156). -/
def State.limitAction (m : State) (id : Nat) (cfg : StepCfg) : State :=
  let c := m.ctx id
  match c.limitOf cfg with
  | some l =>
    if l.fails = max l.failN 1 then
      match l.action with
      | 1 =>
        let mine := (c.gen.map (·.cfg.sn)) = some cfg.sn
        let gone := (m.lane c.tile c.slot).dacQ.filter fun q => q.cfg.sn == cfg.sn
        let left := (gone.takeWhile fun q => q.rep != 0).length +
          (match c.gen with
           | some g => if g.cfg.sn = cfg.sn ∧ g.rep ≠ 0 ∧ gone.all (fun q => q.rep != 0) then g.cfg.reps - g.rep else 0
           | none => 0)
        let head := match (m.lane c.tile c.slot).dacQ with
          | q :: _ => q.cfg.sn == cfg.sn
          | [] => mine
        let m := (if head then m.noteSlips id else m).modCtx id fun c =>
          { c with gen := if mine then none else c.gen, desc := if mine then c.desc + c.genLen else c.desc }
        m.modLane c.tile c.slot fun d => d.sweepEnd cfg left
      | 2 =>
        let m := ((m.noteSlips id).reclaimFires id).modCtx id fun c => { c with gen := none, limitStop := true }
        m.modLane c.tile c.slot fun d => { d with dacQ := [] }
      | 3 =>
        if c.st = .armed ∨ !m.gridRuns id then m.ctxEvent c.tile l.ev (m.pace + 1)
        else m.setCtx id { c with nowEvs := c.nowEvs ++ [l.ev] }
      | _ => m
    else m
  | none => m

/-- The engine of context `id` reads the oldest result of its lane's aperture result latch (R144, R151 to R155). -/
def State.readResult (m : State) (id : Nat) : State :=
  let c := m.ctx id
  let d := m.lane c.tile c.slot
  match d.latch with
  | [] => m
  | r :: rest =>
    let v := judgeStep (c.limitOf r.step.cfg) r.step.cfg r.r0 r.r1
    let m := m.setLane c.tile c.slot { d with latch := rest }
    let m := m.setCtx id ((c.count r.step.cfg v).packStepResult id r v)
    if (v.map Verdict.isFail).getD false then m.limitAction id r.step.cfg else m

/-- Every result that the latch holds is read (R160: results of apertures that ended before T_a are delivered). -/
def State.readAll (m : State) (id : Nat) : Nat → State
  | 0 => m
  | n + 1 => (m.readResult id).readAll id n

/-! Engines. -/

/-- All 64 engines of a draining tile are OFFLINE, from the present tick on (R350). -/
def State.noteOffline (m : State) (t : Nat) : State :=
  let d := m.tile t
  if d.draining && d.offAt.isNone && (List.range 64).all fun k => m.r (.eng t k) .engState == 3 then
    m.setTile t { d with offAt := some m.pace }
  else m

/-- Engine `k` of tile `t` is released (R129): IDLE, or OFFLINE while its tile drains (R113, R350). -/
def State.freeEngine (m : State) (t : Nat) (k : Option Nat) : State :=
  match k with
  | some k => (m.ws (.eng t k) [(.engState, if (m.tile t).draining then 3 else 0), (.engCtx, 0)]).noteOffline t
  | none => m

/-- Engine `k` executes at most `most` operations, how many is free (R113, R115; log entry 34). -/
def State.engOp (m : State) (t : Nat) (k : Option Nat) (most : Nat) : State :=
  match k with
  | some k =>
    let n := Config.opCount m.freeCtr % (most + 1)
    { m.drawn with engOps := tabSet m.engOps (t * 64 + k) ((tabGet 0 m.engOps (t * 64 + k) + n) % 2 ^ 48) }
  | none => m

/-! Ending a context run. -/

/-- LANE_DAC.SRC, DIV and GROUP return to their values at the grant (R132); in DDS the DIV is unchanged (R142). -/
def State.restoreDac (m : State) (c : Ctx) : State :=
  let p := Page.lane c.tile c.slot
  let m := m.hwLive p [(.laneDacSrc, c.savedSrc), (.laneDacGroup, c.savedGroup)]
  if (m.lane c.tile c.slot).dds then m else m.hwLive p [(.laneDacDiv, c.savedDiv)]

/-- The lane of a run stops on tick `e`: unplayed entries are discarded, an aperture in progress is dropped, a pulse train of the
run ends (R72, R160). -/
def State.stopLane (m : State) (t s e : Nat) : State :=
  let conn := m.sw t s == .connected
  (m.endTrain t s e).modLane t s fun d => { d with dacQ := [], step := none, slipNow := 0, rngPend := none, qGate := true, qFrom := 0,
                                                   estHold := if conn then none else d.estHold }

/-- A step's aperture that has ended by tick `e` gives its result, which goes into the lane's latch for the engine (R144). -/
def State.closeStep (m : State) (t s e : Nat) : State :=
  let d := m.lane t s
  match d.step with
  | some st =>
    if st.apEnd ≤ e then
      let r := if st.cfg.qty = 3 then (resultWord st.v false, resultWord st.i true)
               else if st.i.n ≠ 0 then (resultWord st.i true, 0) else (resultWord st.v false, 0)
      let m := m.setLane t s { d with step := none, latch := d.latch ++ [{ step := st, r0 := r.1, r1 := r.2 }] }
      match d.owner with
      | some (.ctx id) => m.modCtx id fun c => { c with lastAp := st.apEnd }
      | _ => m
    else m
  | none => m

/-- The tick up to which the lane's samples have been taken. -/
def LaneDyn.sampledTo (d : LaneDyn) : Nat := match d.adcLast with | some l => l + 50 | none => 0

/-- A step's aperture that has ended before an abort on tick `e` gives its result (R160). -/
def State.closeEnded (m : State) (t s e : Nat) : State := m.closeStep t s (min e (m.lane t s).sampledTo)

/-- The lock of owner `o` in tile `t` goes to nobody on each member, and a request of it that waits is withdrawn (R24). -/
def State.unlockAll (m : State) (t : Nat) (ss : List Nat) (o : Owner) : State :=
  let m := ss.foldl (fun m s => if (m.lane t s).owner = some o then m.unlock t s else m) m
  { m with locks := m.locks.filter fun q => !(q.who == o && q.tile == t) }

/-- The states in which a run can be aborted: LOCK_WAIT to PARKED (R125, R126). -/
def CtxSt.live : CtxSt → Bool
  | .lockWait | .ready | .running | .armed | .parked => true
  | _ => false

/-- The run of context `id` reaches DONE with its SUMMARY packet (R125, R156), its pending FIRE events (R149) and its engine
released; what its engine cannot hold of its packets it owes (R145). A LIMIT's FIRE for which no update tick has come fires on the
tick of the outcome (DESIGN CHOICE, log entry 42). -/
def State.finishRun (m : State) (id outcome reason refuse endTick : Nat) : State :=
  let c := m.ctx id
  let m := (c.fireEvs ++ c.nowEvs).foldl (fun m e => m.ctxEvent c.tile e endTick) m
  let m := m.freeEngine c.tile c.engine
  let c := (m.ctx id).flushPacked id
  let c := { c with st := .done, outcome := outcome, reason := reason, refuse := refuse, gen := none,
                    gridOpen := false, waitI := none, fireEvs := [], nowEvs := [], final := none, limitStop := false, badDesc := none,
                    connWait := false, closing := false, goStart := 15, fetched := [] }
  ((m.setCtx id (c.send id (summaryPacket id c endTick))).spill id).modCtx id fun c => { c with engine := none }

/-- The lock of an aborted run with ABORT_ACT = DISCONNECT goes on each member that is DISCONNECTED, and waits for it on the
others (R160). -/
def State.lockEnds (m : State) (t id : Nat) : State :=
  (List.range 9).foldl (fun m s =>
    let d := m.lane t s
    if d.owner = some (.ctx id) ∧ (m.sw t s = .disconnecting ∨ d.dcPend.isSome) then m.modLane t s fun d => { d with owner := some (.ended id) }
    else m) m

/-- The last action of a run has ended by tick `e`, and when (R158): the aperture of the last step for HOLD, whose repetition
entries need not have played, and for LIMIT_STOP; the final level's update; the lane's arrival in DISCONNECTED. A run that ends with
HOLD and has played no step ends on the tick after the present one (DESIGN CHOICE, log entry 42). -/
def State.runEnd (m : State) (id e : Nat) : Option Nat :=
  let c := m.ctx id
  let d := m.lane c.tile c.slot
  let apDone := match d.step with | some st => decide (st.apEnd ≤ e) | none => true
  let last := match d.step with | some st => st.apEnd | none => c.lastAp
  let z := if last = 0 then m.pace + 1 else last
  if c.st ≠ .running ∧ !(c.limitStop && c.st == .armed) then none
  else if c.limitStop then (if apDone && d.dacQ.isEmpty then some z else none)
  else match c.final with
    | some (0, _) => if apDone && c.gen.isNone && d.dacQ.all (fun q => q.rep != 0) then some z else none
    | some (2, y) =>
      if (m.unit c.tile c.slot).all fun k => m.sw c.tile k == .disconnected then some (max d.since y.toNat) else none
    | some _ => if d.dacQ.isEmpty && d.step.isNone then some c.lastAp else none
    | none => none

/-- The run of context `id` is COMPLETED with end tick `z` (R132, R158): every result is read, LANE_DAC is restored and the lock
goes. -/
def State.completeRun (m : State) (id z : Nat) : State :=
  let c := m.ctx id
  let m := m.closeStep c.tile c.slot z
  let m := ((m.readAll id (m.lane c.tile c.slot).latch.length).noteSlips id).stopLane c.tile c.slot z
  ((m.restoreDac c).unlockAll c.tile (List.range 9) (.ctx id)).finishRun id 1 (bit (m.ctx id).limitStop) 0 z

/-- A late abort of context `id` counts in CTX_HDR.ABORT_LATE (R33, R159). -/
def State.abortLate (m : State) (id : Nat) : State :=
  let c := m.ctx id
  let m := m.inc (.ctxHdr c.tile) (.ctxAbortLate 0)
  if c.fn = 0 then m else m.inc (.ctxHdr c.tile) (.ctxAbortLate c.fn)

/-- An abort of context `id` reaches the arbiter on tick `e` (R159, R160): reason and refuse code of R157, `h` the hop count
of ABORT_EV. An abort of a run whose last action has ended before, or whose outcome is decided, is late (R33). -/
def State.abortRun (m : State) (id reason refuse e : Nat) (h : Nat := 0) : State :=
  let c := m.ctx id
  let ended := (m.runEnd id (min (e - 1) (m.lane c.tile c.slot).sampledTo)).filter fun z => decide (z < e)
  if !c.st.live then m.abortLate id
  else if ended.isSome then (m.completeRun id (ended.getD 0)).abortLate id
  else
    let held := c.st != .lockWait
    let m := if held then m.closeEnded c.tile c.slot e else m
    let m := if held then
        (((m.readAll id (m.lane c.tile c.slot).latch.length).noteSlips id).reclaimFires id).stopLane c.tile c.slot e else m
    let m := if held then m.restoreDac c else m
    let m := m.ctxEvent c.tile c.par.abortEv e h
    let act := held && reason != 4 && reason != 5 && reason != 10
    let m :=
      if act && c.par.abortDis then (m.discUnit c.tile c.slot e .run).lockEnds c.tile id else m
    (m.unlockAll c.tile (List.range 9) (.ctx id)).finishRun id 2 reason refuse e

/-! The pin driver in a vector cycle (R191 to R195, R259). -/

/-- Timing set `n` as registers: PER, DON, DAT, DOFF, STRB. -/
def State.tset (m : State) (t n : Nat) : Nat × Nat × Nat × Nat × Nat :=
  let p := Page.seq t
  (m.r p (.seqTsPer n), m.r p (.seqTsDon n), m.r p (.seqTsDat n), m.r p (.seqTsDoff n), m.r p (.seqTsStrb n))

/-- A driver's transitions in one cycle that starts at `c` (units of 7.8125 ps), each with the driver's state after it (R194):
`code` the state code, `hi` and `lo` the drive levels. While a trip holds the driver off there is none (R259). -/
def drvCycle (v : PinDrv) (code : Nat) (hi lo : Int) (c don dat doff : Nat) : List (Nat × Bool × Int) :=
  if v.tripped then []
  else match code with
    | 0 | 1 =>
      let lv := if code = 1 then hi else lo
      (if v.on then [] else [(c + don, true, v.level)]) ++ (if v.level = lv then [] else [(c + dat, true, lv)])
    | 5 => []
    | _ => if v.on then [(c + doff, false, v.level)] else []

/-- How many of the transitions `xs`, after one at `prev`, fall less than 96 units after the one before them (R195), and those
that are applied: of two such the earlier one is not. -/
def mergers (prev : Option Nat) : List (Nat × Bool × Int) → Nat × List (Nat × Bool × Int)
  | [] => (0, [])
  | x :: xs =>
    let r := mergers (some x.1) xs
    let skip := match xs with | y :: _ => decide (y.1 < x.1 + 96) | [] => false
    (r.1 + (match prev with | some p => bit (decide (x.1 < p + 96)) | none => 0), if skip then r.2 else x :: r.2)

/-- The driver after the vector cycle in which it acts on `code` (R194, R259): a driver that a trip holds off follows the drive
level only. -/
def PinDrv.cycle (v : PinDrv) (code : Nat) (hi lo : Int) (xs all : List (Nat × Bool × Int)) : PinDrv :=
  let (on, lv) := match xs.getLast? with
    | some x => x.2
    | none => (v.on, if v.tripped && code == 1 then hi else if v.tripped && code == 0 then lo else v.level)
  { v with on := on, level := lv, lastCode := code, parked := false, base := (v.on, v.level), edges := xs,
           lastEdge := (all.getLast?.map (·.1)) <|> v.lastEdge }

/-- No transition at or after `cut` (units of 7.8125 ps) takes place (R208). -/
def PinDrv.until (v : PinDrv) (cut : Nat) : PinDrv :=
  let before := v.edges.filter fun x => decide (x.1 < cut)
  if before.length = v.edges.length then v
  else
    let (on, lv) := (before.getLast?.map (·.2)).getD v.base
    { v with on := on && !v.tripped, level := lv, edges := before }

/-- The code that slot `s` acts on in vector word `w`: KEEP repeats the last one (R194). -/
def PinDrv.code (v : PinDrv) (s w : Nat) : Nat := if bits w (3 * s) 3 = 7 then v.lastCode else bits w (3 * s) 3

/-- Where the pin stage fires the transitions that take place, the deskew of each edge applied beneath (R311): `all` are the
programmed ones of the cycle. -/
def State.firedAt (m : State) (t s : Nat) (kept : List (Nat × Bool × Int)) (v : PinDrv) (code : Nat) : List Int :=
  let dk (k : Nat) : Int := ((m.corrOf t s).map fun c => c.deskew k).getD 0
  kept.zipIdx.map fun (x, i) =>
    (x.1 : Int) - dk (if 1 < code then 2 else if i = 0 ∧ !v.on ∧ x.2.2 = v.level then 0 else 1)

/-- The pin driver of lane (t, s) goes through the cycle of vector word `w` that starts at tick `c`: the driver and how many of
its transitions are mergers. A trip that was released before it ends with it (R259). -/
def State.drvVector (m : State) (t s w c : Nat) : PinDrv × Nat :=
  let p := Page.lane t s
  let (_, don, dat, doff, _) := m.tset t (bits w 27 5)
  let d := (m.lane t s).drv
  let v := if d.release.any fun z => decide (z ≤ c) then { d with tripped := false, release := none } else d
  let code := d.code s w
  let hi := sext 16 (m.l p .lanePinDrvHi)
  let lo := sext 16 (m.l p .lanePinDrvLo)
  let all := drvCycle v code hi lo (c * 160) don dat doff
  let r := mergers d.lastEdge all
  ({ v.cycle code hi lo r.2 all with fired := m.firedAt t s r.2 v code }, r.1)

/-- The sequencer's vectors stop on tick `e` (R208): in the cycle under way the edges before `e` have taken place, those at or
after it do not. -/
def State.pinCut (m : State) (t e : Nat) : State :=
  let q := m.seq t
  if m.r (.seq t) .seqState ≠ 4 ∨ !q.started ∨ q.lastSrc ≠ 1 then m
  else
    (setBits (m.r (.seq t) .seqLanes) 9).foldl (fun m s =>
      if m.sw t s ≠ .pin then m
      else
        let under := !q.holding && q.gapEnd.isNone && decide (q.vec < 64) && decide (q.cTick < e)
        let v := if under then (m.drvVector t s (q.cur.getD q.vec 0) q.cTick).1 else (m.lane t s).drv
        m.modLane t s fun d => { d with drv := v.until (e * 160) }) m

/-! Ending a sequence (R206 to R209). -/

/-- The target lanes of a tile's sequencer (R163). -/
def State.seqLanes (m : State) (t : Nat) : List Nat := setBits (m.r (.seq t) .seqLanes) 9

/-- The sequencer's lanes at DONE: SRC and DIV are restored (R167), DDS stimulus is removed where `undds` (R208), locks are
released (R165). -/
def State.seqRelease (m : State) (t : Nat) (undds : Bool) : State :=
  let q := m.seq t
  let m := q.saved.foldl (fun m (s, src, div) =>
    let p := Page.lane t s
    let m := if undds && (m.lane t s).dds then
        (m.hwLive p [(.lanePersSel, 0)]).ddsOff t s
      else m
    let m := match m.sw t s with
      | .toPin | .toSmu | .disconnecting => m
      | _ => m.modLane t s fun d => { d with estHold := none }
    m.hwLive p [(.laneDacSrc, src), (.laneDacDiv, div)]) m
  m.unlockAll t (m.seqLanes t) .seq

/-- A sequence is DONE (R168, R206, R208): OUTCOME, REASON, the end timestamp, DONE and the SEQ_DONE producer. -/
def State.seqFinish (m : State) (t outcome reason refuse e : Nat) (h : Nat := 0) : State :=
  let m := m.seqRelease t (outcome == 2)
  let p := Page.seq t
  let m := m.ws p [(.seqState, 5), (.seqOutcome, outcome), (.seqReason, reason), (.seqRefuseCode, refuse)]
  let m := m.modSeq t fun q =>
    { saved := [], slipTotal := q.slipTotal, firstFail := q.firstFail, jumpTs := q.jumpTs, endTs := m.stamp e }
  (m.flag p .seqDone).fireProd t 33 e h

/-- The sequencer's state lies between LOCK_WAIT and RUNNING. -/
def State.seqLive (m : State) (t : Nat) : Bool :=
  let st := m.r (.seq t) .seqState
  decide (1 ≤ st) && decide (st ≤ 4)

/-- An abort of the sequence of tile `t` reaches the arbiter on tick `e` (R207): in DONE it is late, in IDLE it has no
effect. -/
def State.abortSeq (m : State) (t reason refuse e : Nat) (h : Nat := 0) : State :=
  if m.seqLive t then (m.pinCut t e).seqFinish t 2 reason refuse e h
  else if m.r (.seq t) .seqState = 5 then m.inc (.seq t) .seqAbortLate
  else m

/-! What a lane's own disconnect or fault does to its owner's operation (R57, R266). -/

/-- The operation of the owner of lane (t, s) ends: the run with reason `rc`, the sequence with reason `rs`, a calibration
with outcome ABORTED (R324); a run that an abort has ended before counts the late one (R33). -/
def State.abortOwner (m : State) (t s rc rs e : Nat) : State :=
  match (m.lane t s).owner with
  | some (.ctx id) => m.abortRun id rc 0 e
  | some .seq => m.abortSeq t rs 0 e
  | some .curator => m.calCut t s 10
  | some (.ended id) => m.abortLate id
  | none => m

/-- The Curator holds the lock of some lane of the unit (R57). -/
def State.curatorHolds (m : State) (t s : Nat) : Bool :=
  (m.unit t s).any fun k => (m.lane t k).owner == some .curator

/-- A DISCONNECT, MODE = OFF or LANE_RST from the host on tick `e`, or a supervisor's DISCONNECT (R57, R63, R90, R385): the owner's
operation is aborted and the lane disconnects; while the Curator holds the lock, or the lane is under transfer (R342), it waits.
-/
def State.hostDisc (m : State) (t s e : Nat) (cause : DcCause) : State :=
  if m.curatorHolds t s || m.underXfer t s then
    (m.unit t s).foldl (fun m k => m.modLane t k fun d => { d with dcPend := some cause }) m
  else (m.abortOwner t s 4 5 e).discUnit t s e cause

/-- A disconnect of lane (t, s), and of its gang, that was held is acted on at tick `e`, when the transition, the Curator's lock or
the transfer that held it has ended (R57, R90, R108, R342). A transition holds it after its owner's operation has been aborted, so
only an operation that still runs is aborted here. -/
def State.actPend (m : State) (t s e : Nat) : State :=
  let ld := m.leader t s
  match (m.lane t s).dcPend with
  | none => m
  | some c =>
    if m.curatorHolds t ld then m
    else
      let m := (m.unit t ld).foldl (fun m k => m.modLane t k fun d => { d with dcPend := none }) m
      let m := match c, (m.lane t s).owner with
        | .host, some (.ctx _) | .host, some .seq | .laneReset, some (.ctx _) | .laneReset, some .seq
        | .act, some (.ctx _) | .act, some .seq => m.abortOwner t s 4 5 e
        | _, _ => m
      m.discUnit t ld e c

/-- A fault of lane (t, s) with its code and value is reported on tick `e` (R264, R265). -/
def State.reportFault (m : State) (t s code : Nat) (value : Int) (e : Nat) : State :=
  let p := Page.lane t s
  let m := (((m.w p .laneFaultCode code).flag p .laneFault).inc p .laneFaultCnt).laneEvent t s .fault e
  (m.logFault t s code value).alert ((m.r .dev .devAlertEnFault).testBit (code - 1) && decide (0 < code))

/-- A fault declared on either element of a transfer aborts it (R341); one on the substitute, by its own page or by that of the
lane that it serves, blocks its handovers (R344). -/
def State.xferFault (m : State) (t s e : Nat) : State :=
  let m := if m.front t s = 9 then m.modSubst t fun q => { q with blocked := true } else m
  if m.underXfer t s || s == 9 then m.xferAbort t 1 2 e else m

/-- A fault detected on lane `s` is reported for its gang: `s` its own code and value, every other member GANG (R264, R277). -/
def State.reportUnit (m : State) (t s code : Nat) (value : Int) (e : Nat) : State :=
  (m.unit t (m.leader t s)).foldl (fun m k =>
    if k = s then m.reportFault t k code value e
    else (m.reportFault t k 8 (Config.faultValue m.freeCtr) e).drawn) m

/-- LANE_SUPV.ACT is applied (R63): ZERO writes LEVEL = 0, DISCONNECT disconnects the gang or lane; as a fault action the
disconnect ends the owner's operation with FAULT (R266), else it is a DISCONNECT command's. The code 3, which the table does not
list, acts as REPORT (DESIGN CHOICE, log entry 44). -/
def State.applyAct (m : State) (t s e : Nat) (fault : Bool) : State :=
  match m.l (.lane t s) .laneSupvAct with
  | 1 => m.hwLive (.lane t s) [(.laneForceLevel, 0)]
  | 2 =>
    if fault then
      let m := m.abortOwner t s 5 4 e
      if m.underXfer t s then m.modLane t s fun d => { d with dcPend := some .fault } else m.discUnit t s e .fault
    else m.hostDisc t s e .act
  | _ => m

/-- The response to a fault of lane (t, s) on tick `e`, and its report (R264, R266 to R268, R272 to R277, R281): SHORT and
THERMAL fold the lane back, the open checks apply LANE_SUPV.ACT, and the others open every lane of the unit, which is FAULTED
and whose owner's operation ends with FAULT. A calibration hold of the unit ends at once (R324). -/
def State.respond (m : State) (t s code : Nat) (value : Int) (e : Nat) : State :=
  let p := Page.lane t s
  let held := (m.unit t (m.leader t s)).filter (m.calHold t)
  let m := held.foldl (fun m k => (m.calCut t k 10).actPend t k e) m
  match code with
  | 1 =>
    ((m.w p .laneFoldback 1).modLane t s fun d =>
      { d with foldShort := true, shortSince := none, exitSince := none, foldClr := false }).reportUnit t s 1 value e
  | 3 | 4 => (m.reportUnit t s code value e).applyAct t s e true
  | 7 => ((m.w p .laneFoldback 1).modLane t s fun d => { d with foldThermal := true }).reportFault t s 7 value e
  | _ =>
    let ld := m.leader t s
    let m := m.abortOwner t ld 5 4 e
    ((m.unit t ld).foldl (fun m k => m.faultOpen t k e) m).reportUnit t s code value e

/-- A fault is declared on tick `e`: a transfer aborts, and the response acts on the element that keeps the lane once the abort
is over (R341); without a transfer, or after its decision, it acts at once. -/
def State.declare (m : State) (t s code : Nat) (value : Int) (e : Nat) : State :=
  let m := m.xferFault t s e
  match (m.subst t).xfer with
  | some x =>
    if x.stage = 9 ∧ (s = x.slot ∨ s = 9) then
      m.modSubst t fun q => { q with faults := q.faults.filter (fun f => f.2.1 != code) ++ [(x.slot, code, value)] }
    else m.respond t s code value e
  | none => m.respond t s code value e

/-- In TFOLD those of the slots `ss` whose limit exceeds 10 mA are folded back on tick `e`, each with code THERMAL and the reading
`x` (R264, R281). -/
def State.tfoldLanes (m : State) (t : Nat) (ss : List Nat) (e : Nat) (x : Int) : State :=
  (ss.filter (m.limitAbove t)).foldl (fun m s => m.declare t s 7 x e) m

/-- A lane, with its gang, whose limit comes to exceed 10 mA while its tile is in TFOLD is folded back too (R281). -/
def State.tfoldSettle (m : State) (t s e : Nat) : State :=
  if m.tfold t then m.tfoldLanes t (m.unit t (m.leader t s)) e (m.tile t).temp else m

/-- TO_SMU begins on tick `e` (R106), under TFOLD within its limit (R281). -/
def State.toSmuGo (m : State) (t s e : Nat) : State := (m.toSmuStart t s e).tfoldSettle t s e

end Sys2Proof.Machine
end

