-- ==== Sys2Proof/Machine/RegOps.lean ====
section
/-! DEFINITION. Register accesses by class (R439 to R452): what a host write does to each field of a register, and what a
host read returns. -/

namespace Sys2Proof.Machine

/-- The fields of the register at offset `off` of page `p`, in the copies of agent `fn`. -/
def fieldsAt (p : Page) (fn off : Nat) : List Fld := (p.fields fn).filter fun f => f.off == off

/-- The value that a register word gives to a field. -/
def Fld.of (f : Fld) (w : Word) : Nat := wbits w f.lo f.w

/-- A field of a function that is not fitted, inside a present page (R4): the DDS fields and the booster-port fields. -/
def State.absentAt (m : State) (p : Page) (off : Nat) : Bool :=
  match p with
  | .lane _ _ => !m.hasDds && (off == 0x14C || off == 0x150)
  | .tile _ => !m.hasBoost && (off == 0x124 || off == 0x128 || off == 0x12C)
  | _ => false

/-- The acquisition's state lies between ARM_WAIT and REARM (R217). -/
def State.acqLive (m : State) (t : Nat) : Bool :=
  let st := m.r (.acq t) .acqState
  decide (1 ≤ st) && decide (st ≤ 5)

/-- CFG fields of the page may be written (R448): EN = 0, or the states of R163 and R210. -/
def State.cfgOpen (m : State) (p : Page) : Bool :=
  m.r p .pageEn == 0 ||
  (match p with
   | .seq _ => m.r p .seqState == 0 || m.r p .seqState == 5
   | .acq _ => m.r p .acqState == 0 || m.r p .acqState == 6
   | _ => false)

/-- A host write of word `w` acts on one field by its class (R447); CMD fields act elsewhere. -/
def State.writeField (m : State) (p : Page) (w : Word) (f : Fld) : State :=
  match f.cls with
  | .live | .cnt => m.w p f (f.of w)
  | .evt => m.w p f (m.r p f - (m.r p f &&& f.of w))
  | .cfg => if m.cfgOpen p then m.w p f (f.of w) else m
  | .stat | .cmd | .seal => m

/-- The write meets a field whose write condition does not hold (R448). -/
def State.meetsClosed (m : State) (p : Page) (fs : List Fld) : Bool :=
  fs.any fun f => (f.cls == .cfg && !m.cfgOpen p) || f.cls == .seal

/-- A host write of `w` to the register at `off`, field by field (R447, R448), with ORIGIN then showing the host (R449). A site's
write of a CTX_HDR counter replaces its own count and leaves PF0's total as it stands (DESIGN CHOICE, log entry 42). -/
def State.classWrite (m : State) (fn : Nat) (p : Page) (off : Nat) (w : Word) : State :=
  let fs := fieldsAt p fn off
  let shut := m.meetsClosed p fs
  let m := fs.foldl (fun m f => m.writeField p w f) m
  let m := match p.origin off with | some o => m.w p o 0 | none => m
  if shut then m.ignore fn p off else m

/-- PAGE_CAP (R461). -/
def State.pageCap (m : State) (p : Page) : Nat :=
  match p with
  | .lane _ _ => bit m.hasDds + 2
  | .tile _ => bit m.hasBoost + 2
  | _ => 0

/-- An operation of the page runs (R444). -/
def State.pageBusy (m : State) (p : Page) : Bool :=
  match p with
  | .seq t => m.seqLive t
  | .acq t => m.acqLive t
  | .lane t s =>
    (m.lane t s).pulse.isSome || (m.lane t s).chk.isSome ||
      (match m.sw t s with | .disconnected | .connected | .measureOnly | .pin | .faulted | .unpowered => false | _ => true)
  | .eng _ _ => m.r p .engState == 1 || m.r p .engState == 2
  | .tile t =>
    (m.subst t).xfer.isSome || (m.subst t).active.isSome || (m.tile t).turn.isSome || (m.tile t).goingDown || (m.tile t).draining
  | .arc => !m.dmas.isEmpty
  | .q fn => m.dmas.any (·.fn == fn)
  | .cur =>
    m.cur.tileReq.isSome || m.cur.applyMask != 0 || (m.cals.any fun c => !c.ended && c.cmd.isNone) ||
      (List.range 16).any fun t => (m.subst t).active.isSome || !(m.subst t).queue.isEmpty
  | .cat => m.cals.any fun c => !c.ended
  | .wl => m.wl.alignBusy
  | _ => false

/-- A fault of the block stands (R444). -/
def State.pageFault (m : State) (p : Page) : Bool :=
  match p with
  | .lane t s => m.sw t s == .faulted
  | _ => false

/-- A register word made of fields. -/
def packFields (fs : List Fld) (g : Fld → Nat) : Nat := fs.foldl (fun a f => a + g f * 2 ^ f.lo) 0

/-- A site sees only its own channels on the trunk page (R297). -/
def State.trkShown (m : State) (fn : Nat) (f : Fld) : Nat :=
  if fn = 0 then m.r .trk f
  else
    let own := m.ownsTrk fn (m.r .trk f)
    if f.off < 0x140 then 0
    else if f.off < 0x180 then (if m.ownsWl fn ((f.off - 0x140) / 4) then m.r .trk f else 0)
    else if f.off < 0x1C0 then (if m.ownsWl fn ((f.off - 0x180) / 4) then m.r .trk f else 0)
    else if f = .trkLoopCh then (if own then m.r .trk f else 0)
    else if f = .trkLoopWl then (if m.ownsTrk fn (m.r .trk .trkLoopCh) then m.r .trk f else 0)
    else m.r .trk f

/-- FB, the bytes of a frame (R211, R214). -/
def State.acqFb (m : State) (t : Nat) : Nat :=
  let p := Page.acq t
  if m.r p .acqSrc = 1 then 8 else 4 * (ones (m.r p .acqLanes) 9 + ones (m.r p .acqPair) 9)

/-- SLOT_BYTES (R228). -/
def State.acqSlotBytes (m : State) (t : Nat) : Nat := (64 + (m.r (.acq t) .acqLenm1 + 6) * m.acqFb t + 63) / 64 * 64

/-- A field as a read shows it: the estimates, CLAMP_LIMITED and module 0's ALIGNED follow from the rest of the
state (R43, R286, R364), and GO_UNUSED reads 0 in every site but the tile's home site (R121). -/
def State.shown (m : State) (p : Page) (fn : Nat) (f : Fld) : Nat :=
  match p with
  | .pwr => if f = .pwrEst then ceilDiv m.sumEst 1000 else m.r p f
  | .tile t => if f = .tilePwrEst then ceilDiv (m.tileEst t) 1000 else m.r p f
  | .lane t s => if f = .laneClampLimited then bit (m.clampLimited t s) else m.r p f
  | .wl => if f = .wlAligned ∧ m.r .dev .devStrapIndex = 0 then m.r .pace .paceRefinOk else m.r p f
  | .trk => if f.cls = .evt then m.evtSeen p fn f else m.trkShown fn f
  | .acq t => if f = .acqSlotSize then min (m.acqSlotBytes t / 64) 0xFFFFFFFF else m.r p f
  | .ctxHdr t => if fn ≠ 0 ∧ f = .ctxGoUnused fn ∧ m.home t ≠ fn then 0 else m.r p f
  | _ => m.r p f

/-- The register at offset `off` of a present page as function `fn` reads it (R440, R443, R444). -/
def State.readReg (m : State) (fn : Nat) (p : Page) (off : Nat) : Nat :=
  if m.absentAt p off then 0
  else match off with
    | 0x000 => p.typeCode + 2 ^ 16 * p.inst
    | 0x004 => 0x0100
    | 0x008 => m.pageCap p
    | 0x010 => m.r p .pageEn + 2 * bit (m.pageBusy p) + 4 * bit (m.pageFault p)
    | 0x020 => m.evtRaw p fn
    | 0x028 => m.evtPend p fn
    | _ => packFields (fieldsAt p fn off) (m.shown p fn)

/-- A word of a context entry (R484): word `k`, 0 to 15, of the entry of `id`; a site sees its own contexts' entries (R121). -/
def State.ctxWord (m : State) (fn id k : Nat) : Nat :=
  let c := m.ctx id
  if fn ≠ 0 ∧ (c.st = .free ∨ c.fn ≠ fn) then 0
  else match k with
    | 0 => (match c.st with | .free => 0 | .openSt => 1 | .lockWait => 2 | .ready => 3 | .running => 4 | .armed => 5
                            | .parked => 6 | .done => 7) +
           16 * c.par.prio + 64 * bit c.par.archive + 128 * bit c.par.abortDis + 256 * c.par.lane + 2 ^ 16 * c.fn +
           2 ^ 24 * c.par.rq
    | 1 => c.par.qahead + 2 ^ 16 * c.par.abortOn + 2 ^ 20 * c.par.abortEv +
           2 ^ 24 * (match c.waitI with | some w => w.go | none => if c.st = .free then 0 else 15)
    | 2 => c.par.llen
    | 3 => c.desc % 2 ^ 16
    | 4 => c.par.laddr % 2 ^ 32
    | 5 => c.par.laddr / 2 ^ 32
    | 6 => (match c.engine with | some k => c.tile * 64 + k + 2 ^ 16 | none => 0)
    | 7 => c.outcome + 256 * c.reason
    | 8 => c.steps % 2 ^ 32
    | 9 => c.pass % 2 ^ 32
    | 10 => c.fail % 2 ^ 32
    | 11 => min c.slips (2 ^ 32 - 1)
    | 12 => c.loops.getD 0 0 + 2 ^ 16 * c.loops.getD 1 0
    | 13 => c.loops.getD 2 0 + 2 ^ 16 * c.loops.getD 3 0
    | _ => 0

/-- A word of the segment table (R169). -/
def State.segWord (m : State) (t word : Nat) : Nat := (tabGet (0 : Word) m.segTab (t * 32768 + word)).toNat

/-- What a well-formed 32-bit host read finds where it reaches the module (R3, R410, R416, R439 to R443, R463): a command queue
window gives all-ones, and the MSI-X structures show the function's own. -/
def State.hostRead (m : State) (a : Acc) : Nat :=
  match accTarget a with
  | .reg p off => if m.present a.fn p then m.readReg a.fn p off else 0
  | .segWord t word => if m.present a.fn (.seq t) then m.segWord t word else 0
  | .ctxWord t word => if m.present a.fn (.ctxHdr t) then m.ctxWord a.fn (t * 256 + word / 16) (word % 16) else 0
  | .queueWin _ => 0xFFFFFFFF
  | .msixEnt v k => if v < m.r (.q a.fn) .qNvec then (m.msi a.fn).word v k else 0
  | .msixPba k => (m.msi a.fn).pba.foldl (fun x v => if v / 32 = k then x + 2 ^ (v % 32) else x) 0
  | .doorbell _ | .none => 0

/-- What a malformed read of register space finds in each byte that it covers (R439): all-ones, but 0 on an absent page (R441). -/
def State.badRead (m : State) (a : Acc) : Nat :=
  let here := match accTarget a with
    | .reg p off => m.present a.fn p && !m.absentAt p (off / 4 * 4)
    | .segWord t _ => m.present a.fn (.seq t)
    | .ctxWord t _ => m.present a.fn (.ctxHdr t)
    | .queueWin _ => true
    | _ => false
  if here then 0xFF else 0

/-- The answer to a well-formed read (R406, R420, R434). -/
def State.readReply (m : State) (a : Acc) : Reply := m.reply a.fn (m.hostRead a)

/-- The answer to a malformed read, for each byte. -/
def State.badReply (m : State) (a : Acc) : Reply := m.reply a.fn (m.badRead a)

/-- A read leaves the state as it is, but for what R407 logs of one that meets its function in D3hot. -/
def State.afterRead (m : State) (a : Acc) : State := m.barTouch a.fn

end Sys2Proof.Machine
end

