-- ==== Sys2Proof/Machine/LaneRegs.lean ====
section
/-! DEFINITION. Writes to the lane page and the lane's commands: the refusals of R55 to R57, R71, R101, R104 and R250, the
governor (R86), and the commands CONNECT, DISCONNECT, LANE_PULSE, LANE_SUPV.FCLR, LANE_WMCHK and LANE_RST. The host and a
lock owner write through the same operation. -/

namespace Sys2Proof.Machine

/-- The offsets of a lane's control registers, which a held lock closes to the host (R56). -/
def controlOffs : List Nat :=
  [0x100, 0x104, 0x108, 0x10C, 0x110, 0x114, 0x11C, 0x120, 0x124, 0x128, 0x12C, 0x134, 0x138, 0x13C, 0x140, 0x14C, 0x150,
   0x154, 0x158, 0x15C, 0x160, 0x164]

/-- Some lane of the unit is locked, or its site's reset runs (R56, R434), or it is the substitute and not FREE (R333). -/
def State.locked (m : State) (t s : Nat) : Bool :=
  (s == 9 && m.r (.tile t) .tileSubstState != 0) || (m.unit t s).any (fun k => (m.lane t k).owner.isSome) || (m.fn (m.laneOwner t s)).flr.isSome

/-- The reset of the lane's site runs: PF0's writes to the lane are refused with LOCKED (R434). -/
def State.flrShut (m : State) (t s : Nat) : Bool := (m.fn (m.laneOwner t s)).flr.isSome

/-- A range or scale code that names the booster's range: absent, or on a lane that is not bound to the port (R43, R93). -/
def State.boostRange (m : State) (t s : Nat) (names : Bool) : Option Why :=
  if names then (if !m.hasBoost then some .unitAbsent else if !m.boosted t s then some .wrongState else none) else none

/-- The measured histories exceed 95 % of a full scale at one of the last four samples (R78). -/
def over95 (h : List Int) (fs : Nat) : Bool := (h.take 4).any fun x => decide (100 * x.natAbs > 95 * fs)

/-- A range change from the ranges in force is refused (R78): in FV by the current for IRANGE, in FI by the voltage for
VRANGE. -/
def State.rangeRefused (m : State) (t s vr ir : Nat) : Bool :=
  let g := m.inForce t s
  let d := m.lane t s
  m.sw t s == .connected &&
  ((g .laneForceMode == 1 && ir != g .laneForceIrange && over95 d.histI (m.gangN t s * m.iFs t ir)) ||
   (g .laneForceMode == 2 && vr != g .laneForceVrange && over95 d.histV (m.vFs t vr)))

/-- The refusal of a LANE_FORCE write other than MODE = OFF (R37, R41, R71, R78, R89, R93). -/
def State.forceCheck (m : State) (t s : Nat) (w : Word) : Option Why :=
  let mode := Fld.laneForceMode.of w
  let vr := Fld.laneForceVrange.of w
  let ir := Fld.laneForceIrange.of w
  if mode > 4 then some .outOfWindow
  else if (vr = 3 ∨ ir = 7) ∧ !m.hasBoost then some .unitAbsent
  else if m.boosted t s then (if vr ≠ 3 ∨ ir ≠ 7 ∨ mode > 2 then some .wrongState
                              else if (m.lane t s).pulse.isSome then some .wrongState else none)
  else if vr = 3 ∨ ir = 7 then some .wrongState
  else if (m.lane t s).pulse.isSome then some .wrongState
  else if m.gangN t s ≠ 1 ∧ (ir < 4 ∨ ir = 7) then some .wrongState
  else if m.rangeRefused t s vr ir then some .rangeOverload
  else none

/-- The refusal of a LANE_PERS write (R93, R96, R100, R101, R104, R110): the way from DDS to SMU has no precondition. -/
def State.persCheck (m : State) (t s : Nat) (w : Word) : Option Why :=
  let p := Page.lane t s
  let sel := Fld.lanePersSel.of w
  let old := m.r p .lanePersSel
  let mode := m.l p .laneForceMode
  let vr := m.l p .laneForceVrange
  if sel = 3 ∨ !pinLevelOk (Fld.lanePersPark.of w) then some .outOfWindow
  else if sel = 2 ∧ m.boosted t s then some .wrongState
  else if sel = old ∨ (sel = 0 ∧ old = 1) then none
  else if sel = 1 ∧ !m.hasDds then some .unitAbsent
  else match m.sw t s with
    | .disconnected => none
    | .connected =>
      if sel = 1 then (if old = 0 ∧ (mode = 1 ∨ mode = 2) then none else some .wrongState)
      else if sel = 2 then
        (if old = 0 ∧ !(m.lane t s).dds ∧ mode = 1 ∧ (vr = 1 ∨ vr = 2) ∧ (m.gangOf t s).isNone ∧ !m.boosted t s then none
         else some .wrongState)
      else none
    | .pin => if sel = 0 then none else some .wrongState
    | _ => some .wrongState

/-- A pulse train may start (R71): in the SMU personality, both as latched and as stored, so that a START between a write of SEL
and its latch is refused (DESIGN CHOICE, log entry 44). -/
def State.pulseOk (m : State) (t s : Nat) : Bool :=
  let g := m.inForce t s
  let d := m.lane t s
  m.sw t s == .connected && g .lanePersSel == 0 && m.r (.lane t s) .lanePersSel == 0 && !d.dds &&
  (g .laneForceMode == 1 || g .laneForceMode == 2) && (g .laneDacSrc == 0 || d.owner.isNone) && d.pulse.isNone

/-- The refusal of a write to a lane register by its value and the lane's state; LANE_FORCE, LANE_PERS and the commands have
their own (R43, R44, R46, R48, R49, R69, R82, R93, R101, R250, R257). R41 and R80 name no check for AMIN and AMAX of LANE_RANGE:
the code 7 is stored on every lane; R69 gives PERIOD ≥ WIDTH + 400 as PERIOD's range alone: a WIDTH that breaks it against the
stored PERIOD is refused too; and a write of MODE = OFF is accepted with any range codes, those of the booster among them, which
are stored: R57 accepts it always, where R6 and R41 refuse the codes (DESIGN CHOICE, log entry 44). -/
def State.valueCheck (m : State) (t s off : Nat) (w : Word) : Option Why :=
  let p := Page.lane t s
  let bad (b : Bool) (y : Why) : Option Why := if b then some y else none
  match off with
  | 0x100 => if Fld.laneForceMode.of w = 0 then none else m.forceCheck t s w
  | 0x104 | 0x108 | 0x168 => m.boostRange t s (Fld.laneClampHiScale.of w == 7)
  | 0x10C => bad (decide (sext 16 (Fld.laneVclampHi.of w) < sext 16 (m.r p .laneVclampLo) + 100)) .outOfWindow
  | 0x110 => bad (decide (sext 16 (m.r p .laneVclampHi) < sext 16 (Fld.laneVclampLo.of w) + 100)) .outOfWindow
  | 0x114 =>
    if Fld.laneDacDiv.of w < 80 ∨ Fld.laneDacSrc.of w = 3 then some .outOfWindow
    else bad (m.lane t s).dds .wrongState
  | 0x118 => bad (decide (Fld.laneMeasAvg.of w > 16)) .outOfWindow
  | 0x120 => bad (m.boosted t s && decide (Fld.laneCompSel.of w < m.r (.tile t) .tileBprofCompMin)) .outOfWindow
  | 0x124 => bad (Fld.laneRailFloor.of w == 3) .outOfWindow
  | 0x134 => m.persCheck t s w
  | 0x138 =>
    let per := m.r p .lanePulsePeriod
    bad (decide (Fld.lanePulseWidth.of w < 400) || (per != 0 && decide (per < Fld.lanePulseWidth.of w + 400))) .outOfWindow
  | 0x13C => bad (Fld.lanePulseCmd.of w == 1 && !m.pulseOk t s) .wrongState
  | 0x148 =>
    let per := Fld.lanePulsePeriod.of w
    bad (per != 0 && decide (per < m.r p .lanePulseWidth + 400)) .outOfWindow
  | 0x154 =>
    let hi := Fld.lanePinDrvHi.of w
    let lo := Fld.lanePinDrvLo.of w
    bad (!pinLevelOk hi || !pinLevelOk lo || decide (sext 16 hi < sext 16 lo) || decide (sext 16 hi - sext 16 lo > 10000))
      .outOfWindow
  | 0x158 =>
    let hi := Fld.lanePinCmpHi.of w
    let lo := Fld.lanePinCmpLo.of w
    bad (!pinLevelOk hi || !pinLevelOk lo || decide (sext 16 hi < sext 16 lo)) .outOfWindow
  | 0x15C => bad (!pinLevelOk (Fld.lanePinTermVtt.of w)) .outOfWindow
  | 0x160 => bad (Fld.laneSupvDwell.of w == 0) .outOfWindow
  | 0x16C => bad (decide (sext 12 ((Fld.laneWmHi 0).of w) ≤ sext 12 ((Fld.laneWmLo 0).of w))) .outOfWindow
  | 0x174 => bad (decide (sext 12 ((Fld.laneWmHi 1).of w) ≤ sext 12 ((Fld.laneWmLo 1).of w))) .outOfWindow
  | _ => none

/-- The refusal of a write, in the model's order (log entry 13): GANG_MEMBER (R89), LOCKED (R56), then the value's. MODE = OFF
and a STOP of a pulse train under DISCONNECT are never LOCKED (R57). `own` is the lock's owner writing. -/
def State.laneCheck (m : State) (t s off : Nat) (w : Word) (own : Bool) : Option Why :=
  let ctl := controlOffs.contains off
  if ctl && m.follower t s then some .gangMember
  else if ctl && !own && m.locked t s && !(off == 0x100 && Fld.laneForceMode.of w == 0) then some .locked
  else m.valueCheck t s off w

/-! The commands of the lane page. -/

/-- The connect defaults of R108: on a booster lane its own. -/
def State.connectDefaults (m : State) (t s : Nat) : List (Fld × Nat) :=
  let lvl := m.r (.lane t s) .laneConnectLevel
  if m.boosted t s then
    [(.laneForceLevel, lvl), (.laneForceMode, 1), (.laneForceVrange, 3), (.laneForceIrange, 7),
     (.laneClampHiMag, 640), (.laneClampHiScale, 7), (.laneClampLoMag, 640), (.laneClampLoScale, 7), (.lanePersSel, 0)]
  else
    [(.laneForceLevel, lvl), (.laneForceMode, 1), (.laneForceVrange, 1), (.laneForceIrange, 4),
     (.laneClampHiMag, 6400), (.laneClampHiScale, 4), (.laneClampLoMag, 6400), (.laneClampLoScale, 4), (.lanePersSel, 0)]

/-- The fields that a connect puts in force at once on the internal load. -/
def forceFields : List Fld :=
  [.laneForceLevel, .laneForceMode, .laneForceVrange, .laneForceIrange, .laneClampHiMag, .laneClampHiScale, .laneClampLoMag,
   .laneClampLoScale, .lanePersSel, .lanePersPark]

/-- A lane enters PRECONNECT on tick `e` (R108), with the connect defaults where `dflt`; its DAC grid starts there. In TFOLD a
limit above 10 mA is folded back at once (R281). -/
def State.preconnect (m : State) (t s e : Nat) (dflt : Bool) : State :=
  let m := if dflt then m.hwLive (.lane t s) (m.connectDefaults t s) else m
  let fs := if m.r (.lane t s) .laneFoldback = 1 then forceFields.filter (fun f => f.off != 0x104 && f.off != 0x108) else forceFields
  let m := (m.latch (.lane t s) fs).setSw t s .preconnect e
  let m := m.modLane t s fun d => { d with forceSw := false, dacNext := if dflt then e else d.dacNext, rangeS := none,
                                           oldElem := false, rngPend := none, swapHits := 0, estHold := none }
  (m.driveTo t s (m.gov t s) (sext 20 (m.r (.lane t s) .laneForceLevel))).tfoldSettle t s e

/-- CONNECT (R108, R56, R86, R90): refused with GANG_MEMBER, LOCKED, WRONG_STATE or POWER_BUDGET, else the unit enters
PRECONNECT on the first tick after. `own` is the lock's owner connecting; slot 9 is the Curator's alone; a tile that is
going down admits none (R349). -/
def State.connectTry (m : State) (fn t s : Nat) (own : Bool) : State × Option Why :=
  let e := m.pace + 1
  if m.follower t s then (m.refuse t s .gangMember, some .gangMember)
  else if !own && m.locked t s then (m.refuse t s .locked, some .locked)
  else if !(m.unit t s).all (fun k => m.sw t k == .disconnected) || m.r (.lane t s) .pageEn == 0 || s == 9 || (m.tile t).goingDown then
    (m.refuse t s .wrongState, some .wrongState)
  else m.admitTry ((m.unit t s).foldl (fun m k => m.preconnect t k e true) m) fn t s

/-- CONNECT from the host. -/
def State.connectOp (m : State) (fn t s : Nat) : State := (m.connectTry fn t s false).1

/-- DISCONNECT (R57): always accepted, but on a gang member other than the leader, to which commands are refused (R89), and while
the reset of the lane's site runs, which disconnects the lane itself (R434; log entry 13). -/
def State.disconnectOp (m : State) (t s : Nat) : State :=
  if m.follower t s then m.refuse t s .gangMember
  else if m.flrShut t s then m.refuse t s .locked
  else m.hostDisc t s (m.pace + 1) .host

/-- A pulse train starts with its first pulse on tick `e` (R70). -/
def State.pulseGo (m : State) (t s e h : Nat) : State :=
  m.modLane t s fun d => { d with pulse := some { start := e, hop := h } }

/-- LANE_PULSE.CMD = STOP: no further pulse starts (R72); a train whose pulse is not on its top ends there. CMD reads STOP until
the train's end (R447). -/
def State.pulseStop (m : State) (t s : Nat) : State :=
  match (m.lane t s).pulse with
  | some p =>
    if p.onTop then (m.w (.lane t s) .lanePulseCmd 2).modLane t s fun d => { d with pulse := some { p with stopReq := true } }
    else m.endTrain t s (m.pace + 1)
  | none => m

/-- LANE_SUPV.FCLR: the fold-back is restored at the next ADC sample instant (R268). -/
def State.fclrOp (m : State) (t s : Nat) : State :=
  if (m.lane t s).foldShort then (m.w (.lane t s) .laneSupvFclr 1).modLane t s fun d => { d with foldClr := true }
  else m

/-- The refusal of LANE_WMCHK.CMD = RUNn (R89, R262). -/
def State.wmchkCheck (m : State) (t s n : Nat) : Option Why :=
  let p := Page.lane t s
  let arms := m.r p (.laneWmClamp n) == 1 || m.r p (.laneWmPend n) == 1
  let live := match m.sw t s with | .connected | .pin | .toPin | .toSmu => true | _ => false
  if m.follower t s then some .gangMember
  else if (arms && live) || m.r p (.laneWmTrip n) == 1 || (m.lane t s).chk.isSome then some .wrongState
  else none

/-- The check of monitor `n` begins on the first tick after (R261). -/
def State.wmchkGo (m : State) (t s n : Nat) : State :=
  (m.w (.lane t s) .laneWmchkCmd (n + 1)).modLane t s fun d => { d with chk := some (n, m.pace + 1) }

/-- LANE_RST.CMD (R385): acts as a DISCONNECT, and the page is reset at DISCONNECTED; refused on a gang member;
a transfer aborts (R341) and a calibration hold ends at once (R324). -/
def State.laneRstOp (m : State) (t s : Nat) : State :=
  if m.follower t s then m.refuse t s .gangMember
  else if m.r (.lane t s) .laneRstCmd = 1 then m
  else
    let e := m.pace + 1
    let m := (m.w (.lane t s) .laneRstCmd 1).modLane t s fun d => { d with rstPend := true }
    let m := if m.underXfer t s then m.xferAbort t 4 2 e else m
    (if m.calHold t s then m.calCut t s 10 else m).hostDisc t s e .laneReset

/-- A host writes 1 to TRIPn (R258): with LATCH = 1 and the raw state not INSIDE the hardware set wins; else it clears, and the
trip clamp, which with LATCH = 0 follows the raw state, is released where that is INSIDE. -/
def State.tripClearOp (m : State) (t s n : Nat) : State :=
  let d := m.lane t s
  if wmOutside (d.wm n).raw then
    if m.l (.lane t s) (.laneWmLatch n) = 0 then m.w (.lane t s) (.laneWmTrip n) 0 else m
  else (m.w (.lane t s) (.laneWmTrip n) 0).modLane t s fun d => d.unclamp n (m.pace + 1)

/-- A trip flag that a write would clear may stay (R258). -/
def State.tripWrite (m : State) (t s : Nat) (w : Word) : State :=
  let m := if w.getLsbD 12 then m.tripClearOp t s 0 else m
  let m := if w.getLsbD 13 then m.tripClearOp t s 1 else m
  m.classWrite 0 (.lane t s) 0x20C (w &&& 0xFFFFCFFF)

/-- What follows a stored write: TO_SMU starts on the first tick after SEL = SMU lands in PIN (R106). -/
def State.laneAfter (m : State) (t s off : Nat) : State :=
  if off = 0x134 ∧ m.sw t s = .pin ∧ m.r (.lane t s) .lanePersSel = 0 then
    m.toSmuGo t s (m.pace + 1)
  else m

/-- A write of word `w` to the lane register at `off` by function `fn`, or by the lock's owner, whose write leaves ORIGIN at 1
(R55, R86, R447, R449): refused whole, or applied field by field once the governor admits the estimate that it leads to. A
write of MODE = OFF is not evaluated, and the disconnect that it is, also one that waits, holds the estimate from before it (R85,
R86). -/
def State.laneTry (m : State) (fn t s off : Nat) (w : Word) (own : Bool) : State × Option Why :=
  match m.laneCheck t s off w own with
  | some y => (m.refuse t s y, some y)
  | none =>
    let p := Page.lane t s
    let store (m : State) : State :=
      let m := m.classWrite fn p off w
      match p.origin off with | some o => if own then m.w p o 1 else m | none => m
    if off == 0x100 && Fld.laneForceMode.of w == 0 then
      let m' := store (if own then m.discUnit t s (m.pace + 1) .run else m.hostDisc t s (m.pace + 1) .host)
      (((m.unit t s).foldl (fun x k => if (x.lane t k).dcPend.isSome then x.modLane t k fun d => { d with estHold := some (m.ownEst t k) }
        else x) m').overSettle, none)
    else
      let r := m.admitTry (store m) fn t s
      match r.2 with
      | some y => (r.1, some y)
      | none => (r.1.laneAfter t s off, none)

/-- A host write to a lane register without commands. -/
def State.laneStore (m : State) (fn t s off : Nat) (w : Word) : State := (m.laneTry fn t s off w false).1

/-- A host write to the lane page (R447), the registers with commands among them. A STOP while CMD reads STOP, and FCLR while FCLR
reads 1, are ignored (R448, R452). -/
def State.laneWrite (m : State) (fn t s off : Nat) (w : Word) : State :=
  let p := Page.lane t s
  if m.flrShut t s then m.refuse t s .locked
  else match off with
  | 0x130 =>
    let c := Fld.laneConnCmd.of w
    if c = 1 then m.connectOp fn t s else if c = 2 then m.disconnectOp t s else m
  | 0x13C =>
    match m.laneCheck t s off w false with
    | some y => m.refuse t s y
    | none =>
      let m := m.classWrite fn p off w
      let c := Fld.lanePulseCmd.of w
      if c = 1 then (m.w p .lanePulseCmd 1).pulseGo t s (m.pace + 1) 0
      else if c = 2 then (if m.r p .lanePulseCmd = 2 then m.ignore fn p off else m.pulseStop t s)
      else m
  | 0x164 =>
    match m.laneCheck t s off w false with
    | some y => m.refuse t s y
    | none =>
      let m := m.classWrite fn p off w
      if Fld.laneSupvFclr.of w = 1 then (if m.r p .laneSupvFclr = 1 then m.ignore fn p off else m.fclrOp t s) else m
  | 0x17C =>
    let c := Fld.laneWmchkCmd.of w
    if c = 1 ∨ c = 2 then
      match m.wmchkCheck t s (c - 1) with
      | some y => m.refuse t s y
      | none => (m.classWrite fn p off w).wmchkGo t s (c - 1)
    else m.classWrite fn p off w
  | 0x184 => if Fld.laneRstCmd.of w = 1 then m.laneRstOp t s else m
  | 0x20C => m.tripWrite t s w
  | _ => m.laneStore fn t s off w

end Sys2Proof.Machine
end

