-- ==== Sys2Proof/Machine/EngineOps.lean ====
section
/-! DEFINITION. The DAC queue and the steps of a run as the lane plays them (R51 to R54, R75 to R79, R140 to R144), and the
queueing of its step descriptors (R134 to R150). -/

namespace Sys2Proof.Machine

/-! Sample instants (R18). -/

/-- The next ADC sample instant: a tick whose pace count is a multiple of 50 (R45). -/
def State.nextAdc (m : State) (t s : Nat) : Nat :=
  match (m.lane t s).adcLast with
  | some l => l + 50
  | none => ceilMul 50 m.pace

/-- The next DAC sample instant of the lane's own grid; with the loop idle it follows the pace (log entry 3). -/
def State.nextDac (m : State) (t s : Nat) : Nat :=
  let d := m.lane t s
  let e := if d.dacNext ≤ d.dacLast ∧ d.dacLast ≠ 0 then d.dacLast + m.l (.lane t s) .laneDacDiv else d.dacNext
  match m.sw t s with
  | .disconnected | .faulted | .measureOnly | .unpowered => max e m.pace
  | _ => e

/-! Playing the DAC queue. -/

/-- Where the DAC takes its level from (R49, R50): DIRECT while nobody holds the lock; under the sequencer's lock the samples fall
on the lane's own grid, whatever SRC was saved (R175, R190). -/
def State.srcOf (m : State) (t s : Nat) : Nat :=
  match (m.lane t s).owner with
  | none => 0
  | some .seq => 1
  | some _ => m.l (.lane t s) .laneDacSrc

/-- A range change of the lane's gang starts at tick `e` (R75, R89): the new elements close, both conduct; a monitor that is not
blanked compares against the new range reference from then on (R251, R255). -/
def State.beginRange (m : State) (t s e : Nat) : State :=
  (m.unit t s).foldl (fun m k =>
    ((m.modLane t k fun d => { d with rangeS := some e, oldElem := true, rngPend := none }).wmEval t k 0 e e 0).wmEval t k 1 e e 0) m

/-- A change of IRANGE selects another shunt: of a connected lane not in FVMV, whose shunt is bypassed (R39, R75). -/
def State.shuntMoves (m : State) (t s ir : Nat) : Bool :=
  m.sw t s == .connected && m.gov t s .laneForceMode != 3 && m.l (.lane t s) .laneForceIrange != ir

/-- The IRANGE of hardware applies at tick `e` (R52, R75, R80). -/
def State.applyRange (m : State) (t s ir e : Nat) : State :=
  let p := Page.lane t s
  let m' := (m.hwLive p [(.laneForceIrange, ir)]).latch p [.laneForceIrange]
  if m.shuntMoves t s ir then m'.beginRange t s e else m'

/-- An estimate that the lane holds for its operation rises where its present settings lead above it: in FV, whose estimate no
LEVEL moves, and under the sequencer (R85, R86). A step of a descriptor that has been admitted in FI raises nothing (R147). -/
def State.raiseHold (m : State) (t s : Nat) : State :=
  let est := m.estIn t s (m.stored t (m.leader t s))
  if m.gov t s .laneForceMode = 1 ∨ (m.lane t s).owner = some .seq then
    m.modLane t s fun d => { d with estHold := d.estHold.map (max est) }
  else m

/-- The IRANGE of hardware applies at tick `e` where the governor admits it; else the lane refuses with POWER_BUDGET (R86). -/
def State.admitRange (m : State) (t s ir e : Nat) : State × Bool :=
  let r := m.admitTry ((m.applyRange t s ir e).raiseHold t s) (m.laneOwner t s) t s
  (r.1, r.2.isSome)

/-- A range part that a queue entry may not have (R52, R78, R93). -/
def State.rangeBad (m : State) (t s ir : Nat) : Bool :=
  (m.boosted t s && ir != 7) || (!m.boosted t s && ir == 7) || (m.gangN t s != 1 && decide (ir < 4)) ||
    (m.shuntMoves t s ir && m.rangeRefused t s (m.l (.lane t s) .laneForceVrange) ir)

/-- A range part of a queue entry at tick `e` (R52, R78, R79, R86, R93): whether it is refused, and the state; before S + 160 it
moves to the lane's DAC grid, or to the ADC grid for a load strobe, as it does during a transfer (R340). -/
def State.playRange (m : State) (t s ir e : Nat) (strobe : Bool) : State × Bool :=
  let d := m.lane t s
  let same := !m.shuntMoves t s ir
  if m.rangeBad t s ir then (m.refuse t s .rangeOverload, true)
  else if !same && m.xferHolds t s e then (m.modLane t s fun d => { d with rngPend := some (ir, !strobe) }, false)
  else match d.rangeS with
    | some sS =>
      if !same && decide (e < sS + 160) then (m.modLane t s fun d => { d with rngPend := some (ir, !strobe) }, false)
      else m.admitRange t s ir e
    | none => m.admitRange t s ir e

/-- A missed DAC sample or strobe on tick `e` (R54, R144): the DAC holds, QUEUE_DRY sets, the miss is counted, and while a run's
step grid is open it is a slip, but not inside the dwell that END_SWEEP has left without an entry, nor after a LIMIT's STOP. -/
def State.dry (m : State) (t s e : Nat) : State :=
  let p := Page.lane t s
  let d := m.lane t s
  let m := (m.flag p .laneQueueDry).inc p .laneQdryCnt
  match d.owner with
  | some (.ctx id) =>
    if (m.ctx id).gridOpen ∧ !(m.ctx id).limitStop ∧ !(d.dacQ.isEmpty && decide (e < d.dwellEnd)) then
      m.modLane t s fun d => { d with slipNow := d.slipNow + 1 }
    else m
  | _ => m

/-- A step's entry of context `id` plays on tick `e` (R140, R144, R149): the first entry of a step starts its timetable and
fires the FIRE events that wait for it. -/
def State.stepUpdate (m : State) (id t s : Nat) (q : QEntry) (e : Nat) (refused : Bool) : State :=
  let d := m.lane t s
  let c := m.ctx id
  let cfg := q.cfg
  let apS := ceilMul 50 (e + cfg.settle)
  let apE := apS + apTicks cfg.avg cfg.qty
  let step : Option ActiveStep :=
    if q.rep = 0 then some { cfg := cfg, k := q.k, entry := q.w, u := e, apStart := apS, apEnd := apE, slips := d.slipNow,
                             refused := refused }
    else d.step.map fun st => { st with slips := st.slips + d.slipNow, refused := st.refused || refused }
  let dwell := if cfg.strobe then (if q.rep + 1 = cfg.reps then max e ((step.map (·.apEnd)).getD e) else d.dwellEnd)
               else e + cfg.stepTicks
  let latch := if q.rep = 0 then d.latch else d.latch.map fun r =>
    if r.step.cfg.sn = cfg.sn ∧ r.step.k = q.k then
      { r with step := { r.step with slips := r.step.slips + d.slipNow, refused := r.step.refused || refused } } else r
  let m := m.setLane t s { d with step := step, slipNow := 0, dwellEnd := dwell, latch := latch }
  let evs := if q.rep = 0 then c.nowEvs ++ (if q.k = 0 then cfg.fires else []) else []
  let m := evs.foldl (fun m n => m.ctxEvent t n e) m
  m.setCtx id { c with gridBegun := true, steps := c.steps + (if q.rep = 0 then 1 else 0), slips := c.slips + d.slipNow,
                       nowEvs := if q.rep = 0 then [] else c.nowEvs }

/-- Where the next entry to play is a strobe step's of another group, the engine has set GROUP to it (R141, R143). -/
def State.syncGroup (m : State) (t s : Nat) : State :=
  let p := Page.lane t s
  match (m.lane t s).dacQ with
  | q :: _ =>
    if q.cfg.strobe ∧ m.r p .laneDacGroup ≠ q.cfg.group then (m.hwLive p [(.laneDacGroup, q.cfg.group)]).latch p [.laneDacGroup]
    else m
  | [] => m

/-- The front entry of the DAC queue plays on tick `e` (R51, R52): LEVEL, of a MEAS step the one that stands (R139; log entry 17),
the range part, MARK, and the step it belongs to.
`h` is the hop count of the load strobe that plays it, if one does. -/
def State.playEntry (m : State) (t s e : Nat) (strobe : Option Nat) : State :=
  let p := Page.lane t s
  let d := m.lane t s
  match d.dacQ with
  | [] => m.dry t s e
  | q :: rest =>
    let q := if q.keep then { q with w := BitVec.ofNat 32 (m.r p .laneForceLevel) ||| q.w } else q
    let lvl := wbits q.w 0 20
    let m := (m.hwLive p [(.laneForceLevel, lvl)]).latch p [.laneForceLevel]
    let m := m.modLane t s fun d => { d with dacQ := rest, dacLevel := sext 20 lvl, dacLast := e, playLast := e }
    let r := if q.w.getLsbD 27 then m.playRange t s (wbits q.w 24 3) e strobe.isSome else (m, false)
    let m := r.1
    let m := if q.w.getLsbD 20 then m.laneEvent t s .mark e (match strobe with | some h => h + 1 | none => 0) else m
    match d.owner with
    | some (.ctx id) =>
      if q.fin then m.modCtx id fun c => { c with lastAp := e }
      else
        let m := if !q.cfg.strobe && !d.dds && m.r p .laneDacDiv != q.cfg.stepTicks then
            (m.hwLive p [(.laneDacDiv, q.cfg.stepTicks)]).latch p [.laneDacDiv] else m
        (m.stepUpdate id t s q e r.2).syncGroup t s
    | _ => m

/-! Queueing a step descriptor. -/

/-- The queue entry of the present step and repetition (R134, R138, R139). -/
def Gen.entry (g : Gen) : QEntry :=
  let first := bit (g.cfg.mark && g.rep == 0) * 2 ^ 20
  let w : Word :=
    match g.kind with
    | 3 => g.entries.getD g.k 0
    | 2 => BitVec.ofNat 32 (enc 20 (g.start + g.k * g.inc) + (if g.k = 0 then g.rngWord else 0))
    | _ => 0
  { w := w ||| BitVec.ofNat 32 first, k := g.k, rep := g.rep, cfg := g.cfg, keep := g.kind == 5 }

/-- The next entry's place, none after the last. -/
def Gen.next (g : Gen) : Option Gen :=
  if g.rep + 1 < g.cfg.reps then some { g with rep := g.rep + 1 }
  else if g.k + 1 < g.cfg.count then some { g with k := g.k + 1, rep := 0 }
  else none

/-- At most `n` entries, and what is left. -/
def Gen.take : Nat → Gen → List QEntry × Option Gen
  | 0, g => ([], some g)
  | n + 1, g =>
    match g.next with
    | none => ([g.entry], none)
    | some g' => let r := g'.take n; (g.entry :: r.1, r.2)

/-- QAHEAD: 0 gives 64 (R122). -/
def Ctx.ahead (c : Ctx) : Nat := if c.par.qahead = 0 then 64 else c.par.qahead

/-- The step grid of context `id` opens with the anchor tick `u` (R141, R142): the engine sets SRC with DIV or GROUP, and the
lane's grid restarts at U_0, except in DDS. -/
def State.openGrid (m : State) (id u : Nat) : State :=
  let c := m.ctx id
  let p := Page.lane c.tile c.slot
  let d := m.lane c.tile c.slot
  match d.dacQ with
  | [] => m
  | q :: _ =>
    let strobe := q.cfg.strobe
    let m :=
      if strobe then (m.hwLive p [(.laneDacSrc, 2), (.laneDacGroup, q.cfg.group)]).latch p [.laneDacSrc, .laneDacGroup]
      else if d.dds then (m.hwLive p [(.laneDacSrc, 1)]).latch p [.laneDacSrc]
      else (m.hwLive p [(.laneDacSrc, 1), (.laneDacDiv, q.cfg.stepTicks)]).latch p [.laneDacSrc, .laneDacDiv]
    let m := m.modLane c.tile c.slot fun d =>
      { d with qFrom := u, qGate := true, dacNext := if strobe || d.dds then d.dacNext else u }
    m.setCtx id { c with gridOpen := true, gridStrobe := strobe, gridBegun := false }

/-- The anchor of the NOW rule (R141): the first multiple of 50 at least 50 ticks after the entry is queued. -/
def nowAnchor (e : Nat) : Nat := ceilMul 50 (e + 50)

/-- The step grid closes (R143), once every step queued before has played; what its last samples found was no entry's, so no
slip. -/
def State.closeGrid (m : State) (id : Nat) : State :=
  let c := m.ctx id
  (m.setCtx id { c with gridOpen := false }).modLane c.tile c.slot fun d => { d with slipNow := 0 }

/-- What queueing an entry of a step descriptor of `kind` costs at most (R115). -/
def QEntry.cost (q : QEntry) (kind : Nat) : Nat := if q.rep ≠ 0 then 4 else if kind = 2 then 18 else 12

/-- Entries of the step descriptor being queued go into the DAC queue, up to QAHEAD (R116); outside an arming they open a
grid where none is open (R141). -/
def State.fillQueue (m : State) (id : Nat) : State :=
  let c := m.ctx id
  match c.gen with
  | none => m
  | some g =>
    let q := (m.lane c.tile c.slot).dacQ
    let r := g.take (c.ahead - q.length)
    let arming := c.waitI.isSome
    let m := if r.1.isEmpty then m else m.engOp c.tile c.engine (r.1.map (·.cost g.kind)).sum
    let m := m.modLane c.tile c.slot fun d => { d with dacQ := d.dacQ ++ r.1, qGate := d.qGate && !(arming && q.isEmpty) }
    let m := m.setCtx id { c with gen := r.2, desc := if r.2.isNone then c.desc + c.genLen else c.desc,
                                  qTick := if q.isEmpty then m.pace else c.qTick }
    if c.gridOpen then m.syncGroup c.tile c.slot else if arming || (q ++ r.1).isEmpty then m else m.openGrid id (nowAnchor m.pace)

/-- The candidates (level, IRANGE) of a step descriptor whose estimate may be the largest (R147). -/
def Gen.candidates (g : Gen) (ir : Nat) : List (Int × Nat) :=
  match g.kind with
  | 2 =>
    let ir' := if g.rngWord.testBit 27 then bits g.rngWord 24 3 else ir
    [(g.start, ir'), (g.start + (g.cfg.count - 1 : Nat) * g.inc, ir')]
  | 3 =>
    (g.entries.take g.cfg.count).foldl (fun (acc : List (Int × Nat) × Nat) w =>
      let ir := if w.getLsbD 27 then wbits w 24 3 else acc.2
      ((sext 20 (wbits w 0 20), ir) :: acc.1, ir)) ([], ir) |>.1
  | _ => []

/-- The state in which the lane, or every lane of its gang, carries the largest estimate of a step descriptor (R147, R283). -/
def State.withDescEst (m : State) (t s : Nat) (g : Gen) : State :=
  let fields := m.stored t s
  let cands := g.candidates (fields .laneForceIrange)
  let busy := !(m.lane t s).dacQ.isEmpty || (m.lane t s).step.isSome
  (m.unit t s).foldl (fun m k =>
    if m.sw t k = .connected then
      let est := cands.map fun (lv, ir) => m.estIn t k fun f =>
        if f = .laneForceLevel then enc 20 lv else if f = .laneForceIrange then ir else fields f
      let own := m.estIn t k fields
      let old := if busy then (m.lane t k).estHold.getD own else own
      m.modLane t k fun d => { d with estHold := some (est.foldl max (if cands.isEmpty || busy then old else 0)) }
    else m) m

/-! Engine states. -/

/-- ENG_STAT of the engine that serves the context (R113). -/
def State.setEngine (m : State) (id st : Nat) : State :=
  let c := m.ctx id
  match c.engine with
  | some k => m.ws (.eng c.tile k) [(.engState, st), (.engCtx, id)]
  | none => m

/-- The wait of R148 gets its end tick: from the end of the dwell of the last step, or from the tick of arming or parking
where no step of the run has played. -/
def State.armWait (m : State) (id : Nat) (w : WaitInfo) : WaitInfo :=
  let c := m.ctx id
  let base := if c.steps = 0 then m.pace else (m.lane c.tile c.slot).dwellEnd
  { w with endTick := if w.timed || w.time != 0 then some (base + w.time) else none }

/-- The context becomes ARMED with its steps queued, its engine held (R125, R148). -/
def State.arm (m : State) (id : Nat) : State :=
  let c := m.ctx id
  match c.waitI with
  | some w => (m.setCtx id { c with st := .armed, waitI := some (m.armWait id w) }).setEngine id 2
  | none => m

/-- A waiting context resumes with the anchor `u` (R125, R141): from ARMED its queued steps play from U_0, and so they do where a
timed wait has ended before all of them are queued; from PARKED it is READY. -/
def State.resume (m : State) (id u : Nat) : State :=
  let c := m.ctx id
  match c.st with
  | .armed | .running => (((m.setCtx id { c with st := .running, waitI := none }).setEngine id 1).modLane c.tile c.slot fun d =>
      { d with qGate := true }).openGrid id u
  | .parked => m.setCtx id { c with st := .ready, waitI := none }
  | _ => m

/-- A timed wait has ended on tick `e` (R141): the grid is anchored there, in DDS at the first DAC sample at or after it (R142); the
first step plays at least 50 ticks after its entry was queued, and the whole periods lost, or the strobes of its group, are
slips. -/
def State.afterWait (m : State) (id e : Nat) : State :=
  let c := m.ctx id
  let d := m.lane c.tile c.slot
  match d.dacQ with
  | q :: _ =>
    let n := q.cfg.stepTicks
    let u := if d.dds then e + (m.nextDac c.tile c.slot % n + n - e % n) % n else e
    let lost := if q.cfg.strobe then (c.late.filter fun g => g == q.cfg.group).length else ceilDiv (c.qTick + 50 - u) n
    (m.resume id (if q.cfg.strobe then max e c.qTick else u + lost * n)).modLane c.tile c.slot fun d =>
      { d with slipNow := d.slipNow + lost }
  | [] => m.resume id e

/-- CTX_GO channel `ch` of tile `t` delivered on tick `e` with hop count `h` (R125, R141, R148, R159): contexts whose ABORT_ON
it is are aborted, or where they are DONE count the late abort (R33), contexts that wait on it resume, and with none of these it
counts in GO_UNUSED. -/
def State.goDelivered (m : State) (t ch h e : Nat) : State :=
  let ids := (m.ctxs.map (·.1)).filter fun id => id / 256 == t
  let ab := ids.filter fun id => ((m.ctx id).st.live || (m.ctx id).st == .done) && (m.ctx id).par.abortOn == ch
  let wt := ids.filter fun id =>
    ((m.ctx id).st == .armed || (m.ctx id).st == .parked) && (m.ctx id).par.abortOn != ch &&
    (match (m.ctx id).waitI with | some w => !w.timed && w.go == ch | none => false)
  if ab = [] ∧ wt = [] then
    let m := m.inc (.ctxHdr t) (.ctxGoUnused 0)
    if m.home t = 0 then m else m.inc (.ctxHdr t) (.ctxGoUnused (m.home t))
  else
    let m := ab.foldl (fun m id => m.abortRun id 3 0 e (h + 1)) m
    wt.foldl (fun m id => m.resume id (nowAnchor e)) m

/-! Lane-lock requests (R24, R130, R165, R323). -/

/-- Every lane of the request is free. -/
def State.lanesFree (m : State) (q : LockReq) : Bool := q.slots.all fun k => (m.lane q.tile k).owner.isNone

/-- Request `i` may be granted: every lane of it is free, and no request that ranks ahead and could be granted too wants one of
its lanes. A request for several lanes of which one is held reserves none of the others (R24, R165; log entry 36). -/
def State.grantable (m : State) (i : Nat) (q : LockReq) : Bool :=
  m.lanesFree q &&
  (m.locks.zipIdx.all fun (o, j) =>
    o.tile != q.tile || j == i || !(o.slots.any fun k => q.slots.contains k) || !m.lanesFree o ||
    decide (q.level < o.level) || (o.level == q.level && decide (i < j)))

/-- The request that is granted next in tile `t` among those that `f` admits. -/
def State.nextGrant (m : State) (t : Nat) (f : LockReq → Bool) : Option LockReq :=
  ((m.locks.zipIdx.find? fun (q, i) => q.tile == t && f q && m.grantable i q)).map (·.1)

/-- The lock is granted: the request leaves the queue and its lanes have their owner. -/
def State.grant (m : State) (q : LockReq) : State :=
  q.slots.foldl (fun m k => m.modLane q.tile k fun d => { d with owner := some q.who })
    { m with locks := m.locks.filter fun o => o != q }

/-- The answer of a command of function `fn`: its status (R123, R426) and result. -/
def State.answer (m : State) (fn status : Nat) (result : Nat := 0) : State :=
  m.setFn fn { m.fn fn with status := status, result := result }

end Sys2Proof.Machine
end

