-- ==== Sys2Proof/Machine/Contexts.lean ====
section
/-! DEFINITION. Contexts (R117 to R132, R148): the five context commands with their statuses, the lock grant, dispatch, and
the ways out of a wait. A command queue calls the same operations (COMMAND_TAKE). -/

namespace Sys2Proof.Machine

/-- The contexts of function `fn` in tile `t` that count against its quota (R118). -/
def State.quotaUsed (m : State) (fn t : Nat) : Nat :=
  (m.ctxs.filter fun (id, c) => id / 256 == t && c.st != .free && c.fn == fn).length

/-- The quota of a function in a tile; PF0 has what the sites leave (R118). -/
def State.quotaOf (m : State) (fn t : Nat) : Nat :=
  if fn = 0 then 256 - ((List.range 16).map fun i => m.quota (i + 1) t).sum else m.quota fn t

/-- The lowest FREE identifier of a tile (R120). -/
def State.freeId (m : State) (t : Nat) : Option Nat :=
  ((List.range 256).map (· + t * 256)).find? fun id => (m.ctx id).st == .free

/-- The bytes of Archive that a function's lists, windows and transfers reach (R242, R411): base and length. -/
def State.region (m : State) (fn : Nat) : Nat × Nat :=
  if fn = 0 then (0, m.r .dev .devCapArcSize * 0x800000000)
  else (m.r .site (.siteArcBase fn) * 0x200000, m.r .site (.siteArcPages fn) * 0x200000)

/-- A parameter that lies in 8 to 14 (R123). -/
def odd8to14 (x : Nat) : Bool := decide (8 ≤ x) && decide (x ≤ 14)

/-- The status of a CTX_OPEN (R119, R123), checks in their order: 0 accepts. -/
def State.openStatus (m : State) (fn : Nat) (p : CtxParams) : Nat :=
  let t := p.lane / 9
  let s := p.lane % 9
  if p.lane > 143 ∨ odd8to14 p.abortOn ∨ odd8to14 p.abortEv ∨ (1 ≤ p.qahead ∧ p.qahead ≤ 7) ∨ p.qahead > 1024 then 9
  else if m.laneOwner t s ≠ fn then 3
  else if !m.tileOn t || (m.tile t).goingDown then 10
  else if m.follower t s then 4
  else if p.llen = 0 ∨ p.llen > 65536 ∨ p.laddr % 32 ≠ 0 ∨ (p.archive ∧ p.laddr + 32 * p.llen > (m.region fn).2) then 7
  else if m.quotaUsed fn t ≥ m.quotaOf fn t ∨ (m.freeId t).isNone then 1
  else 0

/-- CTX_OPEN (R119, R120, R122, R125). -/
def State.ctxOpenOp (m : State) (fn : Nat) (p : CtxParams) : State :=
  let t := p.lane / 9
  match m.openStatus fn p with
  | 0 =>
    let id := (m.freeId t).getD 0
    (m.setCtx id { st := .openSt, fn := fn, par := p, members := m.unit t (p.lane % 9) }).answer fn 0 id
  | 1 =>
    let m := m.inc (.ctxHdr t) (.ctxFullCnt 0)
    (if fn = 0 then m else m.inc (.ctxHdr t) (.ctxFullCnt fn)).answer fn 1
  | st => m.answer fn st

/-- The context belongs to `fn` (R123: else BAD_ID). -/
def State.owns (m : State) (fn id : Nat) : Bool := decide (id < 4096) && (m.ctx id).st != .free && (m.ctx id).fn == fn

/-- CTX_START (R122, R123, R125, R130): the run's counts start at zero and the lock of the lane or gang is requested. -/
def State.ctxStartOp (m : State) (fn id go : Nat) : State :=
  let c := m.ctx id
  if odd8to14 go then m.answer fn 9
  else if !m.owns fn id then m.answer fn 6
  else if !m.tileOn c.tile || (m.tile c.tile).goingDown then m.answer fn 10 id
  else if (c.st ≠ .openSt ∧ c.st ≠ .done) ∨ (go < 8 ∧ go = c.par.abortOn) then m.answer fn 5 id
  else
    let m := m.setCtx id { c with st := .lockWait, desc := 0, goStart := go, fetched := [], gen := none, gridOpen := false,
                                  gridStrobe := false, gridBegun := false,
                                  waitI := none, loops := [0, 0, 0, 0], limits := [], condFail := false, anyFail := false,
                                  steps := 0, pass := 0, fail := 0, slips := 0, outcome := 0, reason := 0, refuse := 0,
                                  fireEvs := [], nowEvs := [], final := none, limitStop := false, badDesc := none,
                                  connWait := false, lastAp := 0, qTick := 0, sn := 0, late := [] }
    ({ m with locks := m.locks ++ [⟨.ctx id, c.tile, if c.members.length = 1 then m.unit c.tile c.slot else c.members,
        c.par.prio⟩] } : State).answer fn 0 id

/-- CTX_ABORT (R126, R159): in OPEN it has no effect; after the outcome is decided it counts as late (R33). -/
def State.ctxAbortOp (m : State) (fn id : Nat) : State :=
  if !m.owns fn id then m.answer fn 6
  else if (m.ctx id).st = .openSt then m.answer fn 0 id
  else (m.abortRun id 2 0 (m.pace + 1)).answer fn 0 id

/-- CTX_CLOSE (R125, R126): packets of the last run that still wait keep their queue. -/
def State.ctxCloseOp (m : State) (fn id : Nat) : State :=
  let c := m.ctx id
  if !m.owns fn id then m.answer fn 6
  else if c.st ≠ .openSt ∧ c.st ≠ .done then m.answer fn 5 id
  else
    let q := m.rq fn c.par.rq
    ((m.setRq fn c.par.rq { q with waiting := q.waiting ++ c.pkts, owed := q.owed ++ c.owed }).setCtx id {}).answer fn 0 id

/-- CTX_PRIO (R126): takes effect at the next dispatch. -/
def State.ctxPrioOp (m : State) (fn id prio : Nat) : State :=
  if !m.owns fn id then m.answer fn 6
  else (m.modCtx id fun c => { c with par := { c.par with prio := prio } }).answer fn 0 id

/-- The device serves the command queues of `fn` (R390, R423, R435): also in D3hot, where its resources keep running (R406). -/
def State.cmdOk (m : State) (fn : Nat) : Bool :=
  decide (fn < 17) && m.dom 2 && m.cur.pfail.isNone && m.cur.rst.isNone && m.r .dev .devStatReady == 1 && (m.fn fn).flr.isNone

/-- The queue windows and doorbells of function `fn` take writes (R390, R435). -/
def State.winOk (m : State) (fn : Nat) : Bool := m.reach fn && m.r .dev .devStatReady == 1

def execCtxOpen (fn : Nat) (p : CtxParams) (m : State) : Out := onlyIf (m.cmdOk fn) m (m.ctxOpenOp fn p)
def execCtxStart (fn id go : Nat) (m : State) : Out := onlyIf (m.cmdOk fn) m (m.ctxStartOp fn id go)
def execCtxAbort (fn id : Nat) (m : State) : Out := onlyIf (m.cmdOk fn) m (m.ctxAbortOp fn id)
def execCtxClose (fn id : Nat) (m : State) : Out := onlyIf (m.cmdOk fn) m (m.ctxCloseOp fn id)
def execCtxPrio (fn id prio : Nat) (m : State) : Out := onlyIf (m.cmdOk fn) m (m.ctxPrioOp fn id prio)

/-- The lane conditions of R131 at the lock grant. -/
def State.grantOk (m : State) (id : Nat) : Bool :=
  let c := m.ctx id
  (match m.sw c.tile c.slot with | .pin | .toPin | .toSmu | .faulted => false | _ => true) &&
  m.r (.lane c.tile c.slot) .lanePersSel != 2 && !m.follower c.tile c.slot &&
  (c.members.length == 1 || m.unit c.tile c.slot == c.members)

/-- LOCK_GRANT: the next context request of the tile is granted (R125, R130 to R132). -/
def State.lockGrantOp (m : State) (t : Nat) : State :=
  match m.nextGrant t (fun q => match q.who with | .ctx _ => true | _ => false) with
  | some q =>
    match q.who with
    | .ctx id =>
      let c := m.ctx id
      let p := Page.lane c.tile c.slot
      if m.grantOk id then
        let m' := (m.grant q).modLane c.tile c.slot fun d => { d with dwellEnd := 0 }
        m'.setCtx id { c with st := .ready, savedSrc := m.r p .laneDacSrc, savedDiv := m.r p .laneDacDiv,
                              savedGroup := m.r p .laneDacGroup }
      else
        let m := { m with locks := m.locks.filter fun o => o != q }
        (m.ctxEvent c.tile c.par.abortEv (m.pace + 1)).finishRun id 2 6 3 (m.pace + 1)
    | _ => m
  | none => m

def execLockGrant (t : Nat) (m : State) : Out := done (m.lockGrantOp t)

/-- The READY context that is dispatched next in tile `t` (R128): highest level, then cyclically after the last dispatched; at a level
at which none has been dispatched the search begins at the tile's lowest identifier (DESIGN CHOICE, log entry 42). -/
def State.nextReady (m : State) (t : Nat) : Option Nat :=
  let at' (lv : Nat) : Option Nat :=
    let last := (m.tile t).lastDisp.getD lv 255
    ((List.range 256).map fun i => t * 256 + (last + 1 + i) % 256).find? fun id =>
      (m.ctx id).st == .ready && (m.ctx id).par.prio == lv
  (at' 0) <|> (at' 1) <|> (at' 2) <|> (at' 3)

/-- The lowest IDLE engine of a tile (R113, R128). -/
def State.idleEngine (m : State) (t : Nat) : Option Nat :=
  (List.range 64).find? fun k => m.r (.eng t k) .engState == 0

/-- DISPATCH (R128): an IDLE engine takes the context, which becomes RUNNING. -/
def State.dispatchOp (m : State) (t : Nat) : State :=
  match m.nextReady t, m.idleEngine t with
  | some id, some k =>
    let c := m.ctx id
    let m := m.modTile t fun d => { d with lastDisp := d.lastDisp.set c.par.prio (id % 256) }
    ((m.setCtx id { c with st := .running, engine := some k }).setEngine id 1).engOp t (some k) 40
  | _, _ => m

def execDispatch (t : Nat) (m : State) : Out := onlyIf (m.tileOn t) m (m.dispatchOp t)

/-- CTX_GO: the delivery falls on the present tick. -/
def execCtxGo (t ch hop : Nat) (m : State) : Out := onlyIf (m.tileOn t && decide (ch < 8)) m
  (m.activation t (10 + ch) m.pace fun m => m.goDelivered t ch hop m.pace)

/-- The end of a timed wait (R141, R148). -/
def State.waitEndOp (m : State) (id : Nat) : State :=
  let c := m.ctx id
  match c.waitI with
  | some w =>
    match w.endTick with
    | some e =>
      if w.timed ∧ (c.st = .armed ∨ c.st = .parked) then
        let m := m.due e
        m.afterWait id e
      else m
    | none => m
  | none => m

def execWaitEnd (id : Nat) (m : State) : Out := done (m.waitEndOp id)

/-- The timeout of a wait (R125, R141, R148, R159): TO_ACT ends the run with TIMEOUT or goes on as for a GO. A GO delivered on the
timeout tick comes first, so the timeout waits for every stage of the baton of that tick or before. -/
def State.waitTimeoutOp (m : State) (id : Nat) : State :=
  let c := m.ctx id
  match c.waitI with
  | some w =>
    match w.endTick with
    | some e =>
      if !w.timed ∧ (c.st = .armed ∨ c.st = .parked) ∧ m.flight.all (fun f => decide (e < f.tick)) then
        if w.toAct then (m.due e).abortRun id 9 0 e else (m.due e).resume id (nowAnchor e)
      else m
    | none => m
  | none => m

def execWaitTimeout (id : Nat) (m : State) : Out := done (m.waitTimeoutOp id)

/-- RUN_COMPLETE (R158): the final action has ended, every result is read, its engine can hold the packets that are left (R145),
and the arbiter decides COMPLETED. -/
def State.runCompleteOp (m : State) (id : Nat) : State :=
  let c := m.ctx id
  let d := m.lane c.tile c.slot
  let room := c.owed.isEmpty && decide (m.engHeld (c.engKey id) + bit (c.packed != []) < 2)
  if d.step.isNone && d.latch.isEmpty && room then
    match m.runEnd id d.sampledTo with
    | some z => (m.due z).completeRun id z
    | none => m
  else m

def execRunComplete (id : Nat) (m : State) : Out := done (m.runCompleteOp id)

end Sys2Proof.Machine
end

