-- ==== Sys2Proof/Machine/ArcOps.lean ====
section
/-! DEFINITION. The Archive (R242 to R245): bytes, written pages, poison, and what its ECC finds. -/

namespace Sys2Proof.Machine

/-- Bytes of the Archive fitted (R2, R242). -/
def State.arcSize (m : State) : Nat := m.r .dev .devCapArcSize * 0x800000000

/-- The site whose region holds an Archive page, 0 for none (R26, R242). -/
def State.pageSite (m : State) (page : Nat) : Nat :=
  ((List.range 16).map (· + 1)).find? (fun n =>
    decide (m.r .site (.siteArcBase n) ≤ page) &&
    decide (page < m.r .site (.siteArcBase n) + m.r .site (.siteArcPages n))) |>.getD 0

/-- The 8-byte words that [a, a + n) touches. -/
def wordsOf (a n : Nat) : List Nat := if n = 0 then [] else (List.range ((a + n - 1) / 8 - a / 8 + 1)).map (· + a / 8)

/-- Word `w` is found to hold a multi-bit error by `unit` (0 host, 1 sequencer, 2 engine, 3 scrub): the first finding poisons
it, counts and logs (R244). -/
def State.poisonWord (m : State) (w unit : Nat) : State :=
  if m.poison.contains w then m
  else
    let page := w * 8 / 0x200000
    let log := m.cur.ueLog <|> some (page, w * 8 % 0x200000, m.pageSite page, unit)
    let m : State := { m with poison := insertUp w m.poison, cur := { m.cur with ueLog := log } }
    (m.inc .arc .arcUeCnt).flag .arc .arcUe

/-- Bit errors `errs` have come up in the Archive; the ECC finds those that lie in the words that `unit` reads (R244): a single-bit
error is corrected and counted, a multi-bit error poisons its word. The others wait for an access that meets them (log entry 47).
-/
def State.eccAll (m : State) (errs : EccErrs) (unit : Nat) (reads : Nat → Bool) : State :=
  let all := m.latent ++ errs
  (all.filter fun e => reads e.1).foldl (fun m e => if e.2 then m.poisonWord e.1 unit else m.inc .arc .arcCeCnt)
    { m with latent := all.filter fun e => !reads e.1 }

/-- [a, a + n) touches the 8-byte word `w`. -/
def touches (a n w : Nat) : Bool := decide (0 < n) && decide (a / 8 ≤ w) && decide (w * 8 < a + n)

/-- What the ECC finds in an access of `unit` to [a, a + n) (R244). -/
def State.eccAt (m : State) (a n : Nat) (errs : EccErrs) (unit : Nat) : State := m.eccAll errs unit (touches a n)

/-! Bandwidth (R233, R246 to R248). -/

/-- A function's share of an accounting window in bytes (R246, R247): a unit is 10 GB/s, 100,000 bytes in 10 µs; PF0 has none. -/
def State.arcShare (m : State) (fn : Nat) : Nat := if fn = 0 then 0 else 100000 * m.r .site (.siteShare fn)

/-- The bytes that function `fn` may pay off in a window: its share, and the units that the site map gives to no site. -/
def State.arcPays (m : State) (fn : Nat) : Nat :=
  m.arcShare fn + (25600000 - ((List.range 16).map fun n => m.arcShare (n + 1)).sum)

/-- The accounting window of the present tick (R247): where a new one has begun, nothing is used in it but what writes accepted
before still have to move. -/
def State.acctNow (m : State) : Acct :=
  let a := m.cur.acct
  let w := m.pace / 8000 * 8000
  if w ≤ a.win then a
  else
    let paid (x : Nat × Nat) : Nat := ((w - a.win) / 8000 - 1) * m.arcPays x.1
    { win := w, use := a.debt.map fun x => (x.1, min (m.arcPays x.1) (x.2 - paid x)),
      debt := (a.debt.map fun x => (x.1, x.2 - paid x - m.arcPays x.1)).filter fun x => x.2 != 0 }

/-- The bytes that function `fn` has moved in the present window, and those of them beyond its share. -/
def State.arcUsed (m : State) (fn : Nat) : Nat := tabGet 0 m.acctNow.use fn
def State.arcPast (m : State) (fn : Nat) : Nat := m.arcUsed fn - m.arcShare fn

/-- The bytes that function `fn` may move now in the present window (R247; log entry 37): the rest of its share, or, while none
that waits has had less beyond its share, what is unclaimed until all together have moved what the Archive guarantees and what it
gives above that; none while it has still to move bytes that were accepted. -/
def State.arcRoom (m : State) (fn : Nat) : Nat :=
  let a := m.acctNow
  let all := (a.use.map (·.2)).sum
  let own := m.arcShare fn - m.arcUsed fn
  if tabGet 0 a.debt fn ≠ 0 then 0
  else if a.want.any fun x => x != fn && decide (m.arcPast x < m.arcPast fn) then own
  else if all < 25600000 then max own (25600000 - all)
  else max own (25600000 + Config.arcSurplus (a.win / 8000) - all)

/-- Function `fn` has to wait for bandwidth: it has used its share and none that is unclaimed falls to it (R247). -/
def State.shareOut (m : State) (fn : Nat) : Bool := m.arcRoom fn == 0

/-- `n` bytes of the Archive move for function `fn` (R246). -/
def State.useArc (m : State) (fn n : Nat) : State :=
  let a := m.acctNow
  if n = 0 then m
  else { m with cur := { m.cur with acct := { a with use := tabSet a.use fn (tabGet 0 a.use fn + n), want := a.want.erase fn } } }

/-- Function `fn` has a request outstanding that waits for bandwidth (R247). -/
def State.wantArc (m : State) (fn : Nat) : State :=
  let a := m.acctNow
  { m with cur := { m.cur with acct := { a with want := insertUp fn a.want } } }

/-- A write of `n` bytes is accepted for function `fn` and seen by every unit (R249); what of it has no bandwidth in the present
window moves in later ones (R247). -/
def State.postArc (m : State) (fn n : Nat) : State :=
  let k := min n (m.arcRoom fn)
  let m := m.useArc fn k
  if n ≤ k then m
  else { m with cur := { m.cur with acct := { m.acctNow with debt := tabSet m.acctNow.debt fn (tabGet 0 m.acctNow.debt fn + (n - k)) } } }

/-- A read of [a, a + n) meets a poisoned word (R245). -/
def State.poisoned (m : State) (a n : Nat) : Bool := m.poison.any (touches a n)

/-- `n` bytes of the Archive from byte `a`. -/
def State.arcGet (m : State) (a n : Nat) : List Byte := memLoad m.arc a n

/-- The little-endian number in `n` bytes from byte `a`. -/
def State.arcNat (m : State) (a n : Nat) : Nat := leNat (m.arcGet a n)

/-- The 32-bit words in 4 × `n` bytes from byte `a`. -/
def State.arcWords (m : State) (a n : Nat) : List Nat := (List.range n).map fun i => m.arcNat (a + 4 * i) 4

/-- A write of `bs` from byte `a`: the pages that it touches become written, and a word that it covers whole loses its poison and
its errors (R243, R244). -/
def State.arcPut (m : State) (a : Nat) (bs : List Byte) : State :=
  let n := bs.length
  if n = 0 then m
  else
    let pages := (List.range ((a + n - 1) / 0x200000 - a / 0x200000 + 1)).map (· + a / 0x200000)
    let left (w : Nat) : Bool := !(decide (a ≤ w * 8) && decide (w * 8 + 8 ≤ a + n))
    { m with arc := memStore m.arc a bs, written := pages.foldl (fun l p => insertUp p l) m.written,
             poison := m.poison.filter left, latent := m.latent.filter fun e => left e.1 }

/-- A write of [a, a + n) covers a part of the 8-byte word `w`, which it therefore reads (R244). -/
def partWord (a n w : Nat) : Bool := touches a n w && !(decide (a ≤ w * 8) && decide (w * 8 + 8 ≤ a + n))

/-- A write of `unit` whose words at the ends are read-modify-writes, in which the ECC finds what errors lie there (R244). -/
def State.arcWrite (m : State) (unit a : Nat) (bs : List Byte) : State :=
  (m.eccAll [] unit (partWord a bs.length)).arcPut a bs

/-- The written bits of pages [p, p + n) clear: they read as zeros (R243). -/
def State.arcClear (m : State) (p n : Nat) : State :=
  { m with arc := memErase m.arc (p * 0x200000) (n * 0x200000),
           written := m.written.filter fun k => k < p || p + n ≤ k,
           poison := m.poison.filter fun w => w * 8 < p * 0x200000 || (p + n) * 0x200000 ≤ w * 8,
           latent := m.latent.filter fun e => e.1 * 8 < p * 0x200000 || (p + n) * 0x200000 ≤ e.1 * 8 }

/-- A delivery that R289 counts as dropped at consumer `c` of tile `t`, or a strobe ignored under R53 (R301). -/
def State.dropBusy (m : State) (t c : Nat) : State := (m.inc (.bat t) .batDroppedBusy).w (.bat t) .batDropLast c

end Sys2Proof.Machine
end

