-- ==== Sys2Proof/Machine/SeqOps.lean ====
section
/-! DEFINITION. The Stride sequencer's shared operations (R162 to R209): the segment table and its checks, source blocks and
the staging buffer, the path and its prefetch, personality changes, segment entry, lock-in points, boundaries, jump requests and
vector cycles. The exec meanings stand in `Sequencer.lean`. -/

namespace Sys2Proof.Machine

/-! The segment table (R169, R172). -/

/-- A segment-table entry (R169); `ok` says that the fields that no other entry bears on are in range. -/
structure Seg where
  src : Nat
  resident : Bool
  bound : Bool
  fireS : Bool
  fireE : Bool
  act : Nat
  lcnt : Nat
  addr : Nat
  granules : Nat
  reps : Nat
  next : Nat
  jtarget : Nat
  lcount : Nat
  dstep : Nat
  f0 : Nat
  p0 : Nat
  a0 : Nat
  ok : Bool
deriving DecidableEq, Repr

/-- Entry `n` of the table of tile `t`. -/
def State.segOf (m : State) (t n : Nat) : Seg :=
  let w (k : Nat) : Nat := m.segWord t (8 * n + k)
  let w0 := w 0
  let src := bits w0 0 3
  let act := bits w0 8 3
  let gr := bits (w 2) 0 24
  { src := src, resident := w0.testBit 3, bound := w0.testBit 4, fireS := w0.testBit 5, fireE := w0.testBit 6, act := act,
    lcnt := bits w0 11 2, addr := w 1, granules := gr, reps := bits (w 3) 0 24, next := bits (w 4) 0 12,
    jtarget := bits (w 4) 16 12, lcount := bits (w 5) 0 24, dstep := bits (w 6) 0 16, f0 := bits (w 7) 0 10,
    p0 := bits (w 7) 10 10, a0 := bits (w 7) 20 10,
    ok := decide (src ≤ 3) && decide (act ≤ 4) && !w0.testBit 7 && decide (w0 < 8192) && decide (8 ≤ gr) &&
      decide (w 2 < 2 ^ 24) && decide (w 3 < 2 ^ 24) && bits (w 4) 12 4 == 0 && bits (w 4) 28 4 == 0 &&
      decide (w 5 < 2 ^ 24) && (act != 1 || w 5 != 0) &&
      (if src = 2 then decide (1 ≤ w 6) && decide (w 6 < 65536) && decide (w 7 < 2 ^ 30) else w 6 == 0 && w 7 == 0) }

/-- SEQ_CFG.LAST, and the number L of target lanes (R172). -/
def State.seqLastSeg (m : State) (t : Nat) : Nat := m.r (.seq t) .seqLast
def State.seqL (m : State) (t : Nat) : Nat := (m.seqLanes t).length

/-- Bytes of a granule: 64 vectors, or 32 × L words (R198). -/
def granBytes (src l : Nat) : Nat := if src = 1 then 256 else 128 * l

/-- The first byte of the block that an entry names, in the home site's region (R198). -/
def State.blockAt (m : State) (t : Nat) (e : Seg) : Nat := (m.region (m.home t)).1 + e.addr * 64

/-- Entry `n` is valid (R172), but for the indices outside the table. -/
def State.segValid (m : State) (t n : Nat) : Bool :=
  let e := m.segOf t n
  let last := m.seqLastSeg t
  let size := if e.src = 2 then 64 else 64 + e.granules * granBytes e.src (m.seqL t)
  e.ok && decide (e.next ≤ last) && decide (e.jtarget ≤ last) &&
    (e.src == 0 || decide (e.addr * 64 + size ≤ (m.region (m.home t)).2))

/-- The indices at fault under R164 and R172, of entries, FIRST, SEQ_JTGT and PARK_SEG (log entry 18). -/
def State.badSegs (m : State) (t : Nat) : List Nat :=
  let last := m.seqLastSeg t
  let p := Page.seq t
  let park := m.r p .seqParkSeg
  let e := m.segOf t park
  ((List.range (last + 1)).filter fun n => !m.segValid t n) ++
    ((m.r p .seqFirst :: (List.range 4).map fun j => m.r p (.seqJtgt j)).filter fun n => last < n) ++
    (if m.r p .seqPolicy = 2 ∧ (last < park ∨ (e.src ≠ 0 ∧ !e.resident)) then [park] else [])

/-- A landing segment (R200). -/
def State.landing (m : State) (t n : Nat) : Bool :=
  (List.range 4).any (fun j => m.r (.seq t) (.seqJtgt j) == n) ||
  (m.r (.seq t) .seqPolicy == 2 && m.r (.seq t) .seqParkSeg == n) ||
  (List.range (m.seqLastSeg t + 1)).any fun k =>
    let e := m.segOf t k
    (e.act == 1 || e.act == 2 || e.act == 3) && e.jtarget == n

/-- The granules of segment `n` that are resident data (R200). -/
def State.resGranules (m : State) (t n : Nat) : Nat :=
  let e := m.segOf t n
  if e.src = 0 ∨ e.src = 2 then 0 else if e.resident then e.granules else if m.landing t n then 2 else 0

/-- A list padded to 64 bytes (R198, R200). -/
def pad64 (n : Nat) : Nat := (n + 63) / 64 * 64

/-- The list lengths NF, NP and NA in a DDS block's header (R198). -/
def State.ddsLens (m : State) (t : Nat) (e : Seg) : Nat × Nat × Nat :=
  let a := m.blockAt t e
  (m.arcNat (a + 8) 2, m.arcNat (a + 10) 2, m.arcNat (a + 12) 2)

/-- The bytes of a DDS block from its header (R200). -/
def State.ddsBytes (m : State) (t : Nat) (e : Seg) : Nat :=
  let (nf, np, na) := m.ddsLens t e
  64 + pad64 (nf * 8) + pad64 (np * 2) + pad64 (na * 2)

/-- The blocks of the table with the resident bytes of each, a block named by several segments once (R200); `full` sizes DDS
blocks from their headers. -/
def State.resBlocks (m : State) (t : Nat) (full : Bool) : Tab Nat :=
  (List.range (m.seqLastSeg t + 1)).foldl (fun (b : Tab Nat) n =>
    let e := m.segOf t n
    let bytes :=
      if e.src = 0 then 0
      else if e.src = 2 then (if full then m.ddsBytes t e else 64)
      else if e.resident || m.landing t n then 64 + m.resGranules t n * granBytes e.src (m.seqL t)
      else 0
    if bytes = 0 then b else tabSet b e.addr (max bytes (tabGet 0 b e.addr))) []

/-- The resident data in bytes (R200). -/
def State.resBytes (m : State) (t : Nat) (full : Bool) : Nat := ((m.resBlocks t full).map (·.2)).sum

/-- The check that a START fails, 0 for none (R164). -/
def State.seqStartCheck (m : State) (t : Nat) : Nat :=
  let p := Page.seq t
  let segs := (List.range (m.seqLastSeg t + 1)).map (m.segOf t)
  if m.r p .seqState ≠ 0 ∧ m.r p .seqState ≠ 5 then 1
  else if m.r p .pageEn = 0 ∨ m.r p .seqLanes = 0 then 2
  else if m.r p .seqPrime < 2 ∨ m.r p .seqPrime > 1024 ∨ m.r p .seqPolicy > 2 ∨ m.r p .seqDiv < 80 then 9
  else if m.badSegs t ≠ [] then 3
  else if !m.hasDds && segs.any (·.src == 2) then 4
  else if (m.seqLanes t).any (fun s => m.laneOwner t s != m.home t) then 5
  else if m.r .pace .paceRefinOk = 0 then 6
  else if !m.archOn then 7
  else if m.resBytes t false > 0x100000 then 8
  else 0

/-- SEQ_CMD.START (R164, R165). -/
def State.seqStartOp (m : State) (t : Nat) : State :=
  let p := Page.seq t
  match m.seqStartCheck t with
  | 0 =>
    let m := m.ws p ([(.seqOutcome, 0), (.seqReason, 0), (.seqStartRefuse, 0), (.seqRefuseCode, 0), (.seqBadIndex, 0),
                      (.seqState, 1)] ++ (List.range 4).map fun j => (.seqLoop j, 0))
    let q := m.seq t
    let m := m.setSeq t { slipTotal := q.slipTotal, jumpTs := q.jumpTs, endTs := q.endTs }
    { m with locks := m.locks ++ [⟨.seq, t, m.seqLanes t, 0⟩] }
  | c =>
    let m := m.w p .seqStartRefuse c
    if c = 3 then m.w p .seqBadIndex ((m.badSegs t).foldl min 4095) else m

/-! Personalities (R104 to R107, R183 to R186). -/

/-- At boundary `b` a target lane takes the personality of a segment with source `src` (R170, R183 to R186): the refuse code of
a lane that may not, and whether a gap begins. -/
def State.enterPers (m : State) (t s src b : Nat) : State × Option Nat × Bool :=
  let p := Page.lane t s
  let pin := m.sw t s == .pin
  let sel (m : State) (v : Nat) : State := (m.hwLive p [(.lanePersSel, v)]).latch p [.lanePersSel]
  match src with
  | 1 =>
    if pin then (m, none, false)
    else
      let m := if (m.lane t s).dds then m.ddsOff t s else m
      if m.pinMet t s then ((sel m 2).toPinStart t s b, none, true) else (m, some 3, false)
  | 2 =>
    if pin then ((sel m 0).toSmuGo t s b, none, true)
    else if (m.lane t s).dds then (m, none, false)
    else if m.ddsMet t s then (m, none, false) else (m, some 3, false)
  | 3 =>
    if pin then ((sel m 0).toSmuGo t s b, none, true)
    else if (m.lane t s).dds then (sel (m.ddsOff t s) 0, none, false)
    else (m, none, false)
  | _ => (m, none, false)

/-- The personalities of all target lanes at boundary `b`: the first refuse code, and whether a gap begins. -/
def State.enterAll (m : State) (t src b : Nat) : List Nat → State × Option Nat × Bool
  | [] => (m, none, false)
  | s :: l =>
    match m.enterPers t s src b with
    | (m, some c, g) => (m, some c, g)
    | (m, none, g) =>
      let r := m.enterAll t src b l
      (r.1, r.2.1, g || r.2.2)

/-! Timing sets and staged granules (R192, R198 to R201). -/

/-- Timing set `n` keeps the ranges of R192. -/
def State.tsetOk (m : State) (t n : Nat) : Bool :=
  let (per, don, dat, doff, strb) := m.tset t n
  decide (2 ≤ per) && decide (don ≤ dat) && decide (dat < per * 160) && decide (doff < per * 160) && decide (strb < per * 160)

/-- Granule `g` of entry `e` as the Archive gives it: 0, or the abort reason that it carries (R192, R205), and its words. -/
def State.loadGran (m : State) (t : Nat) (e : Seg) (g : Nat) : Nat × List Nat :=
  let nb := granBytes e.src (m.seqL t)
  let a := m.blockAt t e + 64 + g * nb
  let ws := m.arcWords a (nb / 4)
  if m.poisoned a nb then (8, [])
  else if e.src = 1 ∧ ws.any (fun w => !m.tsetOk t (bits w 27 5)) then (7, ws)
  else (0, ws)

/-- A DDS frequency code is within R98 for a DAC period of `div` ticks. -/
def ddsFreqOk (code div : Nat) : Bool :=
  decide (2 ^ 48 * div ≤ code * 80000000000) && decide (code * 800 ≤ 2 ^ 48 * div) && decide (code * 10 ≤ 2 ^ 48)

/-- The lists of a DDS block (R198). -/
def State.ddsListsOf (m : State) (t : Nat) (e : Seg) : List Nat × List Nat × List Nat :=
  let (nf, np, na) := m.ddsLens t e
  let a := m.blockAt t e + 64
  let b := a + pad64 (nf * 8)
  let c := b + pad64 (np * 2)
  ((List.range nf).map fun i => m.arcNat (a + 8 * i) 8, (List.range np).map fun i => m.arcNat (b + 2 * i) 2,
   (List.range na).map fun i => m.arcNat (c + 2 * i) 2)

/-- A block header matches its segment (R199), with the start indices of a DDS segment (R172). -/
def State.headerOk (m : State) (t : Nat) (e : Seg) : Bool :=
  let a := m.blockAt t e
  let gr := m.arcNat (a + 4) 4
  let (nf, np, na) := m.ddsLens t e
  let ln := m.arcNat (a + 14) 1
  m.arcNat a 1 == e.src && m.arcNat (a + 1) 1 == 1 && m.arcNat (a + 2) 2 == 0 && m.arcNat (a + 15) 49 == 0 &&
  (if e.src = 2 then
     gr == 0 && ln == 0 && decide (1 ≤ nf) && decide (nf ≤ 1024) && decide (1 ≤ np) && decide (np ≤ 1024) &&
     decide (1 ≤ na) && decide (na ≤ 1024) && decide (e.addr * 64 + m.ddsBytes t e ≤ (m.region (m.home t)).2) &&
     decide (e.f0 < nf) && decide (e.p0 < np) && decide (e.a0 < na)
   else decide (e.granules ≤ gr) && nf == 0 && np == 0 && na == 0 && ln == (if e.src = 3 then m.seqL t else 0))

/-! The path (R201). -/

/-- What follows an entry whose repetitions are done, on the path that no request changes, and the loop counters then. -/
def succEntry (e : Seg) (loops : List Nat) : Option (Nat × List Nat) :=
  match e.act with
  | 4 => none
  | 1 =>
    let k := loops.getD e.lcnt 0
    let v := (if k = 0 then e.lcount else k) - 1
    some (if v ≠ 0 then e.jtarget else e.next, loops.set e.lcnt v)
  | _ => some (e.next, loops)

/-- The granule after (segment, granule, repetition) on that path. -/
def State.seqSucc (m : State) (t : Nat) (k : Nat × Nat × Nat) (loops : List Nat) : Option ((Nat × Nat × Nat) × List Nat) :=
  let (sg, g, rep) := k
  let e := m.segOf t sg
  if g + 1 < e.granules then some ((sg, g + 1, rep), loops)
  else if e.reps = 0 ∨ rep < e.reps then some ((sg, 0, rep + 1), loops)
  else (succEntry e loops).map fun (n, l) => ((n, 0, 1), l)

/-- The granule comes through the stream ring: it is of a VECTOR or WAVE segment and not resident data. -/
def State.streamed (m : State) (t : Nat) (k : Nat × Nat × Nat) : Bool :=
  let e := m.segOf t k.1
  (e.src == 1 || e.src == 3) && decide (m.resGranules t k.1 ≤ k.2.1)

/-- The search goes on at the start of segment `n` with the loop counters `loops`. -/
def Hunt.enter (h : Hunt) (n : Nat) (loops : List Nat) : Hunt :=
  if h.pow = h.lam then { key := (n, 0, 1), loops := loops, anchor := some (n, loops), pow := 2 * h.pow, lam := 1 }
  else { h with key := (n, 0, 1), loops := loops, lam := h.lam + 1 }

/-- The search for the first streamed granule of the path, through `fuel` entries at most: true where it has found it, false
where the path has none, none where it has still to go on. -/
def State.seqSeek (m : State) (t : Nat) : Nat → Hunt → Option Bool × Hunt
  | 0, h => (none, h)
  | n + 1, h =>
    let k := h.key
    let e := m.segOf t k.1
    if m.streamed t k then (some true, h)
    else if (e.src == 1 || e.src == 3) && !e.resident then m.seqSeek t n { h with key := (k.1, m.resGranules t k.1, k.2.2) }
    else if e.reps = 0 then (some false, h)
    else match succEntry e h.loops with
      | some (s', l) => if h.anchor = some (s', l) then (some false, h) else m.seqSeek t n (h.enter s' l)
      | none => (some false, h)

/-- SEQ_LOOP0 to SEQ_LOOP3. -/
def State.seqLoops (m : State) (t : Nat) : List Nat := (List.range 4).map fun j => m.r (.seq t) (.seqLoop j)

/-- The prefetch starts again at segment `n` (R201). -/
def State.prefetchFrom (m : State) (t n : Nat) : State :=
  let l := m.seqLoops t
  m.modSeq t fun q => { q with ring := [], fetchAt := some { key := (n, 0, 1), loops := l } }

/-- The stream ring has no room for granule `k` (R200): the buffer holds the resident data, the ring, and the granule that plays
where that came through the ring. -/
def State.ringFull (m : State) (t : Nat) (k : Nat × Nat × Nat) : Bool :=
  let q := m.seq t
  let playing := if m.streamed t (m.r (.seq t) .seqSeg, q.gran, q.rep) then 4 * q.cur.length else 0
  let used := (q.ring.map fun g => 4 * g.words.length).sum + playing + m.resBytes t true
  decide (0x200000 < used + granBytes (m.segOf t k.1).src (m.seqL t))

/-- The prefetcher takes the next streamed granule of the path into the ring, if the buffer has room (R200, R201). -/
def State.prefetchOne (m : State) (t : Nat) : State :=
  let q := m.seq t
  match q.fetchAt with
  | none => m
  | some h =>
    match m.seqSeek t 4096 h with
    | (some false, _) => m.setSeq t { q with fetchAt := none }
    | (none, h) => m.setSeq t { q with fetchAt := some h }
    | (some true, h) =>
      let k := h.key
      if m.ringFull t k then m.setSeq t { q with fetchAt := some h }
      else
        let (bad, ws) := m.loadGran t (m.segOf t k.1) k.2.1
        m.setSeq t { q with ring := q.ring ++ [{ seg := k.1, gran := k.2.1, rep := k.2.2, came := m.pace, bad := bad, words := ws }],
                            fetchAt := (m.seqSucc t k h.loops).map fun nx => { key := nx.1, loops := nx.2 } }

/-- The prefetcher takes the next granule as far as the home site's bandwidth allows (R201, R246, R247), with what the ECC finds
in it (R244). -/
def State.fetchFed (m : State) (t : Nat) (errs : EccErrs) : State :=
  match (m.seq t).fetchAt.map (fun h => m.seqSeek t 4096 h) with
  | some (some true, h) =>
    let k := h.key
    let e := m.segOf t k.1
    let n := granBytes e.src (m.seqL t)
    if m.ringFull t k then m.prefetchOne t
    else if m.shareOut (m.home t) then m.wantArc (m.home t)
    else ((m.postArc (m.home t) n).eccAt (m.blockAt t e + 64 + k.2.1 * n) n errs 1).prefetchOne t
  | _ => m.prefetchOne t

/-- Up to `n` granules go into the ring, where the path has them. -/
def State.prefetch (m : State) (t : Nat) : Nat → State
  | 0 => m
  | n + 1 => (m.fetchFed t []).prefetch t n

/-- Of a read of `need` bytes at PRIMING, what the home site's bandwidth allows has moved (R246, R247): whether it is done. -/
def State.primeRead (m : State) (t need : Nat) : State × Bool :=
  let fn := m.home t
  let left := need - (m.seq t).moved
  let k := min left (m.arcRoom fn)
  let m := m.useArc fn k
  if k < left then ((m.modSeq t fun q => { q with moved := q.moved + k }).wantArc fn, false)
  else (m.modSeq t fun q => { q with moved := 0 }, true)

/-- The tick at which granule `k`, which the path needs next, came whole into the stream ring, if it is there (R202, R204). -/
def State.granCame (m : State) (t : Nat) (k : Nat × Nat × Nat) : Option Nat :=
  match (m.seq t).ring with
  | g :: _ => if g.seg = k.1 ∧ g.gran = k.2.1 ∧ g.rep = k.2.2 then some g.came else none
  | [] => none

/-- Granule `k` is wholly in the staging buffer at tick `e`; what comes later changes nothing of a decision made then (R174,
R202). -/
def State.granIn (m : State) (t : Nat) (k : Nat × Nat × Nat) (e : Nat) : Bool :=
  !m.streamed t k || (m.granCame t k).any (· ≤ e)

/-- The words of granule `k` and the abort reason that it carries. -/
def State.granWords (m : State) (t : Nat) (k : Nat × Nat × Nat) : Nat × List Nat :=
  let e := m.segOf t k.1
  if e.src = 0 ∨ e.src = 2 then (0, [])
  else if m.streamed t k then (match (m.seq t).ring with | g :: _ => (g.bad, g.words) | [] => (8, []))
  else tabGet (8, []) (m.seq t).stage (e.addr * 0x1000000 + k.2.1)

/-! Playing (R173 to R177, R202 to R204). -/

/-- An underrun is declared for granule `k` on tick `e` (R202). -/
def State.underrun (m : State) (t : Nat) (k : Nat × Nat × Nat) (e : Nat) : State :=
  let p := Page.seq t
  let m := m.ws p [(.seqUndSeg, k.1), (.seqUndGran, k.2.1), (.seqUndRep, k.2.2)]
  (((m.inc p .seqUndCnt).flag p .seqUnderrun).modSeq t fun q => { q with und := some k, complete := m.granCame t k }).fireProd t 32 e 0

/-- The list values at the present indices act on every target lane (R187, R188). -/
def State.ddsLoad (m : State) (t : Nat) : State :=
  let q := m.seq t
  let e := m.segOf t (m.r (.seq t) .seqSeg)
  let (fs, ps, as) := tabGet ([], [], []) q.ddsLists e.addr
  (m.seqLanes t).foldl (fun m s => m.modLane t s fun d =>
    { d with ddsFreqL := fs.getD q.idxF 0, ddsPhase := ps.getD q.idxP 0, ddsAmpl := as.getD q.idxA 0 }) m

/-- Granule `k` starts on tick `e`: its words, its end, and the ahead check (R173, R202), which for the first granule of a
segment that an end action enters belongs to the lock-in point; a granule that carries an error or an invalid timing set ends
the sequence instead (R192, R205). -/
def State.startGran (m : State) (t e : Nat) (k : Nat × Nat × Nat) : State :=
  let sg := m.segOf t k.1
  let (bad, ws) := m.granWords t k
  if bad ≠ 0 then (if bad = 7 then m.w (.seq t) .seqBadIndex k.1 else m).abortSeq t bad 0 e
  else
    let len := if sg.src = 1 then (ws.map fun w => (m.tset t (bits w 27 5)).1).sum else 32 * m.r (.seq t) .seqDiv
    let ring := if m.streamed t k then (m.seq t).ring.drop 1 else (m.seq t).ring
    let m := m.modSeq t fun q =>
      { q with gran := k.2.1, rep := k.2.2, granStart := e, boundary := e + len, cur := ws, vec := 0, cTick := e, ring := ring,
               next := none, und := none, complete := none, holding := false }
    match m.seqSucc t k (m.seqLoops t) with
    | some (k', _) => if k'.2 = (0, 1) ∨ m.granIn t k' e then m else m.underrun t k' e
    | none => m

/-- Segment `n` starts on tick `e` (R170, R173, R175, R188): the DAC grid of the target lanes restarts, a DDS segment takes
its first list values. -/
def State.startSeg (m : State) (t n e : Nat) : State :=
  let sg := m.segOf t n
  let dds := sg.src == 2
  let fresh := (m.seq t).lastSrc != 2
  let m := if sg.fireS then m.fireProd t 29 e 0 else m
  let m := (m.seqLanes t).foldl (fun m s =>
    let p := Page.lane t s
    let m := m.latch p [.laneDacDiv]
    let m := if dds then (m.hwLive p [(.lanePersSel, 1)]).latch p [.lanePersSel] else m
    m.modLane t s fun d =>
      { d with dacNext := e, dds := d.dds || dds, ddsAcc := if dds && fresh then 0 else d.ddsAcc }) m
  let m := m.modSeq t fun q =>
    { q with gapEnd := none, lastSrc := sg.src, idxF := sg.f0, idxP := sg.p0, idxA := sg.a0,
             listAt := if dds then e + sg.dstep * 32 * m.r (.seq t) .seqDiv else 0 }
  (if dds then m.ddsLoad t else m).startGran t e (n, 0, 1)

/-- Segment `n` is entered at boundary `b` (R176, R183 to R186): a lane that may not change its personality ends the sequence
REFUSED; a gap of 8,800 ticks precedes the start where a lane moves to or from PIN. -/
def State.enterSeg (m : State) (t n b : Nat) : State :=
  let sg := m.segOf t n
  match m.enterAll t sg.src b (m.seqLanes t) with
  | (m, some c, _) => m.abortSeq t 6 c b
  | (m, none, gap) =>
    let m := (m.w (.seq t) .seqSeg n).modSeq t fun q => { q with failRep := q.failNext, failNext := false, rep := 1, gran := 0 }
    if gap then m.modSeq t fun q =>
      { q with gapEnd := some (b + 8800), gapTo := n, next := none, und := none, holding := false, cur := [],
               boundary := b + 8800 + (if sg.src = 1 then 128 else 32 * m.r (.seq t) .seqDiv) }
    else m.startSeg t n b

/-- What the lock-in point decides when no jump request takes the boundary (R176), and the state with its loop counter. -/
def State.endAction (m : State) (t : Nat) (e : Seg) (last : Bool) : State × SeqNext :=
  let q := m.seq t
  if !last then (m, .granule)
  else if e.reps = 0 ∨ q.rep < e.reps then (m, .rep)
  else match e.act with
    | 4 => (m, .finish)
    | 1 =>
      let k := m.r (.seq t) (.seqLoop e.lcnt)
      let v := (if k = 0 then e.lcount else k) - 1
      (m.w (.seq t) (.seqLoop e.lcnt) v, .seg (if v ≠ 0 then e.jtarget else e.next))
    | 2 => (m, .seg (if q.failRep then e.jtarget else e.next))
    | 3 => (m, .seg (if q.failRep then e.next else e.jtarget))
    | _ => (m, .seg e.next)

/-- The granule that a decision starts. -/
def State.nextKey (m : State) (t : Nat) : SeqNext → Option (Nat × Nat × Nat)
  | .granule => let q := m.seq t; some (m.r (.seq t) .seqSeg, q.gran + 1, q.rep)
  | .rep => some (m.r (.seq t) .seqSeg, 0, (m.seq t).rep + 1)
  | .seg n | .jump n _ => some (n, 0, 1)
  | _ => none

/-- The underrun policy acts at the boundary that would start granule `k`, decided at its lock-in point `lk` (R174, R203). -/
def State.policy (m : State) (t lk : Nat) (k : Nat × Nat × Nat) (nx : SeqNext) : State × SeqNext :=
  match m.r (.seq t) .seqPolicy with
  | 0 => (m, .abort 3)
  | 1 => (m, if m.granIn t k lk then nx else .hold)
  | _ => ((m.prefetchFrom t (m.r (.seq t) .seqParkSeg)).modSeq t fun q => { q with und := none }, .park)

/-- The lock-in point of boundary B (R174, R176, R178, R202, R203): all that follows B is decided. Off the path that the prefetcher
follows, its loop counters among it, the prefetch starts again (R201). -/
def State.lockIn (m : State) (t : Nat) : State :=
  let q := m.seq t
  let sg := m.r (.seq t) .seqSeg
  let e := m.segOf t sg
  let last := q.gran + 1 == e.granules
  let lk := q.boundary - 8
  let pred := m.seqSucc t (sg, q.gran, q.rep) (m.seqLoops t)
  let taken := match q.jump with | some j => (e.bound || last) && decide (j.tick < lk) | none => false
  let (m, nx) := match taken, q.jump with
    | true, some j => (m.modSeq t fun q => { q with jump := none }, SeqNext.jump j.target j.late)
    | _, _ => m.endAction t e last
  let (m, nx) := match m.nextKey t nx with
    | none => (m, nx)
    | some k =>
      if q.und = some k then m.policy t lk k nx
      else
        let off := pred != some (k, m.seqLoops t)
        let m := if off then (m.prefetchFrom t k.1).modSeq t fun q => { q with und := none } else m
        if k.2 = (0, 1) ∧ !m.granIn t k lk then (m.underrun t k lk).policy t lk k nx else (m, nx)
  m.modSeq t fun q => { q with next := some nx }

/-- The jump taken at boundary `b` is recorded (R182). -/
def State.recordJump (m : State) (t b : Nat) (late : Bool) : State :=
  let p := Page.seq t
  let q := m.seq t
  let m := m.ws p [(.seqJstatSeg, m.r p .seqSeg), (.seqJstatGran, q.gran), (.seqJstatRep, q.rep), (.seqJstatLate, bit late)]
  (m.flag p .seqJumpTaken).modSeq t fun q => { q with jumpTs := m.stamp b }

/-- What the lock-in point decided takes place on tick `b`, the boundary or the resume tick (R173, R176, R203, R206). Where play
would hold for a granule that has come with an error or an invalid timing set, the sequence ends (R192, R205). -/
def State.seqAdvance (m : State) (t b : Nat) (nx : SeqNext) : State :=
  let q := m.seq t
  let sg := m.r (.seq t) .seqSeg
  let e := m.segOf t sg
  let out (m : State) : State := if e.fireE then m.fireProd t 30 b 0 else m
  let keep (m : State) : State := m.modSeq t fun q => { q with failRep := q.failRep || q.failNext, failNext := false }
  let fresh (m : State) : State := m.modSeq t fun q => { q with failRep := q.failNext, failNext := false }
  let m := match nx with
    | .hold | .abort _ => m
    | _ => if q.und.isSome then m.w (.seq t) .seqSlipLast 0 else m
  match nx with
  | .granule => (keep m).startGran t b (sg, q.gran + 1, q.rep)
  | .rep => (fresh m).startGran t b (sg, 0, q.rep + 1)
  | .seg n => (out m).enterSeg t n b
  | .jump n late => ((out m).recordJump t b late).enterSeg t n b
  | .park => (out m).enterSeg t (m.r (.seq t) .seqParkSeg) b
  | .finish => (out m).seqFinish t 1 0 0 b
  | .abort r => m.abortSeq t r 0 b
  | .hold =>
    let bad := match q.und with | some k => if m.granIn t k b then (m.granWords t k).1 else 0 | none => 0
    if bad ≠ 0 then (if bad = 7 then m.w (.seq t) .seqBadIndex ((q.und.map (·.1)).getD 0) else m).abortSeq t bad 0 b
    else m.modSeq t fun q => { q with holding := true, next := none, cur := [] }

/-- The first boundary B_0 (R168, R183): SEQ_START fires and the first segment is entered. -/
def State.seqBegin (m : State) (t b : Nat) : State :=
  let q := m.seq t
  let m := m.fireProd t 28 b (match q.goHop with | some h => h + 1 | none => 0)
  (m.modSeq t fun q => { q with started := true, next := none }).enterSeg t (m.r (.seq t) .seqFirst) b

/-- Every sample or vector that falls before tick `b` has played, and no target lane is in transition. -/
def State.seqPlayed (m : State) (t b : Nat) : Bool :=
  let e := m.segOf t (m.r (.seq t) .seqSeg)
  let q := m.seq t
  (m.seqLanes t).all fun s =>
    (match m.sw t s with | .toPin | .toSmu => false | _ => true) &&
    (e.src != 3 || decide (b ≤ (m.lane t s).dacNext)) && (e.src != 1 || q.vec == 64)

/-- A boundary (R173): B_0, the start of a segment after its gap, or the end of a granule. -/
def State.boundaryOp (m : State) (t : Nat) (segEnd : Bool) : State :=
  let q := m.seq t
  if m.r (.seq t) .seqState ≠ 4 ∨ q.holding then m
  else if !q.started then
    if segEnd then (if q.noRefin then (m.due q.boundary).abortSeq t 9 0 q.boundary else (m.due q.boundary).seqBegin t q.boundary)
    else m
  else match q.gapEnd with
    | some s =>
      if segEnd && (m.seqLanes t).all (fun k => match m.sw t k with | .toPin | .toSmu => false | _ => true) then
        (m.due s).startSeg t q.gapTo s
      else m
    | none =>
      let last := q.gran + 1 == (m.segOf t (m.r (.seq t) .seqSeg)).granules
      match q.next with
      | some nx =>
        if last == segEnd && m.seqPlayed t q.boundary then
          let m := m.due q.boundary
          if q.noRefin then m.abortSeq t 9 0 q.boundary else m.seqAdvance t q.boundary nx
        else m
      | none => m

/-- The hold cycle of R204: DIV for a WAVE granule, the period of the last vector for a VECTOR granule. -/
def State.holdCycle (m : State) (t : Nat) (k : Nat × Nat × Nat) : Nat :=
  if (m.segOf t k.1).src = 3 then m.r (.seq t) .seqDiv else max (m.seq t).period 2

/-- The slip of an underrun hold for granule `k` that is complete at tick `tc` (R204). -/
def State.holdSlip (m : State) (t : Nat) (k : Nat × Nat × Nat) (tc : Nat) : Nat :=
  let q := m.seq t
  let h := m.holdCycle t k
  if tc + 8 ≤ q.boundary then 0 else ceilDiv (tc + 8 - q.boundary) h * h

/-- Play resumes from an underrun hold (R204); a jump request that landed before the lock-in point of the resumed granule's
start takes that boundary where it is of its type (R178). -/
def State.holdResumeOp (m : State) (t : Nat) : State :=
  let q := m.seq t
  match q.holding, q.und, q.complete with
  | true, some k, some tc =>
    let slip := m.holdSlip t k tc
    let r := q.boundary + slip
    let m := (m.due r).w (.seq t) .seqSlipLast slip
    let m := m.modSeq t fun q => { q with holding := false, und := none, complete := none,
                                          slipTotal := (q.slipTotal + slip) % 2 ^ 48 }
    let typed := (m.segOf t (m.r (.seq t) .seqSeg)).bound || k.2.1 == 0
    if q.noRefin then m.abortSeq t 9 0 r
    else match q.jump.filter fun j => typed && decide (j.tick + 8 < r) with
      | some j => ((m.prefetchFrom t j.target).modSeq t fun q => { q with jump := none }).seqAdvance t r (.jump j.target j.late)
      | none => m.seqAdvance t r (if k.2.1 ≠ 0 then .granule else if k.2.2 ≠ 1 then .rep else .seg k.1)
  | _, _, _ => m

/-! Jump requests (R178 to R180). -/

/-- The lock-in point of the next boundary has come (R174, R182); in a hold, that of the resumed granule's start, known once the
granule is complete (R204). -/
def State.lockPassed (m : State) (t : Nat) : Bool :=
  let q := m.seq t
  if q.holding || (q.next == some .hold && decide (q.boundary ≤ m.pace)) then
    match q.und, q.complete with
    | some k, some tc => decide (q.boundary + m.holdSlip t k tc ≤ m.pace + 8)
    | _, _ => false
  else decide (q.boundary ≤ m.pace + 8)

/-- A request for segment `n` lands while the sequence is RUNNING: it takes the place of one that is pending, and is late where
the lock-in point of the boundary of the segment's BOUND type has passed. -/
def State.jumpRequest (m : State) (t n : Nat) : State :=
  let q := m.seq t
  let e := m.segOf t (m.r (.seq t) .seqSeg)
  let typed := e.bound || q.gran + 1 == e.granules
  let late := q.started && typed && m.lockPassed t
  let m := if q.jump.isSome then m.inc (.seq t) .seqJreplCnt else m
  m.modSeq t fun q => { q with jump := some { target := n, tick := m.pace, late := late } }

/-- A host request for segment `n` is refused: it lies above LAST or is neither RESIDENT nor a landing segment (R180). -/
def State.jumpRefused (m : State) (t n : Nat) : Bool :=
  m.r (.seq t) .seqState == 4 && (decide (m.seqLastSeg t < n) || (!(m.segOf t n).resident && !m.landing t n))

/-- A delivery on SEQ_JREQj (R178, R180); the request stands in SEQ_JUMP (log entry 19). -/
def State.seqJreqOp (m : State) (t j : Nat) : State :=
  if m.r (.seq t) .seqState ≠ 4 then m.inc (.seq t) .seqJreplCnt
  else
    let n := m.r (.seq t) (.seqJtgt j)
    (m.hwLive (.seq t) [(.seqJumpTarget, n)]).jumpRequest t n

/-- A delivery on SEQ_GO (R168, R289). -/
def State.seqGoOp (m : State) (t e h : Nat) : State :=
  if m.r (.seq t) .seqState = 3 then
    (m.w (.seq t) .seqState 4).modSeq t fun q => { q with boundary := e + 16, goHop := some h }
  else m.dropBusy t 18

/-- A delivery on SEQ_ABORT (R207, R289). -/
def State.seqAbortIn (m : State) (t e h : Nat) : State :=
  if m.r (.seq t) .seqState = 0 then m.dropBusy t 19 else m.abortSeq t 2 0 e (h + 1)

/-! Vector cycles (R191 to R196). -/

/-- The compare of a state code at pin voltage `uv` (R102, R194): whether it passes, for a code that compares. -/
def State.cmpCode (m : State) (t s code : Nat) (uv : Int) : Option Bool :=
  let hi := sext 16 (m.l (.lane t s) .lanePinCmpHi) * 500
  let lo := sext 16 (m.l (.lane t s) .lanePinCmpLo) * 500
  match code with
  | 2 => some (decide (uv < lo))
  | 3 => some (decide (hi < uv))
  | 4 => some (decide (lo ≤ uv) && decide (uv ≤ hi))
  | _ => none

/-- One target lane in one vector cycle: the state, the slot's fail and strobe. -/
def State.vectorLane (m : State) (t s w c : Nat) (uv : Int) : State × Bool × Bool :=
  let d := m.lane t s
  if m.sw t s ≠ .pin then (m, false, false)
  else
    let code := d.drv.code s w
    let (v, n) := m.drvVector t s w c
    let (_, _, _, _, strb) := m.tset t (bits w 27 5)
    let at_ : Int := (c * 160 + strb : Nat) - ((m.corrOf t s).map fun k => k.deskew 3).getD 0
    let m := m.setLane t s { d with drv := { v with strobeFired := at_ } }
    let m := if n = 0 then m else (m.incBy (.seq t) .seqMergeCnt n).flag (.seq t) .seqEdgeMerge
    match m.cmpCode t s code uv with
    | some ok => (if ok then m else m.inc (.seq t) (.seqLfail s), !ok, true)
    | none => (m, false, false)

/-- The tick of the strobe of the next vector cycle (R191, R192), and its offset in units of 7.8125 ps. -/
def State.strobeAt (m : State) (t : Nat) : Nat × Nat :=
  let q := m.seq t
  let strb := m.r (.seq t) (.seqTsStrb (bits (q.cur.getD q.vec 0) 27 5))
  (q.cTick + strb / 160, strb % 160)

/-- All target lanes in one vector cycle: fail and strobe masks. -/
def State.vectorLanes (m : State) (t w c : Nat) (pins : List Int) : List Nat → State × Nat × Nat
  | [] => (m, 0, 0)
  | s :: l =>
    let (m, f, k) := m.vectorLane t s w c (pins.getD s 0)
    let (m, fs, ks) := m.vectorLanes t w c pins l
    (m, fs + bit f * 2 ^ s, ks + bit k * 2 ^ s)

/-- The compare results of a cycle whose strobe falls on tick `e`, `sub` units of 7.8125 ps after it (R196): a strobe after the
lock-in point, by its fine offset too, counts for what follows. -/
def State.seqFails (m : State) (t e sub fail : Nat) : State :=
  if fail = 0 then m
  else
    let q := m.seq t
    let idx := q.gran * 64 + q.vec
    let late := decide (q.boundary < e + 8) || (q.boundary == e + 8 && decide (0 < sub))
    let m := ((m.flag (.seq t) .seqFail).fireProd t 31 (e + 1) 0)
    m.modSeq t fun q =>
      { q with failRep := q.failRep || !late, failNext := q.failNext || late,
               firstFail := q.firstFail <|> some (m.r (.seq t) .seqSeg, q.rep, idx, fail, m.stamp e (sub * 4 / 5)) }

end Sys2Proof.Machine
end

