-- ==== Sys2Proof/Machine/AcqOps.lean ====
section
/-! DEFINITION. The acquisition unit's shared operations (R210 to R241): arming, frames and decimation, triggers, records and
their commit. The exec meanings stand in `Acquisition.lean`. -/

namespace Sys2Proof.Machine

/-- The granule in frames (R210), the frame period of ANALOG frames (R212), LEN and PRE. -/
def State.acqG (m : State) (t : Nat) : Nat := if m.r (.acq t) .acqSrc = 1 then 64 else 32
def State.acqPeriod (m : State) (t : Nat) : Nat := 50 * 2 ^ m.r (.acq t) .acqAvg
def State.acqLen (m : State) (t : Nat) : Nat := m.r (.acq t) .acqLenm1 + 1
def State.acqPreN (m : State) (t : Nat) : Nat := m.r (.acq t) .acqPre

/-- The source slots. -/
def State.acqSlots (m : State) (t : Nat) : List Nat := setBits (m.r (.acq t) .acqLanes) 9

/-- NREC: 0 means 16,777,216 (R210). -/
def State.acqRecs (m : State) (t : Nat) : Nat := let n := m.r (.acq t) .acqNrec; if n = 0 then 16777216 else n

/-! Arming (R216, R217, R226). -/

/-- The check that an ARM fails, 0 for none (R216); SLOT binds a LEVEL trigger (log entry 21). -/
def State.acqArmCheck (m : State) (t : Nat) : Nat :=
  let p := Page.acq t
  let src := m.r p .acqSrc
  let lanes := m.r p .acqLanes
  let len := m.acqLen t
  let pre := m.acqPreN t
  let g := m.acqG t
  let trig := m.r p .acqTrigSrc
  let reg := m.region (m.home t)
  let dest := m.r p .acqDestPages * 0x200000
  if m.r p .acqState ≠ 0 ∧ m.r p .acqState ≠ 6 then 1
  else if m.r p .pageEn = 0 ∨ lanes = 0 then 2
  else if (m.acqSlots t).any (fun s => m.laneOwner t s != m.home t) then 3
  else if len < 64 ∨ len % g ≠ 0 ∨ pre % g ≠ 0 ∨ pre + g > len ∨ m.r p .acqPair &&& lanes ≠ m.r p .acqPair ∨
      m.r p .acqAvg > 16 ∨ m.r p .acqRrThresh = 0 ∨ m.r p .acqRrMax > 5 then 4
  else if m.r p .acqTrigSlope = 3 ∨ m.r p .acqRole = 3 ∨ (trig = 2 ∧ (src ≠ 0 ∨ !lanes.testBit (m.r p .acqTrigSlot))) ∨
      (trig = 3 ∧ src ≠ 1) then 5
  else if (pre + if src = 1 then 128 else 6) * m.acqFb t > 131072 then 6
  else if dest = 0 ∨ m.r p .acqDestBase * 64 + dest > reg.2 ∨ m.acqSlotBytes t > dest ∨
      (m.r p .acqWrap = 0 ∧ m.acqRecs t * m.acqSlotBytes t > dest) then 7
  else if !m.archOn then 8
  else 0

/-- The unit is ready from tick `e` (R217, R218, R220): FILLING, or ARMED where no pre-trigger frame is wanted. -/
def State.acqReady (m : State) (t e : Nat) : State :=
  let p := Page.acq t
  let m := m.ws p [(.acqState, if m.acqPreN t = 0 then 3 else 2), (.acqUnresolved, bit (m.r p .acqTrigSrc == 2))]
  let per := m.acqPeriod t
  m.modAcq t fun a => { a with ready := e, frameT := ceilMul per e, ring := [], accs := [], cap := none, level := none,
                               resolved := 0, fired := false, servAt := e, thr := 0 }

/-- ACQ_CMD.ARM (R216, R217, R226). -/
def State.acqArmOp (m : State) (t : Nat) : State :=
  let p := Page.acq t
  match m.acqArmCheck t with
  | 0 =>
    let role := m.r p .acqRole
    let m := m.ws p [(.acqCommitted, 0), (.acqOutcome, 0), (.acqReason, 0), (.acqArmRefuse, 0), (.acqRecords, 0), (.acqState, 1)]
    let m := m.setAcq t { waiting := (m.acq t).waiting.map fun w => { w with old := true }, endTs := (m.acq t).endTs }
    if role = 0 then m.acqReady t (m.pace + 1)
    else if role = 1 then m.fireProd t 34 (m.pace + 1) 0 else m
  | c => m.w p .acqArmRefuse c

/-- A delivery on ACQ_ARM_IN on tick `e` (R217, R226, R289). -/
def State.acqArmInOp (m : State) (t e : Nat) : State :=
  if m.r (.acq t) .acqState = 1 then m.acqReady t e else m.dropBusy t 24

/-! Marker words and decimation (R235, R236). -/

/-- A VOID marker word. -/
def voidWord : Nat := 7 * 2 ^ 29 + 2 * 2 ^ 26

/-- A word is a marker word: bits [31:29] all ones. -/
def isMarker (w : Nat) : Bool := w / 2 ^ 29 == 7

/-- The word that replaces the words `ws` of one position: the mean of those that are not VOID, with their flags. -/
def meanWord (ws : List Nat) : Nat :=
  let vs := ws.filter fun w => !isMarker w
  match vs with
  | [] => voidWord
  | w :: _ =>
    let code := roundFree ((vs.map (sext 24)).foldl (· + ·) 0) vs.length
    enc 24 code + 2 ^ 24 * (vs.foldl (fun a w => a ||| bits w 24 4) 0) + 2 ^ 28 * bit (w.testBit 28)

/-- F frames become one (R235). -/
def combine (compare : Bool) (fs : List Frame) : Frame :=
  match fs with
  | [] => {}
  | [f] => f
  | f :: _ =>
    let ends := (fs.getLast?.map (·.endT)).getD f.endT
    let words :=
      if compare then [fs.foldl (fun a g => a ||| (g.words.getD 0 0 % 2 ^ 18)) 0 + f.words.getD 0 0 / 2 ^ 18 * 2 ^ 18]
      else (List.range f.words.length).map fun i => meanWord (fs.map fun g => g.words.getD i voidWord)
    { tick := f.tick, endT := ends, words := words, noRefin := fs.any (·.noRefin) }

/-- The RATE marker frame before granule `g` at factor 2^`lf` (R236). -/
def rateMarker (compare : Bool) (n lf g : Nat) (e : Nat) : Frame :=
  if compare then { tick := e, words := [2 ^ 31 + 2 ^ 20 + lf * 2 ^ 24, g % 2 ^ 32], marker := true }
  else { tick := e, words := List.replicate n (7 * 2 ^ 29 + 2 ^ 26 + lf * 2 ^ 23 + g % 2 ^ 23), marker := true }

/-! Capture (R217, R221, R222, R234, R235, R237). -/

/-! The write port (R233, R248). -/

/-- The bytes of a record that the port has yet to carry, and what is left of them after `k` bytes. -/
def Outgo.total (o : Outgo) : Nat := o.pre + o.buf + o.head
def Outgo.take (o : Outgo) (k : Nat) : Outgo := ⟨o.pre - k, o.buf - (k - o.pre), o.head - (k - (o.pre + o.buf))⟩

/-- What the port has yet to carry, record by record in their order. -/
def AcqDyn.outs (a : AcqDyn) : List Outgo := a.waiting.map (·.out) ++ (a.cap.map (·.out)).toList

/-- The stream part of the buffer holds so many bytes (R234); so many wait for the port in all. -/
def AcqDyn.fill (a : AcqDyn) : Nat := (a.outs.map (·.buf)).sum
def AcqDyn.owed (a : AcqDyn) : Nat := (a.outs.map (·.total)).sum

/-- The records that wait after the port has carried `k` bytes, and how many of these are left for the record in capture. -/
def takeWaiting : Nat → List WaitRec → List WaitRec × Nat
  | k, [] => ([], k)
  | k, w :: l =>
    let r := takeWaiting (k - w.out.total) l
    ({ w with out := w.out.take k } :: r.1, r.2)

/-- The port has carried `k` bytes. -/
def AcqDyn.carried (a : AcqDyn) (k : Nat) : AcqDyn :=
  let r := takeWaiting k a.waiting
  { a with waiting := r.1, cap := a.cap.map fun c => { c with out := c.out.take r.2 } }

/-- The first post-trigger frame comes: the record keeps its last PRE frames of `fb` bytes before it (R221, R222). -/
def Rec.open_ (c : Rec) (preN fb : Nat) : Rec :=
  if c.opened then c
  else
    let fs := c.frames.drop (c.frames.length - preN)
    { c with opened := true, frames := fs, pre := fs.length, mark := fs.length, out := { c.out with pre := fs.length * fb } }

/-- A frame of `fb` bytes enters the stream part of the buffer. -/
def Rec.push (c : Rec) (f : Frame) (fb : Nat) : Rec :=
  { c with frames := c.frames ++ [f], out := { c.out with buf := c.out.buf + fb } }

/-- The post-trigger frame `f` is the next of the record in capture (R234, R235, R237): a rate reduction decided for this
boundary counts and takes place with its marker frame, the frames of a decimation are gathered, and a full stream buffer cuts the
record at the last granule boundary, behind the marker that stands there. -/
def State.capturePost (m : State) (t : Nat) (f : Frame) : State :=
  match (m.acq t).cap with
  | none => m
  | some c =>
    let cmp := m.r (.acq t) .acqSrc == 1
    let g := m.acqG t
    let fb := m.acqFb t
    let c := c.open_ (m.acqPreN t) fb
    let c := { c with winEnd := f.endT, seen := c.seen + 1 }
    let m := m.modAcq t fun a => { a with cap := some c }
    if c.overflow then m
    else
      let full := decide (393216 < (m.acq t).fill + fb)
      let bnd := (c.seen - 1) % g = 0
      let gran := ceilDiv c.pre g + (c.seen - 1) / g
      let cut := fun (m : State) (c : Rec) => (m.inc (.acq t) .acqOvfCnt).modAcq t fun a =>
        { a with cap := some { c with overflow := true, rr := 0, group := [], frames := c.frames.take c.mark } }
      let c := if bnd then { c with mark := c.frames.length } else c
      let red := bnd ∧ c.rr ≠ 0
      let m := if red then m.inc (.acq t) .acqRrCnt else m
      if red ∧ full then cut m c
      else
        let c := if red then
            { c.push (rateMarker cmp (fb / 4) (c.factor + 1) gran f.tick) fb with
              rr := 0, cause := c.cause ||| c.rr, factor := c.factor + 1, mark := c.frames.length + 1 } else c
        let m := m.modAcq t fun a => { a with cap := some c }
        let grp := c.group ++ [f]
        if grp.length < 2 ^ c.factor then m.modAcq t fun a => { a with cap := some { c with group := grp } }
        else if 393216 < (m.acq t).fill + fb then cut m c
        else m.modAcq t fun a => { a with cap := some { c.push (combine cmp grp) fb with group := [] } }

/-- Frame `f` is captured (R217, R218, R221): into the pre-trigger ring, or into the record in capture, before its first
post-trigger frame where its tick precedes the trigger. -/
def State.captureFrame (m : State) (t : Nat) (f : Frame) : State :=
  let p := Page.acq t
  match (m.acq t).cap with
  | none =>
    let keep := m.acqPreN t + (if m.r p .acqSrc = 1 then 128 else 6)
    let m := m.modAcq t fun a => let r := a.ring ++ [f]; { a with ring := r.drop (r.length - keep) }
    if m.r p .acqState = 2 ∧ m.acqPreN t ≤ (m.acq t).ring.length then m.w p .acqState 3 else m
  | some c =>
    if c.opened ∧ m.acqLen t - m.acqPreN t ≤ c.seen then m
    else if f.tick < c.trig then m.modAcq t fun a => { a with cap := some { c with frames := c.frames ++ [f] } }
    else m.capturePost t f

/-! Triggers (R219 to R225, R241). -/

/-- A trigger is ignored and counted (R223). -/
def State.acqMissed (m : State) (t : Nat) : State :=
  (m.inc (.acq t) .acqMissedCnt).modAcq t fun a => { a with missed := a.missed + 1 }

/-- A byte offset of the home site's region in the Archive, and record `n`'s slot (R228). -/
def State.recSlot (m : State) (t n : Nat) : Nat :=
  let p := Page.acq t
  let k := m.r p .acqDestPages * 0x200000 / m.acqSlotBytes t
  (m.region (m.home t)).1 + m.r p .acqDestBase * 64 + n % max k 1 * m.acqSlotBytes t

/-- A trigger delivered on tick `e` is missed, unless another trigger delivery fell on that tick: two make one trigger (R223). -/
def State.deliveryMissed (m : State) (t e : Nat) : State := if (m.acq t).trigAt = e + 1 then m else m.acqMissed t

/-- A trigger is delivered on tick `e`. -/
def State.noteTrig (m : State) (t e : Nat) : State := m.modAcq t fun a => { a with trigAt := e + 1 }

/-- A record opens at trigger tick `trig`, known on tick `e`, `firer` where the unit's own condition fired the group (R217,
R221, R223, R225, R231, R241): the slot's TYPE byte becomes 0 (R232), a read-modify-write of its word (R244); frames already
captured from the trigger tick on are its first post-trigger frames. A LEVEL condition that no frame has resolved stays so (R220).
-/
def State.openRecord (m : State) (t e trig sub source h : Nat) (frac : Nat := 0) (firer : Bool := false) : State :=
  let a := m.acq t
  let p := Page.acq t
  if trig < a.ready then m.acqMissed t
  else
    let pre := a.ring.filter fun f => decide (f.tick < trig)
    let post := a.ring.filter fun f => decide (trig ≤ f.tick)
    let c : Rec := { n := a.recN, trig := trig, sub := sub, source := source, firer := firer, frames := pre,
                     frac := frac, missed := if a.recN = 0 then 0 else a.missed,
                     dead := match a.prevTrig with | some q => a.ready - q | none => 0 }
    let m := m.w p .acqState 4
    let m := m.setAcq t { a with cap := some c, ring := [], prevTrig := some trig, missed := 0, fired := false }
    let m := if m.archOn then (m.postArc (m.home t) 1).arcWrite Config.acqUnit (m.recSlot t c.n) [0] else m
    let m := m.fireProd t 36 e h
    post.foldl (fun m f => m.captureFrame t f) m

/-- A trigger condition of the unit's own source (R219, R223, R225): `e` the open tick, `c` the tick of the condition. A SOLO unit
opens a record; a group member fires ACQ_FIRE_OUT. -/
def State.acqTrigger (m : State) (t e c trig sub source h : Nat) (frac : Nat := 0) : State :=
  let st := m.r (.acq t) .acqState
  if st = 4 ∨ st = 5 then m.acqMissed t
  else if st = 2 ∨ st = 3 then
    if m.r (.acq t) .acqRole = 0 then m.openRecord t e trig sub source h frac
    else (m.fireProd t 35 (c + 1) h false [t]).modAcq t fun a => { a with fired := true }
  else m

/-- ACQ_CMD.TRIG (R219): acts with the SOFT source. -/
def State.acqSoftTrig (m : State) (t : Nat) : State :=
  if m.r (.acq t) .acqTrigSrc = 0 then m.acqTrigger t (m.pace + 1) m.pace (m.pace + 1) 0 0 0 else m

/-- A delivery on ACQ_TRIG_IN on tick `e` (R219, R223, R289): in CAPTURE and REARM it is missed whatever the unit's source. -/
def State.acqTrigInOp (m : State) (t e h : Nat) : State :=
  let st := m.r (.acq t) .acqState
  if st = 0 ∨ st = 1 ∨ st = 6 then m.dropBusy t 26
  else if st = 4 ∨ st = 5 then (m.deliveryMissed t e).noteTrig t e
  else if m.r (.acq t) .acqTrigSrc = 1 then (m.noteTrig t e).acqTrigger t e e (e - m.r (.acq t) .acqTrigLat) 0 1 (h + 1) else m

/-- A delivery on ACQ_FIRE_IN on tick `e`, `own` where it carries the unit's own fire (R223, R225, R227, R289); a SOLO unit
opens nothing by it. -/
def State.acqFireInOp (m : State) (t e h : Nat) (own : Bool) : State :=
  let st := m.r (.acq t) .acqState
  if st = 0 ∨ st = 1 ∨ st = 6 then m.dropBusy t 25
  else if st = 4 ∨ st = 5 then (m.deliveryMissed t e).noteTrig t e
  else if m.r (.acq t) .acqRole = 0 then m
  else (m.noteTrig t e).openRecord t e (e - m.r (.acq t) .acqTrigLat) 0 15 (h + 1) 0 own

/-- The LEVEL condition judges the word of a captured frame that ends on tick `e` (R220): a crossing uses up its own starting
side, and the crossing frame may itself lie beyond the band on the other. -/
def State.acqLevel (m : State) (t e w : Nat) : State :=
  let p := Page.acq t
  let a := m.acq t
  if m.r p .acqTrigSrc ≠ 2 ∨ isMarker w ∨ w.testBit 24 ∨ w.testBit 25 then m
  else
    let code := sext 24 w
    let lv := sext 24 (m.r p .acqTrigLevel)
    let hy := sext 24 (m.r p .acqTrigHyst)
    let slope := m.r p .acqTrigSlope
    let up := slope != 1
    let dn := slope != 0
    let hitUp := up && a.resolved.testBit 0 && decide (lv ≤ code)
    let hitDn := dn && a.resolved.testBit 1 && decide (code ≤ lv)
    let res0 := up && (decide (code < lv - hy) || (a.resolved.testBit 0 && !hitUp))
    let res1 := dn && (decide (lv + hy < code) || (a.resolved.testBit 1 && !hitDn))
    let hit := hitUp || hitDn
    let frac := match a.level with
      | some old => enc 16 (if code = old then 0 else Int.fdiv ((code - lv) * 65536) (code - old))
      | none => 0
    let m := m.setAcq t { a with level := some code, resolved := bit res0 + 2 * bit res1 }
    let m := if res0 || res1 then m.w p .acqUnresolved 0 else m
    if hit then m.acqTrigger t (e + 4) (e + 4) e 0 2 0 frac else m

/-! ANALOG frames (R211 to R213). -/

/-- An ADC sample of slot `s` on tick `e` enters the frame in progress (R213, R25). -/
def State.acqSample (m : State) (t s : Nat) (isI : Bool) (raw : Int) (fs : Nat) (ranging compl stale : Bool) (e : Nat) : State :=
  let st := m.r (.acq t) .acqState
  let a := m.acq t
  if (st = 2 ∨ st = 3 ∨ st = 4 ∨ st = 5) ∧ m.r (.acq t) .acqSrc = 0 ∧ a.frameT ≤ e ∧ (m.r (.acq t) .acqLanes).testBit s then
    let (v, i, first) := tabGet (({} : SampleAcc), ({} : SampleAcc), (none : Option Bool)) a.accs s
    let x := if isI then (v, i.add raw fs ranging compl stale, first <|> some isI)
             else (v.add raw fs ranging compl stale, i, first <|> some isI)
    m.setAcq t { a with accs := tabSet a.accs s x }
  else m

/-- The words of the frame in progress (R211, R213). -/
def State.frameWords (m : State) (t : Nat) : List Nat :=
  let a := m.acq t
  let pair := m.r (.acq t) .acqPair
  let word (x : SampleAcc) (isI : Bool) : Nat := if x.n = 0 then voidWord else frameWord x isI
  (m.acqSlots t).foldl (fun l s =>
    let (v, i, first) := tabGet (({} : SampleAcc), ({} : SampleAcc), (none : Option Bool)) a.accs s
    l ++ (if pair.testBit s then [word v false, word i true]
          else match first with
            | some true => [word i true]
            | some false => [word v false]
            | none => [voidWord])) []

/-- The place of slot `s`'s first word in a frame. -/
def State.frameIndex (m : State) (t s : Nat) : Nat :=
  ones (m.r (.acq t) .acqLanes) s + ones (m.r (.acq t) .acqPair) s

/-- The bytes, up to `n`, that the Archive has accepted from the unit by tick `e` since it was last looked at: no more than waited
for the port, than the port carries, 5 bytes in 2 ticks (R248), and than the bandwidth that falls to the home site (R247). -/
def State.accepts (m : State) (t n e : Nat) : Nat :=
  min n (min (m.acq t).owed (min (5 * (e - (m.acq t).servAt) / 2) (m.arcRoom (m.home t))))

/-- By tick `e` the Archive has accepted up to `n` bytes of the records, in their order. Data that was ready and not accepted
throttled the path, by PORT where the port carried its limit, by SHARE where the home site has no bandwidth left (R233; log entry
37). -/
def State.drain (m : State) (t n e : Nat) : State :=
  let a := m.acq t
  let fn := m.home t
  let lim := 5 * (e - a.servAt) / 2
  let k := m.accepts t n e
  let m := m.useArc fn k
  let m := if k < a.owed ∧ m.shareOut fn then m.wantArc fn else m
  let thr := if a.owed ≤ k then 0 else if k = lim then 2 * bit (decide (0 < lim)) else bit (m.shareOut fn)
  m.modAcq t fun a => { a.carried k with servAt := max e a.servAt, thr := a.thr ||| thr }

/-- Every sample before tick `e` of the source lanes that sample has been taken. -/
def State.samplesTo (m : State) (t e : Nat) : Bool :=
  (m.acqSlots t).all fun s => match (m.lane t s).adcLast with | some l => decide (e ≤ l + 50) | none => true

/-- The end of an ANALOG frame (R212, R213, R217, R220); in REARM it is only judged for a LEVEL condition, which counts as missed
(R223). -/
def State.acqFrameOp (m : State) (t drained : Nat) : State :=
  let p := Page.acq t
  let st := m.r p .acqState
  let a := m.acq t
  let e := a.frameT + m.acqPeriod t
  if m.r p .acqSrc ≠ 0 ∨ !(st == 2 || st == 3 || st == 4 || st == 5) ∨ !m.samplesTo t e then m
  else
    let m := (m.due e).drain t drained e
    let ws := m.frameWords t
    let f : Frame := { tick := a.frameT, endT := e, words := ws, noRefin := m.r .pace .paceRefinOk == 0 }
    let m := m.modAcq t fun a => { a with frameT := e, accs := [] }
    (if st = 5 then m else m.captureFrame t f).acqLevel t e (ws.getD (m.frameIndex t (m.r p .acqTrigSlot)) voidWord)

/-- A COMPARE frame of the vector cycle [c, c + per): fail and strobe masks, timing set, and the strobe edge's tick and
sub-tick (R214, R219). -/
def State.compareFrame (m : State) (t c per ts fail strobed e sub drained : Nat) : State :=
  let p := Page.acq t
  let st := m.r p .acqState
  if m.r p .acqSrc ≠ 1 ∨ st = 0 ∨ st = 1 ∨ st = 6 then m
  else
    let lanes := m.r p .acqLanes
    let fl := fail &&& lanes
    let live := (st == 2 || st == 3 || st == 4) && decide ((m.acq t).ready ≤ c)
    let f : Frame := { tick := c, endT := c + per, words := [fl + (strobed &&& lanes) * 2 ^ 9 + ts * 2 ^ 18],
                       noRefin := m.r .pace .paceRefinOk == 0 }
    let m := m.drain t drained e
    let m := if live then m.captureFrame t f else m
    if fl ≠ 0 ∧ m.r p .acqTrigSrc = 3 then m.acqTrigger t (e + 1) e e sub 3 0 else m

/-! Rate reduction (R233, R234). -/

/-- The start ticks of the vector cycles that come, as far as the sequencer's words are decided (R191). -/
def State.cycleStarts (m : State) (t : Nat) : List Nat :=
  let q := m.seq t
  let sg := m.r (.seq t) .seqSeg
  if m.r (.seq t) .seqState ≠ 4 ∨ !q.started ∨ q.holding ∨ q.gapEnd.isSome ∨ (m.segOf t sg).src ≠ 1 then []
  else
    let more := match q.next.bind (m.nextKey t) with
      | some k => if (m.segOf t k.1).src = 1 then (m.granWords t k).2 else []
      | none => []
    ((q.cur.drop q.vec ++ more).foldl (fun (l : List Nat × Nat) w =>
      (l.2 :: l.1, l.2 + m.r (.seq t) (.seqTsPer (bits w 27 5)))) ([], q.cTick)).1.reverse

/-- The frame that starts at tick `z`, `j` frames after the last one that ended, is the first of a granule of the record (R234):
granules count from the first post-trigger frame. -/
def State.granuleStart (m : State) (t : Nat) (c : Rec) (z j : Nat) : Bool :=
  if c.opened then (c.seen + j) % m.acqG t == 0 && decide (c.seen + j < m.acqLen t - m.acqPreN t) else decide (c.trig ≤ z)

/-- The next granule boundary of the record in capture whose lock-in point has not come. -/
def State.nextGranule (m : State) (t : Nat) (c : Rec) : Option Nat :=
  let at' (x : Nat × Nat) : Bool := m.granuleStart t c x.1 x.2 && decide (c.judged < x.1)
  if m.r (.acq t) .acqSrc = 1 then ((m.cycleStarts t).zipIdx.find? at').map (·.1)
  else
    let z := (m.acq t).frameT + m.acqPeriod t
    let g := if c.opened then m.granuleStart t c z 1 else decide ((m.acq t).frameT < c.trig) && decide (c.trig ≤ z)
    if g && decide (c.judged < z) then some z else none

/-- The check at the lock-in point, 8 ticks before a granule boundary of the record in capture (R234): a buffer filled beyond
THRESH and a path throttled since the previous check double the factor from the boundary on, and ACQ_RATE fires at it (R288).
`drained` is as in a frame. -/
def State.rateCheck (m : State) (t drained : Nat) : State :=
  let p := Page.acq t
  match (m.acq t).cap.bind fun c => (m.nextGranule t c).map fun z => (c, z) with
  | some (c, z) =>
    let early := m.r p .acqSrc == 1 && decide ((m.strobeAt t).1 + 8 < z) && decide ((m.seq t).vec < 64)
    if m.r p .acqState ≠ 4 ∨ early then m
    else
      let m := (m.due (z - 8)).drain t drained (z - 8)
      let a := m.acq t
      let go := m.r p .acqRrMode = 0 ∧ c.factor < m.r p .acqRrMax ∧ a.thr ≠ 0 ∧ !c.overflow ∧ m.r p .acqRrThresh * 24576 < a.fill
      let m := if go then m.fireProd t 38 z 0 else m
      m.modAcq t fun a => { a with thr := 0, cap := a.cap.map fun c => { c with judged := z, rr := if go then a.thr else 0 } }
  | none => m

/-! Records (R217, R229 to R232, R238 to R240). -/

/-- The bytes of a frame in a slot: OFFSET of a COMPARE frame counts from FIRST_TICK (R214, R229). -/
def frameBytes (cmp : Bool) (first : Nat) (f : Frame) : List Byte :=
  if cmp then
    if f.marker then f.words.flatMap fun w => leBytes w 4
    else leBytes (f.words.getD 0 0) 4 ++ leBytes (f.tick - first) 4
  else f.words.flatMap fun w => leBytes w 4

/-- A word of the record carries flag bit `b`. -/
def Rec.anyFlag (c : Rec) (cmp : Bool) (b : Nat) : Bool :=
  !cmp && c.frames.any fun f => !f.marker && f.words.any fun w => !isMarker w && w.testBit b

/-- The record header (R230). -/
def State.recHeader (m : State) (t : Nat) (c : Rec) : List Byte :=
  let p := Page.acq t
  let cmp := m.r p .acqSrc == 1
  let data := c.frames.filter fun f => !f.marker
  let free := Config.freeTick m.freeCtr
  let first := (data.head?.map (·.tick)).getD free
  let last := (data.getLast?.map (·.endT)).getD free
  let marks := c.frames.length - data.length
  let flags := bit (decide (c.pre < m.acqPreN t)) + 2 * bit (marks != 0) + 4 * bit c.overflow + 8 * bit c.cut +
    16 * bit (c.frames.any (·.noRefin)) + 32 * bit c.firer + 64 * bit (c.anyFlag cmp 25) + 128 * bit (c.anyFlag cmp 24)
  leBytes (if cmp then 2 else 1) 1 ++ leBytes 1 1 ++ leBytes flags 1 ++ leBytes c.factor 1 ++ leBytes c.source 1 ++
    leBytes (t + 16 * m.r .dev .devStrapIndex) 1 ++ leBytes (m.r p .acqLanes) 2 ++ leBytes (m.r p .acqPair) 2 ++
    leBytes (if cmp then 0 else m.r p .acqAvg) 1 ++ leBytes c.sub 1 ++ leBytes c.n 4 ++ leBytes c.trig 8 ++ leBytes first 8 ++
    leBytes c.pre 4 ++ leBytes data.length 8 ++ leBytes (min c.missed 0xFFFFFFFF) 4 ++ leBytes (min c.dead 0xFFFFFFFF) 4 ++
    leBytes c.frac 2 ++ leBytes marks 1 ++ leBytes c.cause 1 ++ leBytes last 8

/-- The end of the last stored frame of a record, which is its END_TICK (R230, R238); a record that stores none has none. -/
def State.recEnd (m : State) (c : Rec) : Nat :=
  ((c.frames.filter fun f => !f.marker).getLast?.map (·.endT)).getD (Config.freeTick m.freeCtr)

/-- An ended record as it waits for its commit. -/
def State.waitRec (m : State) (t : Nat) (c0 : Rec) : WaitRec :=
  let c := c0.open_ (m.acqPreN t) (m.acqFb t)
  let cmp := m.r (.acq t) .acqSrc == 1
  let first := ((c.frames.filter fun f => !f.marker).head?.map (·.tick)).getD 0
  { slot := m.recSlot t c.n, header := m.recHeader t c, body := c.frames.flatMap (frameBytes cmp first),
    out := { c.out with head := 64 } }

/-- An abort of the acquisition of tile `t` reaches the arbiter on tick `e` (R239, R240): a record in capture is cut and
waits for its commit for reasons HOST_ABORT and EVENT_ABORT; for the other reasons nothing further is committed. -/
def State.abortAcq (m : State) (t reason e : Nat) (h : Nat := 0) : State :=
  if m.acqLive t then
    let a := m.acq t
    let wait := (a.cap.map fun c =>
      m.waitRec t { c with cut := true, group := [], frames := c.frames.filter fun f => decide (f.endT < e) }).toList
    let p := Page.acq t
    let m := m.drawn.ws p [(.acqState, 6), (.acqOutcome, 2), (.acqReason, reason), (.acqUnresolved, 0)]
    let m := m.setAcq t { waiting := if reason ≤ 2 then a.waiting ++ wait else [], endTs := m.stamp e,
                          recN := a.recN, lastEnd := a.lastEnd, prevTrig := a.prevTrig, servAt := a.servAt }
    let m : State := { m with flight := m.flight.filter fun f => !(f.stage == .prod t 38 && decide (e ≤ f.tick)) }
    (m.flag p .acqDone).fireProd t 39 (e + 1) h
  else if m.r (.acq t) .acqState = 6 then m.inc (.acq t) .acqAbortLate
  else m

/-- A delivery on ACQ_ABORT (R239, R289). -/
def State.acqAbortIn (m : State) (t e h : Nat) : State :=
  if m.r (.acq t) .acqState = 0 then m.dropBusy t 27 else m.abortAcq t 2 e (h + 1)

/-- The end of the record in capture, its last frame's aperture having ended (R217, R238). -/
def State.recordEndOp (m : State) (t : Nat) : State :=
  let p := Page.acq t
  let a := m.acq t
  match a.cap with
  | some c =>
    if m.r p .acqState = 4 ∧ c.opened ∧ c.seen = m.acqLen t - m.acqPreN t then
      let m := m.due c.winEnd
      let fin := a.recN + 1 == m.acqRecs t
      let m := m.setAcq t { a with cap := none, waiting := a.waiting ++ [{ m.waitRec t c with last := fin }], lastEnd := c.winEnd,
                                   recN := a.recN + 1,
                                   endTs := if fin then m.stamp (m.recEnd c) else a.endTs }
      if fin then m.ws p [(.acqState, 6), (.acqOutcome, 1), (.acqReason, 0), (.acqUnresolved, 0)] else m.w p .acqState 5
    else m
  | none => m

/-- The unit re-arms 448 ticks after the end of a record (R217, R218). -/
def State.rearmOp (m : State) (t : Nat) : State :=
  let e := (m.acq t).lastEnd + 448
  if m.r (.acq t) .acqState = 5 then (m.due e).acqReady t e else m

/-- The first record that waits is committed once the port has carried the rest of it, at its rate (R248) and as far as there is
bandwidth for the home site (R247): its frames and then its header are in its slot, COMMITTED counts it unless an ARM has cleared
the count since, and ACQ_REC_DONE fires; with the last one of a completed acquisition DONE sets and ACQ_DONE fires (R217, R232,
R238, R240). -/
def State.recordCommitOp (m : State) (t : Nat) : State :=
  let p := Page.acq t
  let a := m.acq t
  match a.waiting with
  | c :: rest =>
    if !m.archOn then m
    else
      let fn := m.home t
      let k := min c.out.total (m.arcRoom fn)
      let m := if k = 0 then m else m.due (a.servAt + ceilDiv (2 * k) 5)
      let a := { a with servAt := max m.pace a.servAt }
      let m := m.useArc fn k
      if k < c.out.total then (m.setAcq t { a with waiting := { c with out := c.out.take k } :: rest }).wantArc fn
      else
      let m := ((m.arcWrite Config.acqUnit (c.slot + 64) c.body).arcPut c.slot c.header).setAcq t { a with waiting := rest }
      let m := if c.old then m else m.inc p .acqCommitted
      let m := if c.old then m else m.w p .acqRecords (m.r p .acqCommitted)
      let m := m.fireProd t 37 (m.pace + 1) 0
      if c.last then (m.flag p .acqDone).fireProd t 39 (m.pace + 1) 0 else m
  | [] => m

end Sys2Proof.Machine
end

