-- ==== Sys2Proof/Machine/Sequencer.lean ====
section
/-! DEFINITION. The Stride sequencer's commands and events (R162 to R209). -/

namespace Sys2Proof.Machine

/-- The tile of page `p`, if it lies in one, accepts host writes: not from its power-up until its self-checks have ended (R349).
-/
def State.tileTakes (m : State) (p : Page) : Bool := p.tileOf.all fun t => !(m.tile t).svcUp

/-- A host write of function `fn` reaches page `p`. -/
def State.hostAt (m : State) (fn : Nat) (p : Page) : Bool := m.reach fn && m.present fn p && m.tileTakes p

/-- SEQ_CMD.START. -/
def execSeqStart (fn t : Nat) (m : State) : Out := byHost (.seqStart fn t) fn (m.hostAt fn (.seq t)) m (m.seqStartOp t)

/-- SEQ_CMD.ABORT (R207): the abort is decided on the first tick after. -/
def State.seqAbortHost (m : State) (t : Nat) : State := m.abortSeq t 1 0 (m.pace + 1)

def execSeqAbort (fn t : Nat) (m : State) : Out := byHost (.seqAbort fn t) fn (m.hostAt fn (.seq t)) m (m.seqAbortHost t)

/-- The refuse code of target lane `s` at the lock grant, but for the governor's (R166); `vec` and `dds` say whether the table
holds such segments. -/
def State.seqLaneCheck (m : State) (t s : Nat) (vec dds : Bool) : Option Why :=
  let g := m.inForce t s
  let conn := m.sw t s == .connected
  let vr := g .laneForceVrange
  if !conn && m.sw t s != .pin then some .wrongState
  else if (m.gangOf t s).isSome then some .gangMember
  else if (m.lane t s).dds || m.r (.lane t s) .lanePersSel == 1 then some .wrongState
  else if vec && (m.boosted t s || (conn && !(g .laneForceMode == 1 && (vr == 1 || vr == 2)))) then some .wrongState
  else if dds && conn && !(g .laneForceMode == 1 || g .laneForceMode == 2) then some .wrongState
  else none

/-- The largest estimate of a target lane over the personalities that the table gives it (R85, R166; log entry 22). -/
def State.seqLaneEst (m : State) (t s : Nat) (srcs : List Nat) : Nat :=
  let g := m.stored t s
  let smu := if m.sw t s = .pin then toSmuFields g else g
  let withDds : Fld → Nat := fun f => if f = .lanePersSel then 1 else smu f
  max (m.laneEst t s) (max (if srcs.contains 1 then 700000 else 0)
    (max (if srcs.contains 3 then m.forceEst t s smu else 0) (if srcs.contains 2 then m.forceEst t s withDds else 0)))

/-- The grant conditions of the target lanes in turn (R166): the lanes with the estimate that they carry until the end, or the
refuse code. -/
def State.seqGrantLanes (m : State) (t : Nat) (srcs : List Nat) : List Nat → State × Option Why
  | [] => (m, none)
  | s :: l =>
    match m.seqLaneCheck t s (srcs.contains 1) (srcs.contains 2) with
    | some y => (m, some y)
    | none =>
      let m' := m.modLane t s fun d => { d with estHold := some (m.seqLaneEst t s srcs), drv := { d.drv with lastCode := 5 } }
      match governor m m' t s with
      | some lim => (m.govRefused m' (m.home t) t s lim, some .powerBudget)
      | none => m'.overSettle.seqGrantLanes t srcs l

/-- The locks of the target lanes are granted (R165 to R168): SRC and DIV are saved, DIV is written, and PRIMING begins. -/
def State.seqLockGrantOp (m : State) (t : Nat) : State :=
  match m.nextGrant t (fun q => q.who == .seq) with
  | some q =>
    let srcs := (List.range (m.seqLastSeg t + 1)).map fun n => (m.segOf t n).src
    match (m.grant q).seqGrantLanes t srcs q.slots with
    | (m, some y) =>
      let m := q.slots.foldl (fun m s => match m.sw t s with
        | .connected | .pin => m.modLane t s fun d => { d with estHold := none }
        | _ => m) m
      m.abortSeq t 6 y.code (m.pace + 1)
    | (m, none) =>
      let saved := q.slots.map fun s => (s, m.r (.lane t s) .laneDacSrc, m.r (.lane t s) .laneDacDiv)
      let m := q.slots.foldl (fun m s => m.hwLive (.lane t s) [(.laneDacDiv, m.r (.seq t) .seqDiv)]) m
      (m.w (.seq t) .seqState 2).modSeq t fun q => { q with saved := saved }
  | none => m

def execSeqLockGrant (t : Nat) (m : State) : Out := onlyIf (m.tileOn t) m (m.seqLockGrantOp t)

/-- The entries 0 to LAST that name a block. -/
def State.blockSegs (m : State) (t : Nat) : List Nat :=
  (List.range (m.seqLastSeg t + 1)).filter fun n => (m.segOf t n).src != 0

/-- PRIMING reads and checks every block header, and sizes the resident data (R168, R199, R200); a header that the Archive cannot
give ends the sequence with ARC_ERROR (R245). -/
def State.headersOp (m : State) (t : Nat) : State :=
  let e := m.pace + 1
  if m.r (.seq t) .seqState ≠ 2 ∨ (m.seq t).headersOk ∨ !m.archOn then m
  else match (m.blockSegs t).find? (fun n => m.poisoned (m.blockAt t (m.segOf t n)) 64 || !m.headerOk t (m.segOf t n)) with
    | some n =>
      if m.poisoned (m.blockAt t (m.segOf t n)) 64 then m.abortSeq t 8 0 e
      else (m.w (.seq t) .seqBadIndex n).abortSeq t 7 0 e
    | none =>
      if m.resBytes t true > 0x100000 then m.abortSeq t 12 0 e else m.modSeq t fun q => { q with headersOk := true }

/-- Word `w` lies in the header, or in the resident data, of a segment entry. -/
def State.inBlock (m : State) (t : Nat) (whole : Bool) (w : Nat) : Bool :=
  (m.blockSegs t).any fun n =>
    let e := m.segOf t n
    let len := if !whole then 64 else if e.src = 2 then m.ddsBytes t e
               else 64 + min (m.resGranules t n) e.granules * granBytes e.src (m.seqL t)
    touches (m.blockAt t e) len w

/-- The headers are read as far as the home site's bandwidth allows (R247), and once all are, with what the ECC finds (R244), they
are checked. -/
def State.headersRead (m : State) (t : Nat) (errs : EccErrs) : State :=
  if m.r (.seq t) .seqState = 2 ∧ !(m.seq t).headersOk ∧ m.archOn then
    match m.primeRead t (64 * (m.blockSegs t).length) with
    | (m, true) => (m.eccAll errs 1 (m.inBlock t false)).headersOp t
    | (m, false) => m
  else m

/-- BLOCK_HEADERS_READ, where the ECC finds `errs` (R244). -/
def execBlockHeadersRead (t : Nat) (errs : EccErrs) (m : State) : Out := done (m.headersRead t errs)

/-- The resident granules and the DDS lists are staged (R200). -/
def State.stageAll (m : State) (t : Nat) : State :=
  (m.blockSegs t).foldl (fun m n =>
    let e := m.segOf t n
    if e.src = 2 then m.modSeq t fun q => { q with ddsLists := tabSet q.ddsLists e.addr (m.ddsListsOf t e) }
    else (List.range (min (m.resGranules t n) e.granules)).foldl (fun m g =>
      m.modSeq t fun q => { q with stage := tabSet q.stage (e.addr * 0x1000000 + g) (m.loadGran t e g) }) m) m

/-- A DDS block that fails its check at PRIMING, with the abort reason (R189, R205). -/
def State.badDds (m : State) (t : Nat) : Option (Nat × Nat) :=
  (m.blockSegs t).findSome? fun n =>
    let e := m.segOf t n
    if e.src ≠ 2 then none
    else if m.poisoned (m.blockAt t e) (m.ddsBytes t e) then some (n, 8)
    else if (m.ddsListsOf t e).1.any (fun c => !ddsFreqOk c (m.r (.seq t) .seqDiv)) then some (n, 7) else none

/-- A resident or primed granule that selects an invalid timing set (R192). -/
def State.badPrimed (m : State) (t : Nat) : Option Nat :=
  ((m.blockSegs t).find? fun n =>
    let e := m.segOf t n
    e.src == 1 && (List.range (min (m.resGranules t n) e.granules)).any fun g =>
      (tabGet (0, []) (m.seq t).stage (e.addr * 0x1000000 + g)).1 == 7) <|>
  (((m.seq t).ring.find? fun g => g.bad == 7).map (·.seg))

/-- The stream ring holds what PRIMING asks for (R201): PRIME granules, or the whole path; a ring with no room for more ends it
too (DESIGN CHOICE, log entry 45). -/
def State.primed (m : State) (t : Nat) : Bool :=
  let q := m.seq t
  decide (m.r (.seq t) .seqPrime ≤ q.ring.length) ||
    (match q.fetchAt with | none => true | some h => m.streamed t h.key && m.ringFull t h.key)

/-- Staging completes (R168, R189, R192, R200, R201): play follows 16 ticks later, or the sequence is ARMED; while the ring
holds less than PRIMING asks for it goes on. -/
def State.stagingOp (m : State) (t : Nat) : State :=
  let p := Page.seq t
  let e := m.pace + 1
  if m.r p .seqState ≠ 2 ∨ !(m.seq t).headersOk ∨ !m.archOn then m
  else match m.badDds t with
    | some (n, r) => (if r = 7 then m.w p .seqBadIndex n else m).abortSeq t r 0 e
    | none =>
      let m := if (m.seq t).staged then m
               else ((m.stageAll t).prefetchFrom t (m.r p .seqFirst)).modSeq t fun q => { q with staged := true }
      let m := m.prefetch t (m.r p .seqPrime - (m.seq t).ring.length)
      match m.badPrimed t with
      | some n => (m.w p .seqBadIndex n).abortSeq t 7 0 e
      | none =>
        if !m.primed t then m
        else if m.r p .seqStartOn = 1 then m.w p .seqState 3
        else (m.w p .seqState 4).modSeq t fun q => { q with boundary := m.pace + 16 }

/-- The resident data is read as far as the home site's bandwidth allows (R247), and once all is, with what the ECC finds (R244),
staging goes on. -/
def State.stagingRead (m : State) (t : Nat) (errs : EccErrs) : State :=
  if m.r (.seq t) .seqState = 2 ∧ (m.seq t).headersOk ∧ m.archOn then
    match m.primeRead t (if (m.seq t).staged then 0 else m.resBytes t true) with
    | (m, true) => (m.eccAll errs 1 fun w => !(m.seq t).staged && m.inBlock t true w).stagingOp t
    | (m, false) => m
  else m

/-- STAGING_COMPLETE, where the ECC finds `errs` (R244). -/
def execStagingComplete (t : Nat) (errs : EccErrs) (m : State) : Out := done (m.stagingRead t errs)

/-- SEQ_GO: the delivery falls on the present tick. -/
def execSeqGo (t hop : Nat) (m : State) : Out := onlyIf (m.tileOn t) m
  (m.activation t 18 m.pace fun m => m.seqGoOp t m.pace hop)

/-- LOCK_IN_POINT, 8 ticks before the boundary (R174), once the strobes at or before it have taken place. -/
def State.lockInOp (m : State) (t : Nat) : State :=
  let q := m.seq t
  let src := (m.segOf t (m.r (.seq t) .seqSeg)).src
  if m.r (.seq t) .seqState = 4 ∧ q.started ∧ !q.holding ∧ q.gapEnd = none ∧ q.next = none ∧
      (src ≠ 1 ∨ q.vec = 64 ∨ q.boundary < (m.strobeAt t).1 + 8 ∨ (q.boundary = (m.strobeAt t).1 + 8
          ∧ 0 < (m.strobeAt t).2)) then (m.due (q.boundary - 8)).lockIn t
  else m

def execLockInPoint (t : Nat) (m : State) : Out := done (m.lockInOp t)

/-- GRANULE_BOUNDARY: the end of a granule that is not its repetition's last (R173). -/
def execGranuleBoundary (t : Nat) (m : State) : Out := done (m.boundaryOp t false)

/-- SEGMENT_BOUNDARY: B_0, the end of a repetition, or the start of a segment after its gap (R173, R185). -/
def execSegmentBoundary (t : Nat) (m : State) : Out := done (m.boundaryOp t true)

/-- SEQ_JUMP.TARGET and REQ in one write (R178, R180): a refused request changes no field of the register (R55). -/
def State.seqJumpWrite (m : State) (t target : Nat) : State :=
  let n := target % 4096
  if m.jumpRefused t n then m.flag (.seq t) .seqJumpRefused
  else
    let m := m.ws (.seq t) [(.seqJumpTarget, n), (.seqJumpOrigin, 0)]
    if m.r (.seq t) .seqState ≠ 4 then m.inc (.seq t) .seqJreplCnt else m.jumpRequest t n

def execSeqJumpReq (fn t target : Nat) (m : State) : Out :=
  byHost (.seqJumpReq fn t target) fn (m.hostAt fn (.seq t)) m (m.seqJumpWrite t target)

/-- A delivery on SEQ_JREQj. -/
def execSeqJreq (t j _hop : Nat) (m : State) : Out := onlyIf (m.tileOn t && decide (j < 4)) m
  (m.activation t (20 + j) m.pace fun m => m.seqJreqOp t j)

/-- One vector cycle at the tick of its strobe (R191 to R196, R214): `pins` are the pin voltages in µV at the strobe edge, by
slot, and `drained` the bytes that the Archive may have accepted from the acquisition buffer since it was last looked at. -/
def State.vectorOp (m : State) (t : Nat) (pins : List Int) (drained : Nat) : State :=
  let q := m.seq t
  let p := Page.seq t
  let lanesOk := (m.seqLanes t).all fun s => match m.sw t s with | .toPin | .toSmu => false | _ => true
  if m.r p .seqState ≠ 4 ∨ !q.started ∨ q.holding ∨ q.gapEnd ≠ none ∨ (m.segOf t (m.r p .seqSeg)).src ≠ 1 ∨ 64 ≤ q.vec ∨
      !lanesOk then m
  else
    let c := q.cTick
    let w := q.cur.getD q.vec 0
    let ts := bits w 27 5
    let per := m.r p (.seqTsPer ts)
    let (e, fine) := m.strobeAt t
    let sub := fine * 4 / 5
    let (m, fail, strobed) := (m.due e).vectorLanes t w c pins (m.seqLanes t)
    let m := m.seqFails t e fine fail
    let m := m.compareFrame t c per ts fail strobed e sub drained
    m.modSeq t fun q => { q with vec := q.vec + 1, cTick := c + per, period := per }

def execVectorCycle (t : Nat) (pins : List Int) (drained : Nat) (m : State) : Out := done (m.vectorOp t pins drained)

/-- A DDS list step (R187, R188): every DSTEP granules each index advances, modulo its list's length. -/
def State.listStepOp (m : State) (t : Nat) : State :=
  let q := m.seq t
  let e := m.segOf t (m.r (.seq t) .seqSeg)
  if m.r (.seq t) .seqState = 4 ∧ q.started ∧ q.gapEnd = none ∧ e.src = 2 ∧ q.listAt < q.boundary then
    let (fs, ps, as) := tabGet ([], [], []) q.ddsLists e.addr
    let m := (m.due q.listAt).setSeq t
      { q with idxF := (q.idxF + 1) % max fs.length 1, idxP := (q.idxP + 1) % max ps.length 1,
               idxA := (q.idxA + 1) % max as.length 1, listAt := q.listAt + e.dstep * 32 * m.r (.seq t) .seqDiv }
    m.ddsLoad t
  else m

def execDdsListStep (t : Nat) (m : State) : Out := done (m.listStepOp t)

/-- The next granule of the path reaches the stream ring (R192, R201, R204, R205), with what the ECC finds in it; the refill
waits for share (R247). A granule for which play is holding ends the sequence at once where it carries an error or an invalid
timing set. -/
def State.refillOp (m : State) (t : Nat) (errs : EccErrs) : State :=
  let q := m.seq t
  let st := m.r (.seq t) .seqState
  if !(st == 3 || st == 4) ∨ !m.archOn then m
  else
    let m1 := m.fetchFed t errs
    match (m1.seq t).ring.drop q.ring.length with
    | g :: _ =>
      if q.und = some (g.seg, g.gran, g.rep) then
        if q.holding && g.bad != 0 then
          (if g.bad = 7 then m1.w (.seq t) .seqBadIndex g.seg else m1).abortSeq t g.bad 0 (m.pace + 1)
        else m1.modSeq t fun q => { q with complete := some m.pace }
      else m1
    | [] => m1

def execGranuleRefill (t : Nat) (errs : EccErrs) (m : State) : Out := done (m.refillOp t errs)

/-- HOLD_RESUME (R204). -/
def execHoldResume (t : Nat) (m : State) : Out := done (m.holdResumeOp t)

end Sys2Proof.Machine
end

