-- ==== Sys2Proof/Machine/Acquisition.lean ====
section
/-! DEFINITION. The acquisition unit's commands and events (R210 to R241). -/

namespace Sys2Proof.Machine

/-- ACQ_CMD.ARM. -/
def execAcqArm (fn t : Nat) (m : State) : Out := byHost (.acqArm fn t) fn (m.hostAt fn (.acq t)) m (m.acqArmOp t)

/-- ACQ_CMD.TRIG. -/
def execAcqTrig (fn t : Nat) (m : State) : Out := byHost (.acqTrig fn t) fn (m.hostAt fn (.acq t)) m (m.acqSoftTrig t)

/-- ACQ_CMD.ABORT (R239): decided on the first tick after. -/
def State.acqAbortHost (m : State) (t : Nat) : State := m.abortAcq t 1 (m.pace + 1)

def execAcqAbort (fn t : Nat) (m : State) : Out := byHost (.acqAbort fn t) fn (m.hostAt fn (.acq t)) m (m.acqAbortHost t)

/-- A delivery on ACQ_ARM_IN falls on the present tick. -/
def execAcqArmIn (t _hop : Nat) (m : State) : Out :=
  onlyIf (m.tileOn t) m (m.activation t 24 m.pace fun m => m.acqArmInOp t m.pace)

/-- A delivery on ACQ_TRIG_IN falls on the present tick. -/
def execAcqTrigIn (t hop : Nat) (m : State) : Out := onlyIf (m.tileOn t) m
  (m.activation t 26 m.pace fun m => m.acqTrigInOp t m.pace hop)

/-- The unit has fired, and its own fire is nowhere in the baton: a delivery from outside brings it (R225). -/
def State.ownFire (m : State) (t : Nat) : Bool := (m.acq t).fired && !(m.flight.any fun f => f.firers.contains t)

/-- A delivery on ACQ_FIRE_IN falls on the present tick. -/
def execAcqFireIn (t hop : Nat) (m : State) : Out := onlyIf (m.tileOn t) m
  (m.activation t 25 m.pace fun m => m.acqFireInOp t m.pace hop (m.ownFire t))

/-- ACQ_FRAME: the end of an ANALOG frame. -/
def execAcqFrame (t drained : Nat) (m : State) : Out := onlyIf (m.tileOn t) m (m.acqFrameOp t drained)

/-- RECORD_END. -/
def execRecordEnd (t : Nat) (m : State) : Out := onlyIf (m.tileOn t) m (m.recordEndOp t)

/-- REARM_DONE. -/
def execRearmDone (t : Nat) (m : State) : Out := onlyIf (m.tileOn t) m (m.rearmOp t)

/-- RATE_REDUCTION: the check 8 ticks before a granule boundary; `share` and `port` are the bytes that the site's share and the
unit's port have let through since the unit was last looked at, of which the lesser count (log entry 37). -/
def execRateReduction (t share port : Nat) (m : State) : Out := onlyIf (m.tileOn t) m (m.rateCheck t (min share port))

/-- RECORD_COMMIT. -/
def execRecordCommit (t : Nat) (m : State) : Out := onlyIf (m.tileOn t) m (m.recordCommitOp t)

end Sys2Proof.Machine
end

