-- ==== Sys2Proof/Machine/Archive.lean ====
section
/-! DEFINITION. The Archive's own events (R242 to R249), the host's BAR2 window (R411, R412) and the prefetch of descriptors
(R127, R431). -/

namespace Sys2Proof.Machine

/-- A new accounting window starts at the next multiple of 8,000 ticks (R247), with nothing used but what was accepted before. -/
def State.windowOp (m : State) : State :=
  if m.archOn then
    let m := m.due (nextMul 8000 m.cur.acct.win)
    { m with cur := { m.cur with acct := m.acctNow } }
  else m

def execAccountingWindow (m : State) : Out := done m.windowOp

/-- The patrol scrub reads 8-byte word `word` (R244). -/
def State.scrubOp (m : State) (word : Nat) (e : EccErr) : State :=
  let errs := match e with | .clean => [] | .single => [(word, false)] | .multi _ => [(word, true)]
  if m.archOn ∧ word * 8 < m.arcSize then m.eccAll errs 3 (· == word) else m

def execPatrolScrub (word : Nat) (e : EccErr) (m : State) : Out := done (m.scrubOp word e)

/-- The part of a BAR2 access [off, off + len) that lies inside the function's region (R411). -/
def State.bar2Part (m : State) (fn off len : Nat) : Nat := min len ((m.region fn).2 - off)

/-- A read through BAR2 (R411, R412, R245, R380): the data is the function's result; status 1 says that it came with EP set.
While it waits for share it is held (R247, R412). -/
def State.bar2ReadOp (m : State) (fn off len : Nat) (errs : EccErrs) : State :=
  if !m.archOn then m.answer fn 0 0
  else if m.shareOut fn then m.wantArc fn
  else
    let n := m.bar2Part fn off len
    let a := (m.region fn).1 + off
    let m := if n < len then m.inc (.q fn) .qOor else m
    let m := (m.postArc fn n).eccAt a n errs 0
    let m := if m.poisoned a n then m.aerLog fn 1 else m
    m.answer fn (bit (m.poisoned a n)) (m.arcNat a n)

def execBar2Read (fn off len : Nat) (errs : EccErrs) (m : State) : Out :=
  byHost (.bar2Read fn off len errs) fn (m.winOk fn) m (m.bar2ReadOp fn off len errs)

/-- A write through BAR2 (R411, R243, R244, R249): a write TLP with EP set stores the words that it covers poisoned; a write of
less than a word reads it first, and `errs` is what the ECC then finds in the words at its ends. -/
def State.bar2WriteOp (m : State) (fn off : Nat) (bytes : List Byte) (ep : Bool) (errs : EccErrs) : State :=
  let m := if ep then m.aerLog fn 0 else m
  if !m.archOn then m
  else
    let n := m.bar2Part fn off bytes.length
    let a := (m.region fn).1 + off
    let m := if n < bytes.length then m.inc (.q fn) .qOor else m
    let m := ((m.postArc fn n).eccAll errs 0 (partWord a n)).arcPut a (bytes.take n)
    if ep then (wordsOf a n).foldl (fun m w => { m with poison := insertUp w m.poison }) m else m

def execBar2Write (fn off : Nat) (bytes : List Byte) (ep : Bool) (errs : EccErrs) (m : State) : Out :=
  byHost (.bar2Write fn off bytes ep errs) fn (m.winOk fn) m (m.bar2WriteOp fn off bytes ep errs)

/-- The first index from the present descriptor on that is not fetched yet. -/
def Ctx.fetchIdx (c : Ctx) : Nat :=
  (((List.range (c.fetched.length + 1)).map (· + c.desc)).find? fun i => (c.descAt i).isNone).getD c.desc

/-- Words in groups of eight. -/
def groups8 : Nat → List Word → List (List Word)
  | 0, _ => []
  | n + 1, ws => if ws.length < 8 then [] else ws.take 8 :: groups8 n (ws.drop 8)

/-- The descriptors read enter the engine's memory from index `i` on. -/
def State.fetchIn (m : State) (id i : Nat) (ws : List Word) : State :=
  m.modCtx id fun c => { c with fetched := c.fetched ++ ((groups8 32 ws).zipIdx.map fun (d, k) => (i + k, d)) }

/-- Descriptor prefetch of context `id`, up to 32 descriptors (R114, R127, R431): from the Archive, where the ECC finds `errs`
and the read waits for share (R247), or with the answer `r` of host memory. A failing read ends the run with FETCH_ERR (R157,
R245, R380). -/
def State.prefetchOp (m : State) (id : Nat) (r : HostRead) (errs : EccErrs) : State :=
  let c := m.ctx id
  let i := c.fetchIdx
  let n := min 32 (c.par.llen - i)
  if c.st ≠ .running ∨ c.engine = none ∨ n = 0 then m
  else if c.par.archive then
    let a := (m.region c.fn).1 + c.par.laddr + 32 * i
    let held := m.archOn && m.shareOut c.fn
    let m := if m.archOn && !held then (m.postArc c.fn (32 * n)).eccAt a (32 * n) errs 2 else m
    if held then m.wantArc c.fn
    else if !m.archOn ∨ m.poisoned a (32 * n) then m.abortRun id 8 0 (m.pace + 1)
    else m.fetchIn id i ((m.arcWords a (8 * n)).map (BitVec.ofNat 32))
  else if !(m.fn c.fn).bme ∨ (m.fn c.fn).d3 then m
  else match r with
    | .error => (m.aerLog c.fn 2).abortRun id 8 0 (m.pace + 1)
    | .data ws => m.fetchIn id i (ws.take (8 * n))

def execDescPrefetch (id : Nat) (r : HostRead) (errs : EccErrs) (m : State) : Out := done (m.prefetchOp id r errs)

end Sys2Proof.Machine
end

