-- ==== Sys2Proof/Machine/SampleOps.lean ====
section
/-! DEFINITION. The shared operations of a lane's sample instants (R22, R45 to R64, R75 to R83, R97 to R100, R267 to R275): the
latch, the DAC sample, the load strobe, the ADC sample and what each of them decides. -/

namespace Sys2Proof.Machine

/-! Sample instants (R18, R22). -/

/-- The lane has sample instants: its tile is powered. -/
def State.laneOn (m : State) (t s : Nat) : Bool := m.tileOn t && decide (s < 10)

/-- LANE_FORCE, LANE_DAC, LANE_PERS and LANE_DDS follow the DAC sample instants (R22); else the ADC sample instants. -/
def State.followsDac (m : State) (t s : Nat) : Bool := (m.lane t s).dds || m.srcOf t s != 2

/-! The latch (R22). -/

/-- The LIVE lane fields besides LANE_FORCE and the clamps that follow the ADC sample instants. -/
def adcFields : List Fld :=
  [.laneVclampHi, .laneVclampLo, .laneMeasQty, .laneMeasAvg, .laneSenseSel, .laneCompSel, .laneRailFloor, .laneRailCeil,
   .laneRangeAuto, .laneRangeAmin, .laneRangeAmax, .laneConnectLevel, .lanePulseWidth, .lanePulseCount, .lanePulseMdelay,
   .lanePulseTop, .lanePulsePeriod, .lanePinDrvHi, .lanePinDrvLo, .lanePinCmpHi, .lanePinCmpLo, .lanePinTermVtt,
   .lanePinTermEn, .laneSupvDwell, .laneSupvClim, .laneSupvAct, .laneSupvProbe, .laneTriplimMag, .laneTriplimScale,
   .laneWmHi 0, .laneWmLo 0, .laneWmQsel 0, .laneWmFilt 0, .laneWmClamp 0, .laneWmPend 0, .laneWmLatch 0, .laneWmRblank 0,
   .laneWmHyst 0, .laneWmHi 1, .laneWmLo 1, .laneWmQsel 1, .laneWmFilt 1, .laneWmClamp 1, .laneWmPend 1, .laneWmLatch 1,
   .laneWmRblank 1, .laneWmHyst 1, .laneEvselA, .laneEvselB]

/-- The current clamps (R43). -/
def clampFields : List Fld := [.laneClampHiMag, .laneClampHiScale, .laneClampLoMag, .laneClampLoScale]

/-- The fields of LANE_DAC, LANE_PERS.PARK and LANE_DDS. -/
def dacFields : List Fld := [.laneDacDiv, .laneDacSrc, .laneDacGroup, .lanePersPark, .laneDdsAmpl, .laneDdsPhase, .laneDdsStop]

/-- A monitor that loses its current enters its reset state (R253); a trip clamp that no TRIPn holds and no raw state drives is
released (R258); and a monitor compares its input against what has come into force (R251). -/
def State.wmSettle (m : State) (t s e : Nat) : State :=
  [0, 1].foldl (fun m n =>
    let d := (m.lane t s).wm n
    let m := if d.clamp && m.l (.lane t s) (.laneWmLatch n) == 0 && (d.raw == .inside || m.l (.lane t s) (.laneWmClamp n) == 0) then
      m.modLane t s fun d => d.unclamp n e else m
    if m.wmBlind t s n && (m.r (.lane t s) (.laneWmUnres n) == 0 || d.raw != .inside || d.clamp) then m.wmReset t s n e else m.wmEval t s n e e 0) m

/-- LANE_FORCE latches for the sample instant `e` (R38, R75, R79, R108). IRANGE selects no shunt in FVMV, so a change of it
alone is no range change there (R39). A gang member other than the leader goes where the leader's LANE_FORCE takes it (R89,
R90). -/
def State.latchForce (m : State) (t s e : Nat) : State :=
  let p := Page.lane t s
  let own := !m.follower t s
  let range := own && m.sw t s == .connected && (m.r p .laneForceVrange != m.l p .laneForceVrange ||
    (m.r p .laneForceMode != 3 && m.r p .laneForceIrange != m.l p .laneForceIrange))
  let soon := m.xferHolds t s e || (match (m.lane t s).rangeS with | some x => decide (e < x + 160) | none => false)
  let frozen := match m.sw t s with | .preconnect | .connecting | .toPin | .toSmu => true | _ => false
  if (range && soon) || frozen then m
  else
    let m := m.latch p [.laneForceLevel, .laneForceMode, .laneForceVrange, .laneForceIrange]
    let m := if range then m.beginRange t s e else m
    let md := m.l p .laneForceMode
    if !own then m
    else match m.sw t s with
      | .connected =>
        if md = 4 then (m.unit t s).foldl (fun m k => ((m.endTrain t k e).setSw t k .measureOnly e).modLane t k fun d =>
            { d with forceSw := false, dds := false, dacOut := 0, conv := 0, dacLevel := 0, estHold := none }) m
        else m
      | .measureOnly =>
        if 1 ≤ md ∧ md ≤ 3 then (m.unit t s).foldl (fun m k => m.preconnect t k e false) m else m
      | _ => m

/-- LANE_DAC, LANE_PERS and LANE_DDS latch for the sample instant `e` (R96, R99, R104, R105): SEL = PIN or DDS acts where its
preconditions hold at the latch, and until the first vector the driver of a lane in PIN or TO_PIN follows PARK (R103). SEL = DDS written
again while a ZERO_CROSS exit is pending leaves the exit pending: the stimulus goes at the wrap and DDS is entered anew at the
next latch (DESIGN CHOICE, log entry 44). -/
def State.latchPers (m : State) (t s e : Nat) : State :=
  let p := Page.lane t s
  let m := m.latch p (.lanePersSel :: dacFields)
  let d := m.lane t s
  let m := if d.owner == some .seq then m else m.modLane t s fun d => { d with ddsFreqL := d.ddsFreq }
  match m.sw t s with
  | .pin | .toPin =>
    if d.drv.parked then m.modLane t s fun d => { d with drv := { d.drv with level := sext 16 (m.l p .lanePersPark) } } else m
  | .connected =>
    match m.l p .lanePersSel with
    | 2 => if m.pinMet t s then m.toPinStart t s e else m
    | 1 =>
      if d.dds || !m.ddsMet t s then m
      else m.modLane t s fun d => { d with dds := true, ddsExit := false, ddsAcc := m.l p .laneDdsPhase * 2 ^ 32 }
    | _ =>
      if !d.dds then m
      else if m.l p .laneDdsStop = 0 then m.ddsOff t s
      else m.modLane t s fun d => { d with ddsExit := true }
  | _ => m

/-- The corrections of the latest interpolation come into force, beneath the level that stands (R317). -/
def State.applyCorr (m : State) (t s : Nat) : State :=
  let k := m.front t s
  match (m.lane t k).corrNext with
  | some c =>
    (m.modLane t k fun d => { d with corr := some c, corrNext := none }).reconv t s
  | none => m

/-- The force DAC takes the output back at the end of a hold (R324): at the level that stands, or at the top of a pulse that has
started meanwhile (log entry 46). -/
def State.takeBack (m : State) (t s : Nat) : State :=
  let m := m.modLane t s fun d => { d with hold := false }
  if ((m.lane t s).pulse.map (·.onTop)).getD false then
    m.putDac t s (m.lane t s).dacLevel (m.clipCodes t s (m.gov t s) (sext 20 (m.l (.lane t s) .lanePulseTop))).2
  else if m.sw t s = .connected then m.putDac t s (m.lane t s).dacLevel (m.clipCodes t s (m.gov t s) (m.lane t s).dacLevel).2
  else m

/-- A calibration hold begins and ends at a latch tick (R324): the hold DAC takes the output over at its present level and the
last word measured is held, or the force DAC takes it back. -/
def State.holdStep (m : State) (t s : Nat) : State :=
  let h := m.calHold t s
  if h = (m.lane t s).hold then m
  else if h then
    let w := m.r (.lane t s) .laneResult
    m.modLane t s fun d => { d with hold := true, holdWord := w, holdDac := ((m.corrOf t s).getD {}).holdCode d.dacOut }
  else m.takeBack t s

/-- The result word of a lane aperture: its voltage word where it has voltage samples (R46, R47). An AUTO aperture in which the
mode changes holds samples of both quantities, and its word is the mean of its voltage samples, fewer than N (DESIGN CHOICE, log
entry 44). -/
def apWord (v i : SampleAcc) : Nat := if v.n ≠ 0 then resultWord v false else resultWord i true

/-- The end of the lane aperture in progress. -/
def State.apEnd (m : State) (t s : Nat) : Nat :=
  (m.lane t s).apStart + apTicks (m.l (.lane t s) .laneMeasAvg) (m.l (.lane t s) .laneMeasQty)

/-- The lane aperture that has ended by tick `e` gives LANE_RESULT, and the next begins (R46); while the lane is held for its
calibration the result is the held word with STALE (R324). -/
def State.closeAp (m : State) (t s e : Nat) : State :=
  let d := m.lane t s
  let z := m.apEnd t s
  if z ≤ e then
    let m := if d.accV.n = 0 ∧ d.accI.n = 0 then m
             else m.w (.lane t s) .laneResult (if d.hold then d.holdWord % 2 ^ 24 + d.holdWord / 2 ^ 26 * 2 ^ 26 + 2 ^ 25
                                                else apWord d.accV d.accI)
    m.modLane t s fun d => { d with apStart := z, accV := {}, accI := {} }
  else m

/-- The fields that follow the ADC sample instants latch for the instant `e` (R22, R46, R268). An aperture that ends on the very
instant at which a change of QTY or AVG latches gives its result at that latch: its last sample has been taken (DESIGN CHOICE, log
entry 44). In TFOLD a limit that has come to exceed 10 mA, also as a trip clamp has let go, is folded back at the latch (R281; DESIGN
CHOICE, log entry 44). -/
def State.latchAdc (m : State) (t s e : Nat) : State :=
  let p := Page.lane t s
  let meas := m.r p .laneMeasQty != m.l p .laneMeasQty || m.r p .laneMeasAvg != m.l p .laneMeasAvg
  let m := if meas then m.closeAp t s e else m
  let m := m.latch p adcFields
  let m := if m.r p .laneFoldback = 1 then m else m.latch p clampFields
  let a := apTicks (m.l p .laneMeasAvg) (m.l p .laneMeasQty)
  let m := if meas then m.modLane t s fun d => { d with apStart := ceilMul a e, accV := {}, accI := {} } else m
  let m := if m.followsDac t s then m else (m.latchForce t s e).latchPers t s e
  (((m.applyCorr t s).holdStep t s |>.modLane t s fun d => { d with latA := e }).wmSettle t s e).tfoldSettle t s e

/-- The fields that follow the DAC sample instants latch for the instant `e` (R22). -/
def State.latchDac (m : State) (t s e : Nat) : State :=
  let m := if m.followsDac t s then (m.latchForce t s e).latchPers t s e else m
  (((m.applyCorr t s).holdStep t s |>.modLane t s fun d => { d with latD := e }).wmSettle t s e).tfoldSettle t s e

/-- LATCH_TICK: the earliest sample instant whose latch has not taken place latches, one tick before it. -/
def State.latchOp (m : State) (t s : Nat) : State :=
  let d := m.lane t s
  let ea := m.nextAdc t s
  let ed := m.nextDac t s
  let ca := decide (d.latA < ea)
  let cd := decide (d.latD < ed) && m.followsDac t s
  if !m.laneOn t s then m
  else if cd && (!ca || decide (ed < ea)) then (m.due (ed - 1)).latchDac t s ed
  else if ca then
    let m := (m.due (ea - 1)).latchAdc t s ea
    if cd && ed == ea then m.latchDac t s ea else m
  else m

/-- The accumulator advances by one DAC sample (R97); at its wrap a ZERO_CROSS exit takes place (R99). -/
def State.ddsAdvance (m : State) (t s : Nat) : State :=
  let d := m.lane t s
  if !d.dds then m
  else
    let a := d.ddsAcc + d.ddsFreqL
    if d.ddsExit && decide (2 ^ 48 ≤ a) then m.ddsOff t s else m.modLane t s fun d => { d with ddsAcc := a % 2 ^ 48 }

/-- A bad descriptor ends its run once the steps queued before it have played and ended their dwell (R136). -/
def State.badCheck (m : State) (t s e : Nat) : State :=
  let d := m.lane t s
  match d.owner with
  | some (.ctx id) =>
    let c := m.ctx id
    if (c.badDesc.map fun z => decide (z < e)).getD false && c.slot == s && d.dacQ.isEmpty && d.step.isNone
        && decide (d.dwellEnd ≤ e) then m.abortRun id 7 0 e else m
  | _ => m

/-! The DAC sample (R49 to R54). -/

/-- The governor judges a WAVE word whose level would change the lane's estimate (R86, R190), which the lane carries from then on
(R166); its range part, which it judges by itself (R52), counts here where it lowers the estimate. A word whose level is refused
does not play: the lane refuses with POWER_BUDGET and holds its level (DESIGN CHOICE, log entry 45). -/
def State.seqAdmit (m : State) (t s : Nat) (w : Word) : State × Option Why :=
  let fields : Fld → Nat := fun f => if f = .laneForceLevel then wbits w 0 20 else m.stored t s f
  let ranged : Fld → Nat := fun f => if f = .laneForceIrange then wbits w 24 3 else fields f
  let lvl := m.estIn t s fields
  let est := if w.getLsbD 27 && !m.rangeBad t s (wbits w 24 3) then min lvl (m.estIn t s ranged) else lvl
  let old := (m.lane t s).estHold.getD 0
  if est ≤ old then (m, none) else m.admitTry (m.modLane t s fun d => { d with estHold := some est }) (m.home t) t s

/-- A DAC sample of a lane whose sequence is running (R175, R187, R190): a WAVE word plays as a queue entry; otherwise the level
is held. -/
def State.seqSample (m : State) (t s e : Nat) : State :=
  let q := m.seq t
  let sg := m.segOf t (m.r (.seq t) .seqSeg)
  if sg.src = 3 ∧ q.gapEnd = none ∧ !q.holding ∧ q.granStart ≤ e then
    let i := (e - q.granStart) / max (m.r (.seq t) .seqDiv) 1 * m.seqL t + ones (m.r (.seq t) .seqLanes) s
    let w : Word := BitVec.ofNat 32 (q.cur.getD i 0)
    match m.seqAdmit t s w with
    | (m, none) => (m.modLane t s fun d => { d with dacQ := [{ w := w }] }).playEntry t s e none
    | (m, some _) => m
  else m

/-- A DAC sample of the lane's running sequence may take place: it comes before the first boundary, the start after a gap or the
resume tick of a hold, its granule has not ended and no list step is due (R175). -/
def State.seqSampleReady (m : State) (t s e : Nat) : Bool :=
  let q := m.seq t
  let sg := m.segOf t (m.r (.seq t) .seqSeg)
  if (m.lane t s).owner != some .seq || m.r (.seq t) .seqState != 4 then true
  else if !q.started then decide (e < q.boundary)
  else if q.holding then
    (match q.und, q.complete with | some k, some tc => decide (e < q.boundary + m.holdSlip t k tc) | _, _ => true)
  else if let some z := q.gapEnd then decide (e < z)
  else decide (e < q.boundary) && (sg.src != 2 || decide (e < q.listAt))

/-- An entry of a step is held back while the aperture result latch is full (R144); an empty queue has none to play. -/
def LaneDyn.heldBack (d : LaneDyn) : Bool :=
  match d.dacQ with
  | [] => true
  | q :: _ => !q.fin && decide (8 ≤ d.latch.length)

/-- The first entry of a step waits for the end of the dwell before it (R140, R143). -/
def LaneDyn.dwells (d : LaneDyn) (e : Nat) : Bool :=
  match d.dacQ with
  | q :: _ => q.rep == 0 && decide (e < d.dwellEnd)
  | [] => false

/-- A DAC sample of a run's lane with SRC = QUEUE (R49, R54, R142, R144). -/
def State.queueSample (m : State) (t s e : Nat) : State :=
  let d := m.lane t s
  if !d.qGate ∨ e < d.qFrom ∨ d.dwells e then m
  else if d.heldBack then m.dry t s e
  else m.playEntry t s e none

/-- LEVEL of LANE_FORCE is taken (R49, R50); a gang member other than the leader forces its share of the leader's (R89). -/
def State.directSample (m : State) (t s : Nat) : State :=
  if m.sw t s = .connected ∧ !m.follower t s then
    m.modLane t s fun d => { d with dacLevel := sext 20 (m.l (.lane t s) .laneForceLevel) }
  else m

/-- DAC_SAMPLE. -/
def State.dacOp (m : State) (t s : Nat) : State :=
  let e := m.nextDac t s
  if !m.laneOn t s ∨ !m.followsDac t s ∨ !m.seqSampleReady t s e then m
  else
    let m := if (m.lane t s).latD < e then m.latchDac t s e else m
    let p := Page.lane t s
    let seq := (m.lane t s).owner == some .seq && m.r (.seq t) .seqState == 4 && (m.seq t).started
    let m := (m.due e).closeStep t s e
    let m := if (m.lane t s).hold && m.srcOf t s != 1 then m
             else if seq then m.seqSample t s e
             else match m.srcOf t s with
               | 0 => m.directSample t s
               | 1 => m.queueSample t s e
               | _ => m
    let m := match (m.lane t s).rngPend with
      | some (ir, true) =>
        if ((m.lane t s).rangeS.map fun x => decide (x + 160 ≤ e)).getD true && !m.xferHolds t s e then
          ((m.modLane t s fun d => { d with rngPend := none }).admitRange t s ir e).1
        else m
      | _ => m
    let m := m.modLane t s fun d => { d with dacLast := e, dacNext := e + m.l p .laneDacDiv }
    ((m.ddsAdvance t s).dacDrive t s).badCheck t s e

/-! The load strobe (R49, R53, R54, R144). -/

/-- The lane's previous DAC update as a load strobe sees it (R53): in DDS the synthesis updates the DAC by itself, and the latest
entry played counts (R142). -/
def LaneDyn.lastUpdate (d : LaneDyn) : Nat := if d.dds then d.playLast else d.dacLast

/-- A load strobe of the lane's group is delivered on tick `e` with hop count `h`: one less than 80 ticks after the lane's
previous DAC update is dropped (R53), one that finds no entry holds the DAC (R54), and one of a run plays from its anchor on
(R141). -/
def State.strobeLane (m : State) (t s e h : Nat) : State :=
  let d := m.lane t s
  let run := match d.owner with | some (.ctx _) => true | _ => false
  if d.lastUpdate ≠ 0 ∧ e < d.lastUpdate + 80 then m.dropBusy t (64 + s)
  else if !run then m.dry t s e
  else if !d.qGate ∨ e ≤ d.qFrom then m
  else
    let m := (m.closeStep t s e).badCheck t s e
    let d := m.lane t s
    if d.owner.isNone then m
    else
      let first := match d.dacQ with | q :: _ => q.rep == 0 | [] => true
      if first && decide (e ≤ d.dwellEnd) && decide (d.dwellEnd ≠ 0) then m
      else if d.heldBack then m.dry t s e
      else (m.playEntry t s e (some h)).dacDrive t s

/-- A strobe of group `g` on tick `e` after the end of a timed wait of a context that is not ARMED yet (R141): once the first step is
queued the run goes on, so that the step plays on this strobe; before that the strobe is a slip. -/
def State.lateStrobe (m : State) (t s g e : Nat) : State :=
  let d := m.lane t s
  match d.owner with
  | some (.ctx id) =>
    let c := m.ctx id
    match c.waitI with
    | some w =>
      let z := d.dwellEnd + w.time
      if c.st ≠ .running ∨ c.slot ≠ s ∨ c.steps = 0 ∨ !w.timed ∨ e ≤ z then m
      else if d.dacQ.any (·.cfg.strobe) ∧ c.qTick < e then m.afterWait id z
      else m.setCtx id { c with late := g :: c.late }
    | none => m
  | _ => m

/-- LOAD_STROBE of group `g` on tick `e`, in every powered tile. -/
def State.strobeOp (m : State) (g e h : Nat) : State :=
  (List.range 16).foldl (fun m t => (List.range 10).foldl (fun m s =>
    if !m.laneOn t s then m
    else
      let m := m.lateStrobe t s g e
      if m.srcOf t s == 2 && m.l (.lane t s) .laneDacGroup == g then m.strobeLane t s e h else m) m) m

/-! The ADC sample (R45, R58, R61, R80, R82, R267, R275). -/

/-- The full scales of voltage and current that the lane's codes are taken against: a leader's current against the gang FS
(R47, R89). -/
def State.adcFs (m : State) (t s : Nat) : Nat × Nat :=
  let g := m.gov t s
  (m.vFs t (g .laneForceVrange), m.gangN t s * m.iFs t (g .laneForceIrange))

/-- A trip clamp or a fold-back limits the current (R257, R258, R260, R267, R281, R340). -/
def State.limited (m : State) (t s : Nat) : Bool := m.r (.lane t s) .laneFoldback == 1 || m.tripped t s

/-- The clamp that sets the output is engaged (R58): the current clamp in FV and FVMV, the voltage clamp in FI. -/
def State.clampOn (m : State) (t s : Nat) (x : AdcIn) : Bool :=
  m.forcesOn t s && m.sw t s != .pin &&
    ((m.limited t s && x.clampI) || (match m.gov t s .laneForceMode with | 1 | 3 => x.clampI | 2 => x.clampV | _ => false))

/-- COMPL follows the clamp (R58), and with it which of the two clamps is engaged; out of voltage compliance the open-load
supervisor arms again (R61). -/
def State.complStep (m : State) (t s e : Nat) (on isI : Bool) : State :=
  let p := Page.lane t s
  let d := m.lane t s
  if m.r p .laneCompl = 1 then
    let ticks := (d.complTicks + (e - d.adcLast.getD e)) % 2 ^ 48
    if !on && d.outCnt ≥ 1 then
      (((m.w p .laneCompl 0).flag p .laneComplOut).laneEvent t s .complOut e).modLane t s fun d =>
        { d with complTicks := ticks, outCnt := 0, openDone := false, longDone := false }
    else m.modLane t s fun d =>
      { d with complTicks := ticks, outCnt := if on then 0 else d.outCnt + 1, complIsI := if on then isI else d.complIsI,
               openDone := d.openDone && !(on && isI) }
  else if on then
    ((((m.w p .laneCompl 1).flag p .laneComplIn).inc p .laneComplCnt).laneEvent t s .complIn e).modLane t s fun d =>
      { d with complSince := e, complIsI := isI, outCnt := 0 }
  else m

/-- The open-load conditions (R61): LEVEL at least 1 % of FS, voltage compliance, the current below 10 % of the programmed. -/
def State.openLoadNow (m : State) (t s : Nat) (x : AdcIn) : Bool :=
  let g := m.gov t s
  let lv := (m.lane t s).dacLevel.natAbs
  m.sw t s == .connected && !m.follower t s && g .laneForceMode == 2 && m.r (.lane t s) .laneCompl == 1 &&
    !(m.lane t s).complIsI && decide (524288 ≤ 100 * lv) &&
    decide (x.cur.natAbs * 10 * 524288 < lv * (m.adcFs t s).2)

/-- Short compliance (R267). -/
def State.shortNow (m : State) (t s : Nat) : Bool :=
  let p := Page.lane t s
  let g := m.gov t s
  let md := g .laneForceMode
  let lim := if md = 3 then 70000000000 * 64000 else max (m.clampHi t g) (m.clampLo t g)
  m.actSw t s == .connected && !m.boosted t s && !m.follower t s && (md == 3 || (md == 1 && g .laneForceIrange == 6)) &&
    decide (10000000000 * 64000 < lim) && m.r p .laneCompl == 1 && (m.lane t s).complIsI && m.r p .laneFoldback == 0

/-- The lane runs the open check (R272). -/
def State.openCheck (m : State) (t s : Nat) : Bool :=
  let g := m.inForce t s
  let g : Fld → Nat := fun f => if f = .laneForceMode then m.gov t s f else g f
  m.actSw t s == .connected && decide (1 ≤ g .laneForceMode) && decide (g .laneForceMode ≤ 3) && g .lanePersSel != 2 &&
    g .laneSenseSel == 0 && !m.boosted t s && !m.follower t s && g .laneSupvProbe == 1

/-- The supervisors' and the fold-back's conditions as this sample finds them (R61, R267, R268), and the last eight mismatches
of the open check's phase in µV (R272), which pauses during the ranging window. -/
def State.watchStep (m : State) (t s e : Nat) (x : AdcIn) : State :=
  let compl := m.r (.lane t s) .laneCompl == 1
  let op := m.openLoadNow t s x
  let sh := m.shortNow t s
  let out := m.r (.lane t s) .laneFoldback == 1 && !(compl && (m.lane t s).complIsI)
  let chk := m.openCheck t s
  m.modLane t s fun d =>
    { d with mism := if !chk then [] else if d.rangeS.isSome then d.mism else ((x.vOut - x.vMeas) :: d.mism).take 8,
             openSince := if op then d.openSince <|> some e else none,
             shortSince := if sh then d.shortSince <|> some e else none,
             exitSince := if out then d.exitSince <|> some e else none }

/-- The highest range that AUTO takes: the lowest whose FS is at least the programmed clamp (R80). -/
def State.autoTop (m : State) (t s : Nat) : Nat :=
  let g := m.inForce t s
  let c := max (g .laneClampHiMag * m.iFs t (g .laneClampHiScale)) (g .laneClampLoMag * m.iFs t (g .laneClampLoScale))
  min (((List.range 7).find? fun k => decide (c ≤ 64000 * m.iFs t k)).getD 6) (m.l (.lane t s) .laneRangeAmax)

/-- Hardware takes IRANGE `ir` on tick `e`, where the governor admits it; before S + 160 the step moves (R79, R80, R86). -/
def State.autoMove (m : State) (t s ir e : Nat) : State :=
  let m := m.modLane t s fun d => { d with upCnt := 0, downCnt := 0 }
  if ((m.lane t s).rangeS.map fun x => decide (e < x + 160)).getD false || m.xferHolds t s e then
    m.modLane t s fun d => { d with rngPend := some (ir, false) }
  else (m.admitRange t s ir e).1

/-- AUTO ranging (R80): up after two samples above 95 % of FS, down after 32 below 8 %; not while the ADC is taken from the lane's
signal (R324). -/
def State.autoStep (m : State) (t s e : Nat) (x : AdcIn) : State :=
  let p := Page.lane t s
  let ir := m.l p .laneForceIrange
  let fs := m.iFs t ir
  if m.l p .laneRangeAuto = 0 ∨ m.l p .laneForceMode ≠ 1 ∨ m.sw t s ≠ .connected ∨ (m.gangOf t s).isSome ∨ m.boosted t s ∨
      (m.lane t s).rngPend.isSome ∨ (m.lane t s).hold then
    m.modLane t s fun d => { d with upCnt := 0, downCnt := 0 }
  else
    let up := decide (95 * fs < 100 * x.cur.natAbs)
    let dn := decide (100 * x.cur.natAbs < 8 * fs)
    let m := m.modLane t s fun d => { d with upCnt := if up then d.upCnt + 1 else 0, downCnt := if dn then d.downCnt + 1 else 0 }
    let d := m.lane t s
    if d.upCnt ≥ 2 ∧ ir < m.autoTop t s then m.autoMove t s (ir + 1) e
    else if d.downCnt ≥ 32 ∧ m.l p .laneRangeAmin < ir ∧ !over95 d.histI (m.iFs t (ir - 1)) then m.autoMove t s (ir - 1) e
    else m

/-- The rail floor in effect: a floor above the ceiling acts as the ceiling (R83). -/
def railFloor (g : Fld → Nat) : Nat := min (g .laneRailFloor) (railCeil g)

/-- The rail that an output of `uv` µV asks for, within floor and ceiling (R82). -/
def railNeed (g : Fld → Nat) (uv : Nat) : Nat :=
  let k := if uv + 500000 < railReach 0 then 0 else if uv + 500000 < railReach 1 then 1 else 2
  min (max k (railFloor g)) (railCeil g)

/-- The rail in use moves up with the output, and down at once only to its ceiling; the samples that allow a further move down are
counted from there (R82). In PIN it is B (R84). On a
booster lane the output is that of the lane's own loop at BDRV (DESIGN CHOICE, log entry 44). -/
def State.railStep (m : State) (t s : Nat) (x : AdcIn) : State :=
  let p := Page.lane t s
  let rl := m.r p .laneRail
  if m.sw t s = .pin then (m.w p .laneRail 1).modLane t s fun d => { d with railCnt := 0 }
  else
    let g : Fld → Nat := fun f => if f = .laneForceVrange then m.gov t s f else m.inForce t s f
    let z := max (min rl (railCeil g)) (railNeed g x.vOut.natAbs)
    let m := if z ≠ rl then m.w p .laneRail z else m
    let low := decide (railFloor g < z) && decide (x.vOut.natAbs + 500000 ≤ railReach (z - 1))
    m.modLane t s fun d => { d with railCnt := if low then (if z = rl then d.railCnt else 0) + 1 else 0 }

/-- The level of LANE_CONNECT in µV × 524,288 (R108, R275). -/
def State.connectUv (m : State) (t s : Nat) : Int :=
  sext 20 (m.r (.lane t s) .laneConnectLevel) * (if m.boosted t s then m.vFs t 3 else 8000000 : Nat)

/-- The swap check runs on the lane (R275, R277): SEL = REMOTE, no booster lane, no gang member but the leader. -/
def State.swapRuns (m : State) (t s : Nat) : Bool :=
  m.l (.lane t s) .laneSenseSel == 0 && !m.boosted t s && !m.follower t s

/-- The swap check counts a sample whose loop error exceeds +20 mV (R275). -/
def State.swapStep (m : State) (t s e : Nat) (x : AdcIn) : State :=
  let d := m.lane t s
  if m.sw t s = .connecting ∧ m.swapRuns t s ∧ d.since + 400 ≤ e ∧ e < d.since + 1200
      ∧ 20000 * 524288 < m.connectUv t s + (50000 - x.vMeas) * 524288 then
    m.modLane t s fun d => { d with swapHits := d.swapHits + 1, swapErr := m.connectUv t s / 524288 + 50000 - x.vMeas }
  else m

/-- One sample enters an aperture that holds it. The word of the quantity that it is not takes its flags and the range in force
at it too: RANGING and COMPL are the aperture's, and the FS is that at the aperture's last sample (R47); OVER stays with the
quantity whose samples reached ± FS (log entry 44). -/
def addSample (v i : SampleAcc) (isI : Bool) (x : AdcIn) (fs : Nat × Nat) (ranging compl stale : Bool) : SampleAcc × SampleAcc :=
  if isI then (v.note fs.1 ranging compl stale, i.add x.rawI fs.2 ranging compl stale)
  else (v.add x.rawV fs.1 ranging compl stale, i.note fs.2 ranging compl stale)

/-- The measurement of a pulse ends (R74). -/
def PulseMeas.stop (q : PulseMeas) : Nat := q.start + apTicks q.avg q.qty

/-- Pulse measurements whose apertures have ended by tick `e` give their results (R74). -/
def State.closePm (m : State) (t s e : Nat) : State :=
  ((m.lane t s).pm.filter fun q => decide (q.stop ≤ e)).foldl (fun m q =>
    let m := if q.v.n = 0 ∧ q.i.n = 0 then m else m.w (.lane t s) .lanePulseResult (apWord q.v q.i)
    (m.laneEvent t s .pulseMeas q.stop).modLane t s fun d => { d with pm := d.pm.filter fun o => o.start != q.start }) m

/-- In a transfer a current result is the sum of the two elements' shunt currents, from H0 + 8,400 to H0 + 24,800, and a voltage
result comes from the element that holds the loop, the other one once the swap is made (R340). The other element's samples are
those of slot 9, taken on the same tick before the lane's (log entry 24). -/
def State.xferSum (m : State) (t s e : Nat) (x : AdcIn) : AdcIn :=
  match (m.subst t).xfer with
  | some f =>
    let o := m.lane t 9
    if s ≠ f.slot ∨ f.stage = 9 ∨ e < f.h0 + 8400 ∨ f.h0 + 24800 < e ∨ f.mv then x
    else { x with rawI := x.rawI + o.lastI, rawV := if f.stage = 3 then o.lastV else x.rawV }
  | none => x

/-- While the lane is held for its calibration its samples are the last ones measured before the hold (R324). OVER is judged on the
sample as corrected, which the spec leaves open (DESIGN CHOICE, log entry 44). The sample enters
the lane's own aperture, the step's and the pulses' (R46, R74, R140), and the acquisition, which takes the quantity that the
lock's owner selects while a step's aperture is open (R25, R213); a pulse's aperture takes AVG and QTY as they are at its first
sample (R74). -/
def State.gather (m : State) (t s e : Nat) (x : AdcIn) (on : Bool) : State :=
  let p := Page.lane t s
  let fs := m.adcFs t s
  let md := m.gov t s .laneForceMode
  let pin := m.sw t s == .pin
  let d := m.lane t s
  let x := if d.hold then { x with rawV := d.lastV, rawI := d.lastI }
           else m.xferSum t s e { x with rawV := m.reading t s false x.rawV, rawI := m.reading t s true x.rawI }
  let ranging := match d.rangeS with | some z => decide (z ≤ e) && decide (e < z + 1600) | none => false
  let isI := sampleIsI (m.l p .laneMeasQty) md pin e
  let add (v i : SampleAcc) (b : Bool) := addSample v i b x fs ranging on d.hold
  let own := if d.apStart ≤ e then add d.accV d.accI isI else (d.accV, d.accI)
  let step := d.step.map fun st =>
    if st.apStart ≤ e ∧ e < st.apEnd then
      let b := sampleIsI st.cfg.qty md pin e
      let r := add st.v st.i b
      { st with v := r.1, i := r.2 }
    else st
  let pm := d.pm.map fun q =>
    let q := if q.start = e then { q with avg := m.l p .laneMeasAvg, qty := m.l p .laneMeasQty } else q
    if q.start ≤ e ∧ e < q.stop then
      let r := add q.v q.i (sampleIsI q.qty md pin e)
      { q with v := r.1, i := r.2 }
    else q
  let seen := match d.step with
    | some st => if st.apStart ≤ e ∧ e < st.apEnd then sampleIsI st.cfg.qty md pin e else isI
    | none => isI
  let m := m.setLane t s { d with accV := own.1, accI := own.2, step := step, pm := pm, lastV := x.rawV, lastI := x.rawI }
  m.acqSample t s seen (if seen then x.rawI else x.rawV) (if seen then fs.2 else fs.1) ranging on d.hold e

/-- An ANALOG frame of the tile's acquisition has to end before a sample of this slot on tick `e` is taken (R212). -/
def State.frameDue (m : State) (t s e : Nat) : Bool :=
  let p := Page.acq t
  let st := m.r p .acqState
  (st == 2 || st == 3 || st == 4 || st == 5) && m.r p .acqSrc == 0 && (m.r p .acqLanes).testBit s &&
    decide ((m.acq t).frameT + m.acqPeriod t ≤ e)

/-- ADC_SAMPLE with what the front-end presents. An AUTO step that the sample brings about starts its range change there, so that the
sample lies in its window (R75, R77, R80). -/
def State.adcOp (m : State) (t s : Nat) (x : AdcIn) : State :=
  let e := m.nextAdc t s
  if !m.laneOn t s ∨ m.frameDue t s e then m
  else
    let m := if (m.lane t s).latA < e then m.latchAdc t s e else m
    let m := (((m.due e).closeAp t s e).closePm t s e).closeStep t s e
    let m := match (m.lane t s).rngPend with
      | some (ir, false) =>
        if ((m.lane t s).rangeS.map fun z => decide (z + 160 ≤ e)).getD true && !m.xferHolds t s e then
          ((m.modLane t s fun d => { d with rngPend := none }).admitRange t s ir e).1
        else m
      | _ => m
    let on := m.clampOn t s x
    let m := m.complStep t s e on (m.gov t s .laneForceMode != 2 || !x.clampV)
    let m := m.modLane t s fun d =>
      { d with histV := (x.vMeas :: d.histV).take 4, histI := (x.cur :: d.histI).take 4, outUv := x.vOut }
    let m := (m.autoStep t s e x).gather t s e x on
    let m := ((m.watchStep t s e x).railStep t s x).swapStep t s e x
    let m := if m.tapped t s then m.followTap t s else m
    m.modLane t s fun d => { d with adcLast := some e }

end Sys2Proof.Machine
end

