-- ==== Sys2Proof/Machine/Sampling.lean ====
section
/-! DEFINITION. The events of a lane's sample instants, its apertures, supervisors, pulse trains and personality transitions
(R22, R45 to R63, R69 to R84, R96 to R107). -/

namespace Sys2Proof.Machine

def execLatchTick (t s : Nat) (m : State) : Out := done (m.latchOp t s)

def execDacSample (t s : Nat) (m : State) : Out := done (m.dacOp t s)

/-- LOAD_STROBE: the delivery falls on the present tick. -/
def execLoadStrobe (g hop : Nat) (m : State) : Out := done (m.strobeOp g m.pace hop)

def execAdcSample (t s : Nat) (x : AdcIn) (m : State) : Out := done (m.adcOp t s x)

/-- APERTURE_END: the lane's aperture and the step's, where their last samples have been taken (R46, R144). -/
def State.apertureOp (m : State) (t s : Nat) : State :=
  let z := (m.lane t s).sampledTo
  if m.laneOn t s then ((m.due (min z (m.apEnd t s))).closeAp t s z).closeStep t s z else m

def execApertureEnd (t s : Nat) (m : State) : Out := done (m.apertureOp t s)

/-- At S + 160 the old element opens (R75). -/
def State.elementOp (m : State) (t s : Nat) : State :=
  match (m.lane t s).rangeS with
  | some z => if (m.lane t s).oldElem then (m.due (z + 160)).modLane t s fun d => { d with oldElem := false } else m
  | none => m

def execOldElementOpen (t s : Nat) (m : State) : Out := done (m.elementOp t s)

/-- At S + 1,600 the ranging window ends, and a blanked monitor compares again, against the new range reference (R75, R77,
R255). -/
def State.rangeEndOp (m : State) (t s : Nat) : State :=
  match (m.lane t s).rangeS with
  | some z =>
    let e := z + 1600
    (((m.due e).modLane t s fun d => { d with rangeS := none, oldElem := false }).wmEval t s 0 e e 0).wmEval t s 1 e e 0
  | none => m

def execRangingWindowEnd (t s : Nat) (m : State) : Out := done (m.rangeEndOp t s)

/-- The rail moves down after 64 samples, not below its floor (R82, R83), and not in PIN, which draws from B (R84). -/
def State.railDownOp (m : State) (t s : Nat) : State :=
  let rl := m.r (.lane t s) .laneRail
  let g : Fld → Nat := fun f => if f = .laneForceVrange then m.gov t s f else m.inForce t s f
  if 64 ≤ (m.lane t s).railCnt ∧ railFloor g < rl ∧ m.sw t s ≠ .pin then
      (m.w (.lane t s) .laneRail (rl - 1)).modLane t s fun d => { d with railCnt := 0 }
  else m

def execRailMoveDown (t s : Nat) (m : State) : Out := onlyIf (m.laneOn t s) m (m.railDownOp t s)

/-- OPEN_LOAD after DWELL microseconds (R61). -/
def State.openLoadOp (m : State) (t s : Nat) : State :=
  let d := m.lane t s
  match d.openSince with
  | some z =>
    let e := z + 800 * m.l (.lane t s) .laneSupvDwell
    if !d.openDone && decide (e ≤ d.sampledTo) then
      let m := (((m.due e).modLane t s fun d => { d with openDone := true }).flag (.lane t s) .laneOpenLoad).laneEvent t s .openLoad e
      m.applyAct t s e false
    else m
  | none => m

def execOpenLoad (t s : Nat) (m : State) : Out := onlyIf (m.laneOn t s) m (m.openLoadOp t s)

/-- COMPL_LONG: compliance of either kind for longer than CLIM microseconds (R62), of a gang by its leader's LANE_SUPV (R89). -/
def State.complLongOp (m : State) (t s : Nat) : State :=
  let d := m.lane t s
  let lim := m.l (.lane t s) .laneSupvClim
  let e := d.complSince + 800 * lim + 1
  if lim ≠ 0 ∧ m.r (.lane t s) .laneCompl = 1 ∧ !d.longDone ∧ e ≤ d.sampledTo ∧ !m.follower t s then
    let m := (((m.due e).modLane t s fun d => { d with longDone := true }).flag (.lane t s) .laneComplLong).laneEvent t s .complLong e
    m.applyAct t s e false
  else m

def execComplLong (t s : Nat) (m : State) : Out := onlyIf (m.laneOn t s) m (m.complLongOp t s)

/-! Pulse trains (R69 to R74). -/

/-- LANE_PULSE.CMD = START with the COUNT that stands. -/
def State.pulseCmd (m : State) (fn t s c : Nat) : State :=
  m.laneWrite fn t s 0x13C (BitVec.ofNat 32 (m.r (.lane t s) .lanePulseCount + c * 65536))

def execPulseStartCmd (fn t s : Nat) (m : State) : Out :=
  byHost (.pulseStartCmd fn t s) fn (m.hostAt fn (.lane t s)) m (m.pulseCmd fn t s 1)

/-- LANE_PULSE.CMD = STOP. -/
def execPulseStopCmd (fn t s : Nat) (m : State) : Out :=
  byHost (.pulseStopCmd fn t s) fn (m.hostAt fn (.lane t s)) m (m.pulseCmd fn t s 2)

/-- A delivery on LANE_PULSE_GO on tick `e` (R70, R71, R289). -/
def State.pulseGoIn (m : State) (t s e h : Nat) : State :=
  if m.pulseOk t s && !m.follower t s then m.pulseGo t s e (h + 1) else m.dropBusy t s

def execLanePulseGo (t s hop : Nat) (m : State) : Out := onlyIf (m.laneOn t s) m
  (m.activation t s m.pace fun m => m.pulseGoIn t s m.pace hop)

/-- A pulse starts: the DAC goes to TOP (R70), held to the reach (R83), in a gang on every member (R89), and its measurement is
placed (R74). -/
def State.pulseStartOp (m : State) (t s : Nat) : State :=
  let p := Page.lane t s
  match (m.lane t s).pulse with
  | some q =>
    if q.onTop ∨ m.sw t s ≠ .connected then m
    else
      let e := q.start
      let m := ((m.due e).driveOut t s (m.gov t s) (m.lane t s).dacLevel (sext 20 (m.l p .lanePulseTop))).modLane t s fun d =>
        { d with pulse := some { q with onTop := true },
                 pm := d.pm ++ [{ start := ceilMul 50 (e + m.l p .lanePulseMdelay), avg := m.l p .laneMeasAvg,
                                  qty := m.l p .laneMeasQty }] }
      m.laneEvent t s .pulseStart e (if q.done = 0 then q.hop else 0)
  | none => m

def execPulseStart (t s : Nat) (m : State) : Out := onlyIf (m.laneOn t s) m (m.pulseStartOp t s)

/-- A pulse ends WIDTH ticks after its start, and with its last one the train (R70, R72). -/
def State.pulseEndOp (m : State) (t s : Nat) : State :=
  let p := Page.lane t s
  match (m.lane t s).pulse with
  | some q =>
    if !q.onTop then m
    else
      let e := q.start + m.l p .lanePulseWidth
      let n := q.done + 1
      let cnt := m.l p .lanePulseCount
      let per := m.l p .lanePulsePeriod
      if q.stopReq ∨ per = 0 ∨ (cnt ≠ 0 ∧ cnt ≤ n) then
        ((m.due e).endTrain t s e).dacDrive t s
      else
        ((m.due e).modLane t s fun d =>
          { d with pulse := some { q with onTop := false, done := n, start := q.start + per } }).dacDrive t s
  | none => m

def execPulseEnd (t s : Nat) (m : State) : Out := onlyIf (m.laneOn t s) m (m.pulseEndOp t s)

/-- PULSE_MEAS: the measurements whose last samples have been taken (R74). -/
def State.pulseMeasOp (m : State) (t s : Nat) : State :=
  let z := (m.lane t s).sampledTo
  match (m.lane t s).pm.find? fun q => decide (q.stop ≤ z) with
  | some q => (m.due q.stop).closePm t s q.stop
  | none => m

def execPulseMeas (t s : Nat) (m : State) : Out := onlyIf (m.laneOn t s) m (m.pulseMeasOp t s)

/-! Personality transitions (R99, R105, R106). -/

/-- DDS_ZERO_CROSS_EXIT: the DAC sample at which the accumulator wraps (R99). -/
def State.zeroCrossOp (m : State) (t s : Nat) : State :=
  let d := m.lane t s
  if d.dds && d.ddsExit && decide (2 ^ 48 ≤ d.ddsAcc + d.ddsFreqL) then m.dacOp t s else m

def execDdsZeroCrossExit (t s : Nat) (m : State) : Out := done (m.zeroCrossOp t s)

/-- A transition ends on tick `e`: the estimate is that of the new state unless a sequence holds it (R86), and a disconnect that
was held is acted on (R108). -/
def State.transEnd (m : State) (t s e : Nat) : State :=
  let m := m.modLane t s fun d => { d with estHold := if d.owner == some .seq then d.estHold else none }
  (m.actPend t s e).overSettle

/-- The steps of TO_PIN: 8,000, 8,400 and 8,800 ticks after its start (R105). -/
def State.toPinOp (m : State) (t s : Nat) : State :=
  let d := m.lane t s
  let z := d.since
  if m.sw t s ≠ .toPin then m
  else match d.toStep with
    | 0 => (m.due (z + 8000)).setLane t s { d with pinSw := true, toStep := 1 }
    | 1 => (m.due (z + 8400)).setLane t s { d with forceSw := false, senseSw := false, toStep := 2 }
    | _ => (((m.due (z + 8800)).setSw t s .pin (z + 8800)).wmSettle t s (z + 8800)).transEnd t s (z + 8800)

def execToPinStep (t s : Nat) (m : State) : Out := done (m.toPinOp t s)

/-- The steps of TO_SMU: 8,000, 8,400 and 8,800 ticks after its start; at the last hardware writes LANE_FORCE (R106). -/
def State.toSmuOp (m : State) (t s : Nat) : State :=
  let d := m.lane t s
  let z := d.since
  let p := Page.lane t s
  if m.sw t s ≠ .toSmu then m
  else match d.toStep with
    | 0 => (m.due (z + 8000)).setLane t s { d with senseSw := true, forceSw := true, toStep := 1 }
    | 1 =>
      let drv := { d.drv with on := false, powered := false, tripped := false, release := none }
      (m.due (z + 8400)).setLane t s { d with pinSw := false, toStep := 2, drv := drv }
    | _ =>
      let e := z + 8800
      let lv := m.parkCode t s 8000000
      let m := (m.due e).hwLive p [(.laneForceLevel, enc 20 lv), (.laneForceMode, 1), (.laneForceVrange, 1)]
      let m := (m.latch p [.laneForceLevel, .laneForceMode, .laneForceVrange, .laneForceIrange, .lanePersSel]).setSw t s .connected e
      let m := m.modLane t s fun d => { d with dacNext := max d.dacNext e }
      (m.driveTo t s (m.gov t s) lv).transEnd t s e

def execToSmuStep (t s : Nat) (m : State) : Out := done (m.toSmuOp t s)

end Sys2Proof.Machine
end

