-- ==== Sys2Proof/Machine/XferOps.lean ====
section
/-! DEFINITION. The substitute lane's operations (R332 to R348): service requests, eligibility, the transfer's steps and what
follows each. -/

namespace Sys2Proof.Machine

/-- The substitute takes a state of R338 and a slot, 15 for none. -/
def State.substSet (m : State) (t st slot : Nat) : State :=
  m.ws (.tile t) [(.tileSubstState, st), (.tileSubstSlot, slot)]

/-- The state of the substitute and the slot that it serves or is moved to. -/
def State.substSt (m : State) (t : Nat) : Nat := m.r (.tile t) .tileSubstState
def State.substSlot (m : State) (t : Nat) : Nat := m.r (.tile t) .tileSubstSlot

/-- The substitute serves slot `s`, no transfer under way. -/
def State.serves (m : State) (t s : Nat) : Bool :=
  m.substSt t == 3 && m.substSlot t == s && (m.subst t).xfer.isNone

/-- The service queue of a tile, with QDEPTH (R335). -/
def State.setQueue (m : State) (t : Nat) (q : List SvcReq) : State :=
  (m.modSubst t fun x => { x with queue := q }).w (.tile t) .tileSubstQdepth q.length

/-- The slot recorded as retired, 15 for none (R347). -/
def State.retired (m : State) (t : Nat) : Nat := m.nv.retired.getD t 15

/-- The record of a retired slot is kept in MRAM and shown in TILE_SUBST.RETIRED (R347). -/
def State.setRetired (m : State) (t s : Nat) : State :=
  ({ m with nv := { m.nv with retired := m.nv.retired.set t s } } : State).w (.tile t) .tileSubstRetired s

/-! Requests (R343, R345, R347). -/

/-- What a service request meets at its admission: refused with a code, complete at once, or queued. -/
inductive SvcPath where
  | refused (code : Nat)
  | atOnce
  | queued
deriving DecidableEq, Repr

/-- The admission of a service request `op` for (t, s), checks in the model's order (log entry 13). Slot 9 can be named by a
TEST, which runs in place (R338, R344; log entry 24). -/
def State.svcPath (m : State) (op t s waitMs doneEv : Nat) : SvcPath :=
  let under := m.underXfer t s
  let served := m.serves t s
  if 15 < t ∨ 9 < s ∨ (s = 9 ∧ op ≠ 3) ∨ 65535 < waitMs ∨ 15 < doneEv then .refused 13
  else if !m.tileOn t || (m.tile t).goingDown then .refused 6
  else
    let p : SvcPath := match op with
      | 1 | 3 => if served || under then .refused 5 else .queued
      | 2 => if served then .queued else .refused 5
      | 4 =>
        if m.retired t = s then .atOnce
        else if m.retired t ≠ 15 ∨ under then .refused 5
        else if served then .atOnce else .queued
      | _ =>
        if m.retired t ≠ s ∨ under then .refused 5
        else if served then .queued else .atOnce
    if p = .queued ∧ 8 ≤ (m.subst t).queue.length then .refused 8 else p

/-- A service request of PF0 (R345): the state, and the status with which it is taken. -/
def State.svcTry (m : State) (op t s waitMs doneEv : Nat) : State × Nat :=
  match m.svcPath op t s waitMs doneEv with
  | .refused c => ({ m with cur := { m.cur with svcSt := c, svcId := 65536 } }, c)
  | path =>
    let k := m.cur.nextTicket
    let r : SvcReq := { ticket := k, op := op, slot := s, waitMs := waitMs, doneEv := doneEv, since := m.pace }
    let m : State := { m with cur := { m.cur with
      nextTicket := (k + 1) % 65536, svcId := k, svcSt := 0xFFFFFFFF, svcOut := tabSet m.cur.svcOut k 0xFFFFFFFF } }
    let m := if op = 5 then m.setRetired t 15 else m
    if path = .atOnce then ((if op = 4 then m.setRetired t s else m).svcDone r 0, 0)
    else (m.setQueue t ((m.subst t).queue ++ [r]), 0)

/-- The request under its front-end test, or whose hand-back waits, leaves; a substitute that tested itself is FREE again
(R338). -/
def State.testLeaves (m : State) (t : Nat) (r : SvcReq) : State :=
  let m := m.modSubst t fun q => { q with active := none, testing := false }
  if r.slot = 9 then m.w (.tile t) .tileSubstState 0 else m

/-- SVC_REQ with OP ABORT (R345, R346): a queued request ends at once, a running transfer aborts; a request whose front-end test
runs ends and leaves the lane served (log entry 24). -/
def State.svcAbortTry (m : State) (ticket : Nat) : State × Nat :=
  let own (t : Nat) : Bool :=
    (m.subst t).queue.any (fun r => r.ticket == ticket) || (m.subst t).active.any (fun r => r.ticket == ticket) ||
      (((m.subst t).xfer.bind (·.req)).any fun r => r.ticket == ticket)
  match (List.range 16).find? own with
  | none => ({ m with cur := { m.cur with svcSt := 16, svcId := 65536 } }, 16)
  | some t =>
    let q := m.subst t
    let m := match q.queue.find? fun r => r.ticket == ticket with
      | some r => (m.setQueue t (q.queue.filter fun o => o.ticket != ticket)).svcDone r 2
      | none => match q.active with
        | some r => (m.testLeaves t r).svcDone r 2
        | none => m.xferAbort t 6 2 (m.pace + 1)
    ({ m with cur := { m.cur with svcSt := 0, svcId := 65536 } }, 0)

/-! Eligibility (R336). -/

/-- The last test or calibration of slot `s`'s own front-end has failed or passed (R336, R346). -/
def SubstDyn.mark (q : SubstDyn) (s : Nat) (bad : Bool) : SubstDyn :=
  let l := q.failed.filter (· != s)
  { q with failed := if bad then insertUp s l else l }

/-- The sequencer's table holds no VECTOR and no DDS segment. -/
def State.seqPlain (m : State) (t : Nat) : Bool :=
  (List.range (m.seqLastSeg t + 1)).all fun n => let e := m.segOf t n; e.src != 1 && e.src != 2

/-- What keeps a transfer of slot `s` from starting (R336): none, a status of R487, or a wait, 99. -/
def State.xferBar (m : State) (t s : Nat) (back : Bool) : Option Nat :=
  let p := Page.lane t s
  let g := m.inForce t s
  let d := m.lane t s
  if !m.tileOn t then some 6
  else if (m.gangOf t s).isSome || m.boosted t s then some 5
  else if back && (m.subst t).failed.contains s then some 5
  else if m.sw t s = .disconnected then (if d.owner = some .curator then some 99 else none)
  else if (m.sw t s ≠ .connected ∧ m.sw t s ≠ .measureOnly) || m.r p .lanePersSel != 0 || g .lanePersSel != 0 || d.dds ||
      g .laneForceMode == 0 || d.pulse.isSome || m.r p .laneCompl == 1 || m.r p .laneFoldback == 1 then some 99
  else match d.owner with
    | some .curator => some 99
    | some .seq => if m.seqPlain t then none else some 99
    | _ => none

/-- The substitute is FREE and runs no check (R338, R344). -/
def State.substIdle (m : State) (t : Nat) : Bool :=
  let q := m.subst t
  m.substSt t == 0 && q.xfer.isNone && !q.checking && q.active.isNone && !q.testing

/-- The substitute is ready for a handover: its last self-check, test and calibration did not fail (R336, R344). -/
def State.substReady (m : State) (t : Nat) : Bool := m.substIdle t && !(m.subst t).blocked

/-! The crosspoint (R332, R334, R338). -/

/-- The lane is served by the substitute. -/
def State.served (m : State) (t s : Nat) : Bool := decide (s < 9) && m.r (.lane t s) .laneServedBy == 1


/-- The crosspoint's FORCE and SENSE switches to the slot of TILE_SUBST.SLOT. -/
def State.crossForce (m : State) (t : Nat) : Bool :=
  if m.served t (m.substSlot t) then (m.lane t (m.substSlot t)).forceSw else m.otherForceOn t
def State.crossSense (m : State) (t : Nat) : Bool :=
  if m.served t (m.substSlot t) then (m.lane t (m.substSlot t)).senseSw else (m.subst t).otherSense

/-- A lane's own FORCE and SENSE switches: open while its front-end is rested, but for a transfer. -/
def State.ownForce (m : State) (t s : Nat) : Bool := if m.served t s then m.underXfer t s && m.otherForceOn t else (m.lane t s).forceSw
def State.ownSense (m : State) (t s : Nat) : Bool := if m.served t s then m.underXfer t s && (m.subst t).otherSense else (m.lane t s).senseSw

/-- The slot whose FORCE land the match tap reads (R332). -/
def State.matchTap (m : State) (t : Nat) : Option Nat := if m.substSlot t < 9 then some (m.substSlot t) else none

/-! The transfer (R337, R338). -/

/-- The fields that the new element copies at H0: LANE_FORCE, the clamps, LANE_VCLAMP, LANE_COMP, LANE_RAIL, and the monitors'
settings with LANE_TRIPLIM (R333, R338). -/
def copyFields : List Fld :=
  forceFields ++ clampFields ++ [.laneVclampHi, .laneVclampLo, .laneCompSel, .laneRailFloor, .laneRailCeil, .laneTriplimMag,
    .laneTriplimScale] ++ [0, 1].flatMap fun n =>
    [.laneWmHi n, .laneWmLo n, .laneWmQsel n, .laneWmFilt n, .laneWmClamp n, .laneWmPend n, .laneWmLatch n, .laneWmRblank n, .laneWmHyst n]

/-- The lane's first latch tick after the present one (R22). -/
def State.nextLatch (m : State) (t s : Nat) : Nat :=
  let d := m.lane t s
  let ea := if d.latA < m.nextAdc t s then m.nextAdc t s - 1 else m.nextAdc t s + 49
  let ed := if d.latD < m.nextDac t s then m.nextDac t s - 1 else m.nextDac t s + m.l (.lane t s) .laneDacDiv - 1
  max (m.pace + 1) (if m.followsDac t s then min ea ed else ea)

/-- The self-check of both monitors of the substitute begins (R344). -/
def State.substCheck (m : State) (t e : Nat) : State :=
  (m.modSubst t fun q => { q with checking := true }).modLane t 9 fun d => { d with chk := some (0, e) }

/-- What follows the end of a transfer of slot `s` (R337, R344, R346, R347): the request's outcome or its next part. -/
def State.xferAfter (m : State) (t s : Nat) (back : Bool) (req : Option SvcReq) (forCal : Bool) (e : Nat) : State :=
  let m := if back then (m.substCheck t e).modSubst t fun q => { q with active := none } else m
  let m := if back && forCal then m.modSubst t fun q => { q with calBack := false } else m
  match req with
  | none => m
  | some r =>
    if !back && r.op == 3 then m.modSubst t fun q => { q with active := some r, testing := true }
    else if !back && r.op == 4 then (m.setRetired t s).svcDone r 0
    else m.svcDone r 0

/-- A transfer is admitted: a DISCONNECTED lane is moved on the first tick (R337); another begins at its H0 (R338), and the
Curator takes the lock of a lane that nobody holds (R24). -/
def State.xferBegin (m : State) (t s : Nat) (back : Bool) (req : Option SvcReq) (forCal : Bool) : State :=
  if m.sw t s = .disconnected then
    let m := (m.substSet t (if back then 0 else 3) (if back then 15 else s)).w (.lane t s) .laneServedBy (bit !back)
    m.xferAfter t s back req forCal (m.pace + 1)
  else
    let h0 := m.nextLatch t s
    let locks := (m.lane t s).owner.isNone
    let m := (m.substSet t 1 s).w (.lane t s) .laneHoPhase 1
    let m := if locks then m.modLane t s fun d => { d with owner := some .curator } else m
    m.modSubst t fun q => { q with xfer := some { slot := s, back := back, h0 := h0, mv := m.sw t s == .measureOnly,
                                                  req := req, forCal := forCal, locks := locks }, active := none }

/-- H0: the new element copies the serving element's settings, which are in force at once, and forces the voltage that the match tap
sees on its internal load (R338): in FI as its last sample has shown it, in the other modes the lane's own level. -/
def State.xferStart (m : State) (t : Nat) (x : Xfer) : State :=
  let m := (m.due x.h0).modSubst t fun q => { q with xfer := some { x with started := true } }
  let m := (m.hwLive (.lane t 9) (copyFields.map fun f => (f, m.l (.lane t x.slot) f))).latch (.lane t 9) copyFields
  let m := m.modLane t 9 fun d => { d with dacLevel := (m.lane t x.slot).dacLevel, dacOut := (m.lane t x.slot).dacOut,
                                           conv := m.driving t 9 (m.lane t x.slot).dacOut }
  if m.tapped t x.slot then m.followTap t x.slot else m

/-- A transfer is over: the other element idles, and the lock that the Curator has taken for it goes (R24, R338). -/
def State.xferUnlock (m : State) (t : Nat) (x : Xfer) : State :=
  let m := m.modLane t 9 fun d => { d with dacLevel := 0, dacOut := 0, conv := 0 }
  if x.locks then m.modLane t x.slot fun d => { d with owner := if d.owner = some .curator then none else d.owner } else m

/-- The transfer of slot `s` starts where R336 and the governor admit it: none, or what keeps it. -/
def State.xferTry (m : State) (t s : Nat) (back : Bool) (req : Option SvcReq) (forCal : Bool) : State × Option Nat :=
  match m.xferBar t s back with
  | some c => (m, some c)
  | none =>
    let m' := m.xferBegin t s back req forCal
    match governor m m' t s with
    | some lim => (m.govRefused m' 0 t s lim, some 4)
    | none => (m', none)

/-- The request that the tile takes next: of the served slot a hand-back, else the head of the queue (R343; log entry 24). -/
def State.svcNext (m : State) (t : Nat) : Option SvcReq :=
  let q := (m.subst t).queue
  (q.find? fun r => (r.op == 2 || r.op == 5) && m.serves t r.slot) <|> q.head?

/-- A request leaves the queue. -/
def State.svcLeave (m : State) (t : Nat) (r : SvcReq) : State := m.setQueue t ((m.subst t).queue.erase r)

/-- The request `r` is tried (R336, R343, R347): it starts, it ends with a status, or it waits. -/
def State.svcTake (m : State) (t : Nat) (r : SvcReq) : State :=
  let fin (c : Nat) : State := (m.svcLeave t r).svcDone r c
  let back := r.op == 2 || r.op == 5
  if back then
    if !m.serves t r.slot then fin 5
    else match (m.svcLeave t r).xferTry t r.slot true (some r) false with
      | (m', none) => m'
      | (_, some 99) => m
      | (m', some c) => m'.svcDone r c
  else if r.slot = 9 then
    if m.substIdle t then
      ((m.svcLeave t r).w (.tile t) .tileSubstState 5).modSubst t fun q => { q with active := some r, testing := true }
    else m
  else if r.op = 4 ∧ m.retired t ≠ 15 ∧ m.retired t ≠ r.slot then fin 5
  else if m.serves t r.slot then (if r.op = 4 then ((m.svcLeave t r).setRetired t r.slot).svcDone r 0 else fin 5)
  else if !m.substReady t then m
  else match (m.svcLeave t r).xferTry t r.slot false (some r) false with
    | (m', none) => m'
    | (_, some 99) => m
    | (m', some c) => m'.svcDone r c

/-- TRANSFER_START: the H0 of the transfer that has been admitted; else the hand-back after a calibration or a passed test, else
the request whose turn it is. -/
def State.transferStartOp (m : State) (t : Nat) : State :=
  let q := m.subst t
  if let some x := q.xfer then (if x.started || x.stage != 0 then m else m.xferStart t x)
  else if !m.tileOn t || (m.tile t).goingDown || q.testing then m
  else if q.calBack && m.substSt t == 3 then
    match m.xferTry t (m.substSlot t) true none true with
    | (m', none) => m'
    | _ => m
  else match q.active with
    | some r => (match m.xferTry t r.slot true (some r) false with
      | (m', none) => m'
      | (_, some 99) => m
      | (m', some c) => (m'.modSubst t fun q => { q with active := none }).svcDone r c)
    | none => if (m.tile t).turn.any fun c => c.path == .handed then m else match m.svcNext t with
      | some r => m.svcTake t r
      | none => m

/-! The steps from H0 (R338). -/

/-- The transfer of tile `t` where it has reached `stage`, and has not been aborted. -/
def State.xferAt (m : State) (t stage : Nat) : Option Xfer :=
  (m.subst t).xfer.filter fun x => x.stage == stage && (x.started || stage == 9)

/-- The transfer reaches a further stage. -/
def State.xferTo (m : State) (t : Nat) (x : Xfer) : State := m.modSubst t fun q => { q with xfer := some x }

/-- H0 + 8,000: the new element matches within ±2 mV and its SENSE connection closes, or the transfer aborts with NO_MATCH; in MV
nothing is matched (R338). -/
def State.matchOp (m : State) (t : Nat) (meanUv : Int) : State :=
  match m.xferAt t 0 with
  | some x =>
    let e := x.h0 + 8000
    let m := m.due e
    if x.mv || decide (meanUv.natAbs ≤ 2000) then (m.xferTo t { x with stage := 1 }).modSubst t fun q => { q with otherSense := true }
    else m.xferAbort t 2 3 e
  | none => m

/-- H0 + 8,400: the new element's FORCE connection closes and it follows with share 0, in the lane's mode. -/
def State.shareOp (m : State) (t : Nat) : State :=
  match m.xferAt t 1 with
  | some x =>
    if x.mv then m
    else
      let m := ((((m.due (x.h0 + 8400)).w (.tile t) .tileSubstState 2).w (.lane t x.slot) .laneHoPhase 2).xferTo t
        { x with stage := 2 }).modSubst t fun q => { q with otherForce := true }
      (m.modLane t 9 fun d => { d with dacOut := (m.lane t x.slot).dacOut }).reconv t 9
  | none => m

/-- Every 250 ticks the share of the new element rises by 1/64. -/
def State.shareStepOp (m : State) (t : Nat) : State :=
  match m.xferAt t 2 with
  | some x =>
    if x.shares < 64 then (m.due (x.h0 + 8400 + 250 * (x.shares + 1))).xferTo t { x with shares := x.shares + 1 } else m
  | none => m

/-- H0 + 24,400: at share 64/64 the new element closes the loop and the old one follows at share 0. -/
def State.xferSwapOp (m : State) (t : Nat) : State :=
  match m.xferAt t 2 with
  | some x => if x.shares = 64 then (m.due (x.h0 + 24400)).xferTo t { x with stage := 3 } else m
  | none => m

/-- H0 + 24,800, in MV H0 + 8,400: completion is decided and the old element, now the other one, opens its FORCE connection; the
corrections of each element apply beneath its level at once (R333). -/
def State.xferDecide (m : State) (t : Nat) (x : Xfer) (e : Nat) : State :=
  let m := (m.due e).w (.tile t) .tileSubstState (if x.back then 0 else 3)
  let m := (((m.w (.lane t x.slot) .laneServedBy (bit !x.back)).w (.lane t x.slot) .laneHoPhase 0).xferTo t { x with stage := 4 }).modSubst
    t fun q => { q with otherForce := false }
  (m.reconv t x.slot).reconv t 9

/-- TRANSFER_COMPLETE. -/
def State.xferCompleteOp (m : State) (t : Nat) : State :=
  match m.xferAt t 3 with
  | some x => m.xferDecide t x (x.h0 + 24800)
  | none => match m.xferAt t 1 with
    | some x => if x.mv then m.xferDecide t x (x.h0 + 8400) else m
    | none => m

/-- H0 + 25,200, in MV H0 + 8,400: the old element's SENSE connection opens, the transfer reports COMPLETED, and a disconnect
that waited for it acts (R338, R342). -/
def State.oldSenseOp (m : State) (t : Nat) : State :=
  match m.xferAt t 4 with
  | some x =>
    let e := x.h0 + (if x.mv then 8400 else 25200)
    let m := (m.due e).inc (.tile t) .tileHoCnt
    let m := ((m.xferLog t x 1 0 e).modSubst t fun q => { q with xfer := none, otherSense := false }).xferUnlock t x
    let m := if x.back then m.w (.tile t) .tileSubstSlot 15 else m
    ((m.xferAfter t x.slot x.back x.req x.forCal e).actPend t x.slot e).overSettle
  | none => m

/-- LEAVE ends 800 ticks after the abort with the opening of the other element's SENSE connection: the substitute is FREE, or,
of a hand-back, still serves; the faults declared in the transfer have their response, and a disconnect that waited acts (R335,
R338, R341, R342). -/
def State.leaveOp (m : State) (t : Nat) : State :=
  match m.xferAt t 9 with
  | some x =>
    let e := (m.subst t).leaveAt
    let faults := (m.subst t).faults
    let m := ((m.due e).w (.lane t x.slot) .laneHoPhase 0).modSubst t fun q =>
      { q with xfer := none, otherForce := false, otherSense := false, forceTo := none, faults := [], logEnd := m.stamp e }
    let m := (if x.back then m.w (.tile t) .tileSubstState 3 else (m.substSet t 0 15).substCheck t e).xferUnlock t x
    let m := faults.foldl (fun m (s, code, v) => m.respond t s code v e) m
    (m.actPend t x.slot e).overSettle
  | none => m

/-! Tests and waits. -/

/-- The front-end test of the rested front-end ends (R346): a pass leads to the hand-back, which waits for its eligibility from
then on, a fail leaves the lane served. A test of slot 9 ends in FREE, and a pass lifts its block (R338, R344). -/
def State.testEndOp (m : State) (t : Nat) (pass : Bool) : State :=
  let q := m.subst t
  match q.active with
  | some r =>
    if !q.testing then m
    else if r.slot = 9 then ((m.testLeaves t r).modSubst t fun q => { q with blocked := !pass }).svcDone r (if pass then 0 else 7)
    else if pass then m.setSubst t { q.mark r.slot false with testing := false, active := some { r with since := m.pace } }
    else (m.setSubst t { q.mark r.slot true with testing := false, active := none }).svcDone r 7
  | none => m

/-- The request of tile `t` whose WAIT_MS ends first (R336, R345), in the queue or with a hand-back that waits for its
eligibility: none is without limit. -/
def State.svcFirstOut (m : State) (t : Nat) : Option SvcReq :=
  let q := m.subst t
  ((q.queue ++ if q.testing || q.xfer.isSome then [] else q.active.toList).filter fun r => r.waitMs != 0).foldl (fun b r =>
    match b with
    | some o => if r.since + r.waitMs * 800000 < o.since + o.waitMs * 800000 then some r else b
    | none => some r) none

/-- SVC_WAIT_TIMEOUT: it ends with TIMEOUT. -/
def State.svcTimeoutOp (m : State) (t : Nat) : State :=
  match m.svcFirstOut t with
  | some r =>
    let m := (m.due (r.since + r.waitMs * 800000)).svcLeave t r
    (if (m.subst t).active = some r then m.testLeaves t r else m).svcDone r 1
  | none => m

end Sys2Proof.Machine
end

