-- ==== Sys2Proof/Machine/CalOps.lean ====
section
/-! DEFINITION. The operations of calibration and the Catalogue (R306 to R331): banks and commits, requests, a lane's turn and its
outcome, interpolation, automatic recalibration. -/

namespace Sys2Proof.Machine

/-! The Catalogue (R312 to R318). -/

/-- A list of values with its length before it. -/
def listCode (l : List Int) : List Int := (l.length : Int) :: l

/-- The content of a set entry and of a set of a tile part as numbers (R315). -/
def SetEntry.code (e : SetEntry) : List Int :=
  let d := e.data
  let q := e.q
  [(bit e.valid : Int), e.tSet, (e.gen : Int), d.adcPeak, d.dacPeak, q.inlAdc, q.inlDac, q.gainRes, q.offsUv, q.edgeRes,
    (q.sparesDac : Int), (q.sparesAdc : Int), (q.mon0 : Int), (q.mon1 : Int)] ++
    ([d.adcSel.map Int.ofNat, d.adcTrims, d.adcPts, d.dacSel.map Int.ofNat, d.dacTrims, d.dacPts, d.hold, d.gains, d.offs, d.mons,
      d.edges, q.offsPa].map listCode).flatten
def TilePart.code (p : TilePart) : List Int :=
  [(bit p.valid : Int), p.tSet, (p.gen : Int), p.ref, p.refRes, p.lineRes] ++ listCode p.line

/-- The content of a bank as numbers. -/
def Bank.code (b : Bank) : List Int :=
  [(b.gen : Int), (b.version : Int)] ++ (b.entries.map fun (k, e) => (k : Int) :: e.code).flatten ++
    (b.parts.map fun (k, p) => (k : Int) :: p.code).flatten ++
    (b.marks.map fun (k, l) => (k : Int) :: listCode (l.map Int.ofNat)).flatten

/-- The Catalogue format version in which this model's banks are written (R312 gives none: DESIGN CHOICE, log entry 46). -/
def catVersion : Nat := 1

/-- A bank has a valid header and its CRC-32 holds over it (R312). -/
def Bank.ok (b : Bank) : Bool := b.version == catVersion && b.crc == some (Config.bankCrc b.code)

/-- The header of a bank is written (R312). -/
def Bank.sealed (b : Bank) (gen : Nat) : Bank :=
  let b := { b with gen := gen % 2 ^ 64, version := catVersion }
  { b with crc := some (Config.bankCrc b.code) }

/-- Bank B is the active bank (R312). -/
def Nv.activeIsB (n : Nv) : Bool := n.bankB.ok && (!n.bankA.ok || decide (n.bankA.gen < n.bankB.gen))

/-- The offsets of a bank, of a set entry of slot `s` and of a tile part in MRAM (R314). -/
def mramBank (isB : Bool) : Nat := if isB then 0x600000 else 0
def mramEntry (isB : Bool) (t s set : Nat) : Nat := mramBank isB + 64 + t * 0x5B000 + 0x1000 + s * 0x9000 + set * 0x1000
def mramPart (isB : Bool) (t : Nat) : Nat := mramBank isB + 64 + t * 0x5B000

/-- A set entry of the working copy. -/
def State.setEntry (m : State) (t s set : Nat) : SetEntry := tabGet {} m.catalogue.entries (setKey t s set)

/-- The working copy is shown in CAT_STAT.BANK and CAT_GEN (R470). -/
def State.showCat (m : State) : State :=
  m.ws .cat [(.catBank, bit m.nv.activeIsB), (.catGenLow, m.catalogue.gen % 2 ^ 32)]

/-- A commit (R312): the inactive bank takes the content `b` and then its header with the generation plus one, the commit
marker, and becomes the active one. -/
def State.commitCat (m : State) (b : Bank) : State :=
  let b := b.sealed (m.catalogue.gen + 1)
  let nv := if m.nv.activeIsB then { m.nv with bankA := b } else { m.nv with bankB := b }
  ({ m with catalogue := b, nv := nv } : State).showCat

/-- The valid sets of a lane, in ascending order of number. -/
def State.validSets (m : State) (t s : Nat) : List Nat := (List.range 8).filter fun k => (m.setEntry t s k).valid

/-- The set that a run writes for a lane (R319): the one named, or for AUTO (15) the lowest valid within 1.5 °C, else the lowest
not valid. -/
def State.calSetFor (m : State) (t s set : Nat) : Option Nat :=
  if set < 8 then some set
  else
    let near := (m.validSets t s).find? fun k => decide (((m.setEntry t s k).tSet - (m.tile t).temp).natAbs ≤ 15)
    near <|> (List.range 8).find? fun k => !(m.setEntry t s k).valid

/-! Interpolation (R317). -/

/-- The sum and the number of the newest `n` readings. -/
def meanOf (l : List Int) (n : Nat) : Int × Nat := ((l.take n).sum, (l.take n).length)

/-- Two data sets taken together value by value. -/
def zipData (a b : PassData) (f : Int → Int → Int) (choice : PassData) : PassData :=
  let z : List Int → List Int → List Int := zipPad f
  { adcPts := z a.adcPts b.adcPts, dacPts := z a.dacPts b.dacPts, adcSel := choice.adcSel, dacSel := choice.dacSel,
    adcPeak := choice.adcPeak, dacPeak := choice.dacPeak, adcTrims := z a.adcTrims b.adcTrims, dacTrims := z a.dacTrims b.dacTrims,
    hold := z a.hold b.hold, gains := z a.gains b.gains, offs := z a.offs b.offs, mons := z a.mons b.mons, edges := z a.edges b.edges }

/-- The lowest and the highest of a lane's valid entries, and the pair that brackets `num` / `n`. -/
def bracket (es : List (Nat × SetEntry)) (num : Int) (n : Nat) : Option ((Nat × SetEntry) × (Nat × SetEntry)) :=
  let pick (l : List (Nat × SetEntry)) (better : Int → Int → Bool) : Option (Nat × SetEntry) :=
    l.foldl (fun b e => match b with
      | some o => if better e.2.tSet o.2.tSet then some e else b
      | none => some e) none
  let below := pick (es.filter fun e => decide (e.2.tSet * n ≤ num)) fun x y => decide (y < x)
  let above := pick (es.filter fun e => decide (num ≤ e.2.tSet * n)) fun x y => decide (x < y)
  match below, above with
  | some a, some b => some (a, b)
  | some a, none => some (a, a)
  | none, some b => some (b, b)
  | none, none => none

/-- LANE_STAT.EXTRAPOLATED of a lane, EXTRAP_EVT at its change from 0 to 1, and the tile's (R317). -/
def State.showExtrap (m : State) (t s : Nat) (out : Bool) : State :=
  let p := Page.lane t s
  let was := m.r p .laneExtrapolated == 1
  let m := m.w p .laneExtrapolated (bit out)
  let m := if out && !was then m.flag p .laneExtrapEvt else m
  m.w (.tile t) .tileExtrapolated (bit ((List.range 10).any fun k => m.r (.lane t k) .laneExtrapolated == 1))

/-- Lane `s` of the page of which the element of slot `k` is now the element (R333). -/
def State.pageOf (m : State) (t k : Nat) : Nat :=
  let sl := m.r (.tile t) .tileSubstSlot
  if k = 9 then (if sl < 9 ∧ m.r (.lane t sl) .laneServedBy = 1 then sl else 9) else if m.r (.lane t k) .laneServedBy = 1 then 9 else k

/-- The element of slot `s` recomputes its corrections from its own valid entries; they come into force at the next latch tick
(R317, R333). The flag is shown on the page that the element is behind. -/
def State.interpolate (m : State) (t s : Nat) : State :=
  let (num, n) := meanOf (m.tile t).temps 100
  let (num, n) := if n = 0 then ((m.tile t).temp, 1) else (num, n)
  let es := (m.validSets t s).map fun k => (k, m.setEntry t s k)
  match bracket es num n with
  | none => m
  | some (a, b) =>
    let span := ((b.2.tSet - a.2.tSet) * n).toNat
    let up := (num - a.2.tSet * n).toNat
    let d := m.lane t s
    let mid := (2 * (up : Int) - span).natAbs
    let pickB := decide (span < 2 * up)
    let inUse := (d.corrNext <|> d.corr).map (·.set)
    let set := if mid ≤ 2 * n ∧ inUse = some a.1 then a.1 else if mid ≤ 2 * n ∧ inUse = some b.1 then b.1 else if pickB then b.1 else a.1
    let den := if span = 0 ∨ a.1 = b.1 then 1 else span
    let frac := if den = 1 then 0 else up
    let data := zipData a.2.data b.2.data (fun x y => x * den + (y - x) * frac) (m.setEntry t s set).data
    let out := es.all (fun e => decide (num + 5 * n < e.2.tSet * n)) || es.all (fun e => decide (e.2.tSet * n + 5 * n < num))
    (m.setLane t s { d with corrNext := some { data := data, den := den, set := set } }).showExtrap t (m.pageOf t s) out

/-- The tick of the lane's next interpolation: 1 ms after the last, the first at a whole millisecond of the pace (R317; log
entry 46). -/
def State.interpDue (m : State) (t s : Nat) : Nat :=
  match (m.lane t s).interpAt with
  | some z => z + 800000
  | none => ceilMul 800000 m.pace

/-- INTERPOLATION on its tick. -/
def State.interpOp (m : State) (t s : Nat) : State :=
  let e := m.interpDue t s
  ((m.due e).modLane t s fun d => { d with interpAt := some e }).interpolate t s

/-! Requests (R318 to R320, R329). -/

/-- Lane (t, s) is named by a run. -/
def calNames (p : CalParams) (t s : Nat) : Bool :=
  if s = 9 then p.subst.testBit t else decide (s < 9) && (p.lanes.getD t 0).testBit s

/-- The lanes named, as tile × 10 + slot. -/
def calAll (p : CalParams) : List Nat := (List.range 160).filter fun k => calNames p (k / 10) (k % 10)

/-- The kinds of a run (R319): LIN, GAIN, MON, EDGE, REF at bits 0 to 4. -/
def calKind (p : CalParams) (k : Nat) : Bool := p.kinds.testBit k

/-- The status of R320, checks in the order of their codes (log entry 13). Every lane of every variant has a pin stage, so EDGE
never names an absent one. -/
def State.calStatus (m : State) (fn : Nat) (p : CalParams) : Nat :=
  let own := (calAll p).all fun k => decide (k % 10 < 9) && m.laneOwner (k / 10) (k % 10) == fn
  if fn ≠ 0 ∧ (!own || p.subst != 0 || calKind p 4) then 1
  else if 16 ≤ (m.cals.filter fun c => !c.ended).length then 2
  else if p.kinds = 0 ∨ 32 ≤ p.kinds ∨ 65535 < p.waitMs ∨ 15 < p.doneEv ∨ (8 ≤ p.set ∧ p.set ≠ 15) ∨ calAll p = [] ∨
      (fn ≠ 0 ∧ p.doneEv ≠ 15) then 3
  else if (calAll p).any fun k => !m.tileOn (k / 10) then 4
  else 0

/-- A calibration request (R319, R320): an accepted one gets the next run ID and is queued. -/
def State.calTry (m : State) (fn : Nat) (p : CalParams) (cmd : Option (Nat × Nat × Nat)) (seqNo : Nat) (silent : Bool) :
    State × Nat :=
  match m.calStatus fn p with
  | 0 =>
    let id := m.cur.nextRun
    let run : CalRun := { id := id, fn := fn, cmd := cmd, p := p, seqNo := seqNo, silent := silent }
    ({ m with cals := m.cals.filter (fun c => c.id != id) ++ [run],
              cur := { m.cur with nextRun := (id + 1) % 65536 } }, 0)
  | c => (m, c)

/-- The number of lanes with each outcome 0 to 10, as bytes in three words (R427). -/
def CalRun.counts (c : CalRun) : List Nat :=
  let n (k : Nat) : Nat := (c.outcomes.filter fun e => e.2 == k).length % 256
  let w (i : Nat) : Nat := (List.range 4).foldl (fun a b => a + (if 4 * i + b < 11 then n (4 * i + b) else 0) * 256 ^ b) 0
  [w 0, w 1, w 2]

/-- A run reaches its outcome (R329): RUN_DONE, DONE_EV, and the completion of its command, 0 committed or 24 aborted; SILENT holds
back the first alone (R418). -/
def State.calRunDone (m : State) (c : CalRun) (aborted : Bool) : State :=
  let m := m.modCal c.id fun c => { c with ended := true, kept := [] }
  let m := (m.flag .cat .catRunDone).doneEvent c.p.doneEv
  match c.cmd with
  | some (q, tag, rq) =>
    if c.silent ∧ !aborted then m
    else m.complete c.fn q rq
      (completionPacket 0x10 q tag (if aborted then 24 else 0) 0 c.seqNo m.pace (c.id :: c.counts))
  | none => m

/-- An abort of a run reaches its arbiter (R329): every lane without an outcome reports ABORTED, lanes in calibration leave
it, transfers made for it abort, and nothing is committed. -/
def State.abortCal (m : State) (c : CalRun) : State :=
  let lanes := (calAll c.p).filter fun k => !(c.outcomes.any fun e => e.1 == k)
  let m := lanes.foldl (fun m k =>
    let t := k / 10
    let s := k % 10
    let mine := (m.tile t).turn.any fun x => x.run == c.id && x.slot == s
    let m := (m.calOutcome c.id t s 10).calUnwait c.id t s
    if mine then
      let m := if m.underXfer t s then m.xferAbort t 6 2 (m.pace + 1) else m
      let m := if ((m.tile t).turn.any fun x => x.run == c.id) then m.calLeave t else m
      m.actPend t s (m.pace + 1)
    else m) m
  match m.cals.find? fun x => x.id == c.id with
  | some c => m.calRunDone c true
  | none => m

/-- CAT_CMD.ABORT or a CAL_ABORT of a run: 0 accepted, 15 late, 16 no such run (R329, R487). -/
def State.abortCalTry (m : State) (c : Option CalRun) : State × Nat :=
  match c with
  | none => (m, 16)
  | some c => if c.ended then (m.inc .cat .catAbortLate, 15) else (m.abortCal c, 0)

/-- The lanes that an INVALIDATE reaches (R318): scope 0 one lane, 1 one tile, 2 all. -/
def invLanes (scope t s : Nat) : List Nat :=
  match scope with
  | 0 => [t * 10 + s]
  | 1 => (List.range 10).map fun k => t * 10 + k
  | _ => List.range 160

/-- A run that is queued or running names the set (R318). -/
def State.setBusy (m : State) (set : Nat) : Bool :=
  m.cals.any fun c => !c.ended && (c.p.set == set || c.kept.any (fun e => e.2.1 == set) ||
    (List.range 16).any fun t => (m.tile t).turn.any fun x => x.run == c.id && x.set == set)

/-- CAT_CMD.INVALIDATE (R318, R487). -/
def State.invalidateTry (m : State) (scope set t s : Nat) : State × Nat :=
  let ls := invLanes scope t s
  if 2 < scope ∨ 7 < set ∨ 15 < t ∨ 9 < s then (m, 13)
  else if scope < 2 ∧ !m.tileOn t then (m, 6)
  else if m.setBusy set then (m, 10)
  else if ls.any fun k => m.validSets (k / 10) (k % 10) == [set] then (m, 9)
  else
    let es := ls.foldl (fun es k =>
      let key := setKey (k / 10) (k % 10) set
      let e := tabGet ({} : SetEntry) es key
      if e.valid then tabSet es key { e with valid := false, gen := m.catalogue.gen + 1 } else es) m.catalogue.entries
    (m.commitCat { m.catalogue with entries := es }, 0)

/-! A lane's turn (R321 to R324). -/

/-- What a lane's state allows at its turn (R322): a path, an outcome at once, or a wait. -/
inductive CalNext where
  | go (p : CalPath)
  | out (code : Nat)
  | wait
deriving DecidableEq, Repr

/-- The paths of R322 for lane (t, s) of a run. -/
def State.calNext (m : State) (t s : Nat) (handover : Bool) : CalNext :=
  let d := m.lane t s
  let ganged := (m.gangOf t s).isSome || m.boosted t s
  if s = 9 then
    (if m.substIdle t && d.owner.isNone then .go .inPlace else .wait)
  else if m.sw t s = .faulted then .out 8
  else if m.serves t s && (m.subst t).active.isNone && !(m.subst t).testing then .go .inPlace
  else if m.underXfer t s || m.r (.lane t s) .laneServedBy == 1 then .wait
  else if m.sw t s = .disconnected && d.owner.isNone then .go .inPlace
  else if handover && m.substReady t && (m.subst t).queue.isEmpty && (m.xferTry t s false none true).2.isNone then .go .handed
  else match m.sw t s with
    | .connected | .measureOnly =>
      if d.owner.isNone && !ganged && m.r (.lane t s) .lanePersSel == 0 && m.l (.lane t s) .lanePersSel == 0 && !d.dds then .go .hold
      else .wait
    | _ => .wait

/-- The runs that want lane (t, s) next: in order of acceptance, each lane for one run at a time (R321). -/
def State.calWants (m : State) (t : Nat) : List (CalRun × Nat) :=
  let open_ := m.cals.filter fun c => !c.ended
  let pairs := open_.flatMap fun c => ((List.range 10).filter fun s =>
    calNames c.p t s && !(c.outcomes.any fun e => e.1 == t * 10 + s)).map fun s => (c, s)
  (pairs.zipIdx.filter fun (x, i) => (pairs.take i).all fun y => y.2 != x.2).map (·.1)

/-- A lane waits with CAL_PENDING (R322): from now, and where its lock is held the Curator asks for it ahead of all (R323). -/
def State.calWaits (m : State) (run t s : Nat) : State :=
  let m := m.w (.lane t s) .laneCalPending 1
  let m := if (m.tile t).calWait.any fun w => w.1 == run && w.2.1 == s then m
           else m.modTile t fun d => { d with calWait := d.calWait ++ [(run, s, m.pace)] }
  let asked := m.locks.any fun q => q.who == .curator && q.tile == t && q.slots == [s]
  if (m.lane t s).owner.isSome ∧ !asked then { m with locks := m.locks ++ [⟨.curator, t, [s], -1⟩] } else m

/-- The run starts, if it has not, and latches CAT_REFV.UV (R309). -/
def State.calStart (m : State) (id : Nat) : State :=
  m.modCal id fun x => if x.started then x else { x with started := true, refv := m.r .cat .catRefv }

/-- The lane's calibration begins along a path, with its set and the tile temperature (R309, R319, R322, R326). -/
def State.calBegin (m : State) (c : CalRun) (t s : Nat) (path : CalPath) (set : Nat) : State :=
  let temp := (m.tile t).temp
  let rested := s != 9 && m.serves t s
  let m := m.calUnwait c.id t s
  let m := m.calStart c.id
  let m := if path = .handed then (m.xferTry t s false none true).1 else m
  let m := if path = .handed ∨ rested then m else m.modLane t s fun d => { d with owner := some .curator }
  let m := if s = 9 then m.w (.tile t) .tileSubstState 5 else m
  m.modTile t fun d => { d with turn := some { run := c.id, slot := s, path := path, temp := temp, set := set, tSum := temp, tN := 1 } }

/-- Run `c` has a REF to do in tile `t` first (R321). -/
def CalRun.wantsRef (c : CalRun) (t : Nat) : Bool :=
  calKind c.p 4 && !c.refDone.contains t && (List.range 10).any fun s => calNames c.p t s

/-- A tile's automatic recalibration, or the REF of a run, begins with the value of CAT_REFV that it has latched (R309, R330,
R331). -/
def State.autoBegin (m : State) (t refv : Nat) : State :=
  m.modTile t fun d => if d.autoRun || d.autoRetryAt != 0 then d else { d with autoRun := true, autoRefv := refv }

/-- CAL_LANE_TURN: the first lane of the tile whose state allows it starts; lanes passed over wait or take their outcome; the
runs in `skip` do their REF first. -/
def State.calScan (m : State) (t : Nat) (skip : List Nat) : List (CalRun × Nat) → State
  | [] => m
  | (c, s) :: l =>
    if !m.tileOn t || (m.tile t).goingDown then ((m.calOutcome c.id t s 9).calUnwait c.id t s).calScan t skip l
    else if skip.contains c.id then m.calScan t skip l
    else if c.wantsRef t then
      let m := m.calStart c.id
      (m.autoBegin t (if c.started then c.refv else m.r .cat .catRefv)).calScan t (c.id :: skip) l
    else match m.calNext t s c.p.handover with
      | .out k => ((m.calOutcome c.id t s k).calUnwait c.id t s).calScan t skip l
      | .wait => (m.calWaits c.id t s).calScan t skip l
      | .go path =>
        match m.calSetFor t s c.p.set with
        | none => ((m.calOutcome c.id t s 6).calUnwait c.id t s).calScan t skip l
        | some set => m.calBegin c t s path set

/-- Every lane that the run names has its outcome. -/
def CalRun.complete (c : CalRun) : Bool := (calAll c.p).all fun k => c.outcomes.any fun e => e.1 == k

end Sys2Proof.Machine
end

