-- ==== Sys2Proof/Machine/PowerOps.lean ====
section
/-! DEFINITION. Domains, start-up and the resets (R282, R349, R376 to R400): the budget, the Archive and the tiles switched off
and on, what waits for every lane to be DISCONNECTED, the boot, cold and warm resets, and the power failure. -/

namespace Sys2Proof.Machine

/-! The governor's allowance (R282, R285, R378). -/

/-- The lane allowance in µW for VIN in mV and the domains `dom` of PWR_DOM_STAT: budget less reserve, at most 190 W. -/
def allowance (mv dom : Nat) : Nat :=
  let budget14 := if 20000 ≤ mv then 320000000 * 14 else if 6000 ≤ mv then 150000000 * 14 + (mv - 6000) * 170000 else 150000000 * 14
  let tiles := (setBits (dom / 16) 16).length
  let reserve := 20000000 + (if dom.testBit 2 then 12000000 else 0) + (if dom.testBit 3 then 48000000 else 0) + 3125000 * tiles
  min 190000000 (budget14 / 14 - reserve)

/-- The module budget in mW (R282). -/
def budgetMw (mv : Nat) : Nat :=
  if 20000 ≤ mv then 320000 else if 6000 ≤ mv then 150000 + (mv - 6000) * 170 / 14 else 150000

/-- The sum is compared with the allowance: OVER_ALLOW and its flag set where it lies above, and clear else (R265, R285). -/
def State.overCheck (m : State) : State :=
  if m.cur.allowUw < m.sumEst then
    if m.r .pwr .pwrOverAllow = 1 then m
    else ((m.w .pwr .pwrOverAllow 1).flag .pwr .pwrOverEvt).alert (m.r .dev .devAlertEnOver == 1)
  else m.w .pwr .pwrOverAllow 0

/-- The allowance in force after the domains that the boot code has switched on (R282, R285, R378): the registers change at an
evaluation only. -/
def State.reAllow (m : State) : State :=
  ({ m with cur := { m.cur with allowUw := allowance (m.r .pwr .pwrVin) (m.r .pwr .pwrDomStat) } } : State).overCheck

/-- A domain has been switched on later: the allowance in force falls at once (R285); after a switch-off it rises at the next
evaluation only (R282; log entry 43). -/
def State.downAllow (m : State) : State :=
  ({ m with cur := { m.cur with allowUw := min m.cur.allowUw (allowance (m.r .pwr .pwrVin) (m.r .pwr .pwrDomStat)) } } : State).overCheck

/-- BUDGET_EVAL with the mean of VIN in mV (R282). -/
def State.budgetOp (m : State) (mv : Nat) : State :=
  let a := allowance mv (m.r .pwr .pwrDomStat)
  let m := m.ws .pwr [(.pwrVin, mv), (.pwrBudget, budgetMw mv), (.pwrAllow, a / 1000)]
  ({ m with cur := { m.cur with allowUw := a } } : State).overCheck

/-- What the switch-on of domain bit `n` adds to the lane sum in µW: a tile's ten lanes go from UNPOWERED to DISCONNECTED (R85). -/
def domAdds (n : Nat) : Nat := if 4 ≤ n then 10 * 50000 else 0

/-- The governor admits the switch-on of domain bit `n`: the sum after it stays within the allowance with the domain counted (R283,
R378); a refusal is counted and recorded (R286). -/
def State.domAdmit (m : State) (n : Nat) : Bool :=
  decide (m.sumEst + domAdds n ≤ allowance (m.r .pwr .pwrVin) (m.r .pwr .pwrDomStat ||| 2 ^ n))
def State.domRefused (m : State) (n : Nat) : State :=
  let a := allowance (m.r .pwr .pwrVin) (m.r .pwr .pwrDomStat ||| 2 ^ n)
  let m := m.inc .pwr .pwrRefuseCnt
  { m with cur := { m.cur with refuse :=
    { dom := true, domain := n, requested := if n = 3 then 48000000 else 3125000, sum := m.sumEst,
      tileSum := if n = 3 then 0 else m.tileEst (n - 4), allow := a } } }

/-! Archive DMA outcomes and the Archive domain (R380, R433). -/

/-- A DMA command ends with a status of R426 and its RESULT words. -/
def State.dmaEnd (m : State) (d : Dma) (status : Nat) (res : List Nat) : State :=
  let m := { m with dmas := m.dmas.filter fun x => x.fn != d.fn || x.tag != d.tag }
  let m := m.setFn d.fn { m.fn d.fn with dmaEnded := insertUp d.tag (m.fn d.fn).dmaEnded }
  if d.silent && status == 0 then m
  else m.complete d.fn d.q d.rq (completionPacket (if d.wr then 0x21 else 0x20) d.q d.tag status 0 d.seq m.pace res)

/-- The host bytes that a read from the Archive leaves undefined when it is cut (R433): free values (log entry 8). -/
def State.dmaUndef (m : State) (d : Dma) : State :=
  if d.wr then m
  else
    let bs := (List.range d.len).map fun i => Config.dmaByte (m.freeCtr * 2 ^ 32 + i)
    ({ m with hostMem := memStore m.hostMem d.iova bs } : State).drawn

/-- ARCH is switched off (R380): acquisitions and sequences end, DMA commands fail, the contents are lost. -/
def State.archOff (m : State) : State :=
  let m := (List.range 16).foldl (fun m t =>
    let m := if m.acqLive t then m.abortAcq t 3 (m.pace + 1) else m
    if m.seqLive t then m.abortSeq t 8 0 (m.pace + 1) else m) m
  let m := m.dmas.foldl (fun m d => (m.dmaUndef d).dmaEnd d 22 [0, 0, 0]) m
  ({ m with arc := [], poison := [], latent := [] } : State).setDom 3 false

/-- ARCH is switched on: every page reads as zeros (R243). -/
def State.archUp (m : State) : State :=
  (({ m with arc := [], poison := [], latent := [], written := [] } : State).setDom 3 true).downAllow

/-! The board profile (R26, R298, R391). -/

/-- The values that the board profile gives to the SEAL and LIVE block fields of a page; none where it was rejected. -/
def State.profileOf (m : State) (p : Page) : List Cell :=
  if m.r .site .siteDefault = 1 then []
  else m.profile.values.filter fun c =>
    c.page == p && decide (0x100 ≤ c.fld.off) && (c.fld.cls == .seal || c.fld.cls == .live) &&
      (c.fld.cls == .seal || p == .trk || (match p with | .bat _ => true | _ => false))

/-- The profile's values are loaded into a page. -/
def State.loadProfile (m : State) (p : Page) : State := (m.profileOf p).foldl (fun m c => m.w p c.fld c.val) m

/-- Fitted Archive pages of 2 MiB by variant (R2, R475). -/
def Variant.pages : Variant → Nat
  | .a => 65536 | .m => 32768 | .b => 16384

/-- The checks of R7 on a board profile. A port is assigned to a site by a VFS or an IFS that is not 0, also in a tile that has no
home site, though R91 calls a port with either of them 0 unused; and what breaks the limits of R26 or of R414 but none of R7's
is accepted and sealed as it stands (DESIGN CHOICE, log entry 48). -/
def State.profileOk (m : State) : Bool :=
  let v := m.profile.values
  let reg : RegTab := v
  m.profile.sigOk &&
  (List.range 16).all (fun i =>
    let pages := regGet reg .site (.siteArcPages (i + 1))
    pages == 0 || decide (regGet reg .site (.siteArcBase (i + 1)) + pages ≤ m.variant.pages)) &&
  (m.hasBoost || (List.range 16).all fun t => regGet reg (.tile t) .tileBprofVfs == 0 && regGet reg (.tile t) .tileBprofIfs == 0) &&
  (m.hasWalul || (List.range 16).all fun i => regGet reg .site (.siteWlch (i + 1)) == 0) &&
  decide (regGet reg .cat .catEvbase ≤ 113)

/-! Tiles (R349, R351, R379). -/

/-- The pages of a tile. -/
def tilePages (t : Nat) : List Page :=
  [.tile t, .seq t, .acq t, .bat t, .ctxHdr t] ++ (List.range 10).map (.lane t) ++ (List.range 64).map (.eng t)

/-- The fields of SEQ_OUTCOME and ACQ_OUTCOME, which outlive a tile reset and a site reset (R209, R240). -/
def outcomeFields (t : Nat) : List (Page × Fld) :=
  [(.seq t, .seqOutcome), (.seq t, .seqReason), (.seq t, .seqStartRefuse), (.seq t, .seqRefuseCode), (.seq t, .seqBadIndex), (.acq t, .acqOutcome),
   (.acq t, .acqReason), (.acq t, .acqArmRefuse), (.acq t, .acqRecords)]

/-- Stages of the baton in flight that lie in tile `t` (R305). -/
def Stage.inTile (t : Nat) : Stage → Bool
  | .prod u _ | .cons u _ _ => u == t
  | _ => false

/-- Everything that tile `t` holds returns to its reset state (R209, R240, R383); what AON and MRAM hold of it stays, and
what the Curator knows of failed front-ends (R336, R344). -/
def State.tileClear (m : State) (t : Nat) : State :=
  let keep := (outcomeFields t).map fun (p, f) => (p, f, m.r p f)
  let d := m.tile t
  let q := m.subst t
  let m := (tilePages t).foldl (fun m p => m.resetPage p) m
  let m := keep.foldl (fun m (p, f, v) => m.w p f v) m
  let m : State := { m with
    lanes := m.lanes.filter fun e => e.1 / 10 != t, seqs := tabDel m.seqs t, acqs := tabDel m.acqs t,
    substs := tabSet m.substs t { failed := q.failed, blocked := q.blocked }, tscap := m.tscap.filter (fun e => e.1 / 4 != t),
    engOps := m.engOps.filter (fun e => e.1 / 64 != t),
    segTab := m.segTab.filter (fun e => e.1 / 32768 != t), locks := m.locks.filter (fun q => q.tile != t),
    flight := m.flight.filter fun f => !f.stage.inTile t }
  m.setTile t { temp := d.temp, temps := d.temps, hot110 := d.hot110, hot120 := d.hot120, hot135 := d.hot135,
                tshut := d.tshut, autoLast := d.autoLast, autoTemp := d.autoTemp, refA := d.refA, lineA := d.lineA, refCal := d.refCal,
                lineCal := d.lineCal }

/-! Microcode (R350). -/

/-- Engines of tile `t` in state `old` take state `new`. -/
def State.turnEngines (m : State) (t old new : Nat) : State :=
  (List.range 64).foldl (fun m k => if m.r (.eng t k) .engState = old then m.w (.eng t k) .engState new else m) m

/-- The next tile of the mask drains (R350): its IDLE engines are OFFLINE; after the last one UCODE_APPLY has its outcome. -/
def State.ucodeNext (m : State) : State :=
  let c := m.cur
  match (List.range 16).find? fun t => c.applyMask.testBit t && m.tileOn t && !(m.tile t).goingDown with
  | some t =>
    ((m.modTile t fun d => { d with draining := true, drainEnd := m.pace + c.applyMs * 800000, offAt := none }).turnEngines t 0
      3).noteOffline t
  | none =>
    { m with cur := { c with applyMask := 0,
                             ucApplySt := if c.ucApplySt = 0xFFFFFFFF then (if c.applyTo = 0 then 0 else 12) else c.ucApplySt } }

/-- Tile `t` has had its turn: its engines are IDLE again and the next tile follows. -/
def State.ucodeLeave (m : State) (t : Nat) : State :=
  let m := (m.modTile t fun d => { d with draining := false, offAt := none }).turnEngines t 3 0
  ({ m with cur := { m.cur with applyMask := m.cur.applyMask - (if m.cur.applyMask.testBit t then 2 ^ t else 0) } } : State).ucodeNext

/-- The operations of tile `t` end and its lanes disconnect, on tick `e` (R349): the beginning of DOWN, of RESET and of TSHUT. -/
def State.tileStop (m : State) (t e : Nat) : State :=
  let m := m.modTile t fun d => { d with goingDown := true, svcUp := false }
  let m := if (m.tile t).draining then m.ucodeLeave t else m
  let m := m.xferAbort t 5 2 e
  let m := match (m.tile t).turn with
    | some c => m.calCut t c.slot (if c.path = CalPath.hold then 10 else 9)
    | none => m
  let m := (m.subst t).queue.foldl (fun m r => m.svcDone r 6) m
  let m := match (m.subst t).active with | some r => m.svcDone r 6 | none => m
  let m := (m.setQueue t []).modSubst t fun q => { q with active := none, testing := false, calBack := false }
  let m := (List.range 256).foldl (fun m i =>
    if (m.ctx (t * 256 + i)).st.live then m.abortRun (t * 256 + i) 10 0 e else m) m
  let m := if m.seqLive t then m.abortSeq t 11 0 e else m
  let m := if m.acqLive t then m.abortAcq t 5 e else m
  (List.range 10).foldl (fun m s => m.discOne t s e .tileDown) m

/-- Every lane of tile `t` is DISCONNECTED. -/
def State.tileOpen (m : State) (t : Nat) : Bool :=
  !m.tileOn t || ((List.range 10).all fun s => m.sw t s == .disconnected && !m.underXfer t s)

/-- The TILE_SVC request for tile `t` is complete (R349, R486), with the mask of slots whose self-check failed; the item shows it
unless a later commit was refused meanwhile. -/
def State.tileAnswer (m : State) (t mask : Nat) : State :=
  let c := m.cur
  if c.tileReq = some t then
    let last := c.tileSt == 0xFFFFFFFF
    { m with cur := { c with tileReq := none, tileSt := if last then 0 else c.tileSt, tileMask := if last then mask else c.tileMask } }
  else m

/-- The self-check of both monitors of every lane of tile `t` begins on tick `e` (R349). -/
def State.startChecks (m : State) (t e : Nat) : State :=
  ((List.range 10).foldl (fun m s => m.modLane t s fun d => { d with chk := some (0, e) }) m).modTile t fun d => { d with chkDue := false }

/-- Tile `t` comes out of reset (R298, R330, R338, R347, R349, R351) on tick `e`: microcode, profile, a retired slot served,
then the automatic recalibration and after it the self-checks, which start at once where the recalibration is disabled. -/
def State.tileStart (m : State) (t e : Nat) : State :=
  let m := (m.setDom (4 + t) true).w (.tile t) .tileUcodeVer (m.nv.lastUcode.getD t 0)
  let m := ((m.loadProfile (.tile t)).loadProfile (.bat t)).w (.tile t) .tileSubstRetired (m.retired t)
  let m := if m.retired t < 9 then (m.substSet t 3 (m.retired t)).w (.lane t (m.retired t)) .laneServedBy 1 else m.substSet t 0 15
  let m := (List.range 10).foldl (fun m s => m.modLane t s fun d => { d with since := e }) m
  let m := m.modTile t fun d =>
    { d with goingDown := true, svcUp := true, chkFail := 0, tshut := false, svcReset := false, chkDue := true }
  if m.r .cat .catAutoEn = 1 then m.autoBegin t (m.r .cat .catRefv) else m.startChecks t e

/-- The self-checks follow the recalibration, and the tile accepts host writes once they have ended; TILE_SVC reports the lanes
that failed (R349). -/
def State.tileReady (m : State) (t : Nat) : State :=
  let d := m.tile t
  if d.svcUp && d.chkDue then (if d.autoRun then m else m.startChecks t m.pace)
  else if d.svcUp && !d.autoRun && (List.range 10).all fun s => (m.lane t s).chk.isNone then
    let m := m.setTile t { d with goingDown := false, svcUp := false }
    m.tileAnswer t d.chkFail
  else m

/-- A tile whose lanes are all DISCONNECTED goes on with its DOWN, its RESET or its TSHUT (R281, R349, R379). -/
def State.tileGone (m : State) (t e : Nat) : State :=
  let d := m.tile t
  if d.goingDown && !d.svcUp && m.tileOn t && m.tileOpen t then
    let m := m.tileClear t
    if d.svcReset then m.tileStart t e
    else
      ((((m.setDom (4 + t) false).substSet t 6 15).overSettle)).tileAnswer t 0
  else m

/-! Start-up (R389, R391). -/

/-- The image that the boot ROM runs (R352): a TRIAL image, else the GOOD one that ran last, else the other; none where
neither verifies. Marks: 0 GOOD, 1 TRIAL, 2 FAILED. -/
def bootImage (nv : Nv) (okA okB : Bool) : Option Nat :=
  if nv.fwA = 1 ∧ okA then some 0
  else if nv.fwB = 1 ∧ okB then some 1
  else
    let good (k : Nat) : Bool := if k = 0 then nv.fwA == 0 && okA else nv.fwB == 0 && okB
    if good nv.fwRun then some nv.fwRun else if good (1 - nv.fwRun) then some (1 - nv.fwRun) else none

/-- The Catalogue is restored into the working copy (R313): the active bank, or the factory image into both banks. -/
def State.restoreCat (m : State) : State :=
  let nv := m.nv
  if nv.bankA.ok || nv.bankB.ok then
    ({ m with catalogue := if nv.activeIsB then nv.bankB else nv.bankA } : State).showCat
  else
    let b := nv.factory.sealed 1
    (({ m with catalogue := b, nv := { nv with bankA := b, bankB := b } } : State).showCat).w .cat .catFactoryRestored 1

/-- The site map is written from the board profile, checked and sealed (R7, R26, R391); a lane's default owner is the home site
of its tile. -/
def State.sealMap (m : State) : State :=
  if m.profileOk then
    let m := m.loadProfile .site
    let own := (List.range 16).flatMap fun t => ((List.range 9).filter fun s =>
      !(m.profile.values.any fun c => c.page == .site && c.fld == .siteOwn t s)).map fun s => (t, s)
    (own.foldl (fun m (t, s) => m.w .site (.siteOwn t s) (m.home t)) m).w .site .siteSealed 1
  else m.ws .site [(.siteSealed, 1), (.siteDefault, 1)]

/-- The device page shows what is fitted, the straps and the reset's cause (R2, R8, R355, R386). -/
def State.showDevice (m : State) (cause : Nat) : State :=
  let st := m.straps
  let v := m.variant
  let m := m.ws .dev
    [(.devCapVariant, match v with | .a => 0 | .m => 1 | .b => 2), (.devCapArcSize, v.pages / 16384), (.devCapDds, bit m.hasDds),
     (.devCapBoost, bit m.hasBoost), (.devCapWalul, bit m.hasWalul), (.devStrapIndex, if v = .b then 0 else st.index),
     (.devStrapTopo, st.topo), (.devStrapRefin, bit st.ref100), (.devStatLastReset, cause)]
  { m with nv := { m.nv with lastReset := cause } }

/-- The queue pages take NVEC and COMPAT from the sealed site map; PF0 has the vectors that the sites leave, at most 128
(R413, R414; log entry 48). -/
def State.showQueues (m : State) : State :=
  let used := ((List.range 16).map fun i => min 128 (m.r .site (.siteNvec (i + 1)))).sum
  (List.range 17).foldl (fun m f =>
    if f = 0 then m.w (.q 0) .qNvec (min 128 (2048 - used))
    else m.ws (.q f) [(.qNvec, min 128 (m.r .site (.siteNvec f))), (.qCompat, m.r .site (.siteCompat f))]) m

/-- Port `n` of the Walul link is used under the topology in force (R356): in a CHAIN not port 0 of module 0 nor port 1 of the
last. -/
def State.portUsed (m : State) (n : Nat) : Bool :=
  let topo := m.r .wl .wlTopo
  let i := m.r .dev .devStrapIndex
  topo == 2 || (topo == 1 && !(i == 0 && n == 0) && !(n == 1 && (i == 7 || m.chainEnd)))

/-- The Walul page after a reset (R355 to R358, R473): the topology strap, and the used ports in training but for one that is held
in TOPO_ERR until a cold reset. -/
def State.showWalul (m : State) : State :=
  let topo := if m.straps.topo = 3 then 0 else m.straps.topo
  let m := (m.loadProfile .wl).w .wl .wlTopo topo
  if !m.hasWalul then m
  else
    let on (n : Nat) : Nat :=
      if m.wl.topoErr.contains n then 3 else if m.portUsed n then 1 else 0
    let m := m.ws .wl [(.wlPState 0, on 0), (.wlPState 1, on 1)]
    if m.straps.topo = 3 then m.w .wl .wlTopoErr 1 else m

/-- The course of R389 up to the tile domains: image, profile, domains, Catalogue, routes, tiles. -/
def State.bootUp (m : State) (r : RstReq) : State :=
  let m := m.showDevice r.cause
  match bootImage m.nv r.fwA r.fwB with
  | none => (m.w .dev .devStatBootFail 1).w .pwr .pwrDomStat 7
  | some k =>
    let m : State := { m with nv := { m.nv with fwRun := k } }
    let m := m.w .dev .devStatFwSlot k
    let m := if r.cold then m.sealMap else m
    let m := if m.r .site .siteDefault = 1 then (m.w .dev .devStatProfileBad 1).w .dev .devStatAlert 1 else m
    let m := ((m.loadProfile .cat).loadProfile .trk).w .arc .arcPages m.variant.pages
    let m := m.showWalul.showQueues.restoreCat
    let m := m.w .pwr .pwrDomStat 15
    let m := (List.range 16).foldl (fun m t => m.tileStart t m.pace) m
    m.reAllow

/-- The base of a cold reset (R383): MRAM, flash, the host's memory and the commands that wait stay, all else is as after
power-on. -/
def State.coldBase (m : State) (r : RstReq) : State :=
  let nv := { m.nv with bootCount := m.nv.bootCount + 1, lastUcode := List.replicate 16 (m.nv.ucodeFlash.getD 0),
                        okA := r.fwA, okB := r.fwB, pfPending := false, hotPending := false }
  ({ pending := m.pending, freeCtr := m.freeCtr, variant := m.variant, straps := r.straps, profile := m.profile, chainEnd := m.chainEnd,
     hostMem := m.hostMem, msix := m.msixOff, nv := nv, faultLog := m.faultLog, pfRecs := m.pfRecs,
     cur := { perst := m.cur.perst, linkUp := !m.cur.perst } } : State).ws .pwr [(.pwrVin, m.r .pwr .pwrVin), (.pwrDomStat, 1)]

/-- The registers that AON keeps: those of the pace page and of the site map, but no function's copies (R383, R458). -/
def State.aonRegs (m : State) : RegTab := m.regs.filter fun c => (c.page == .pace || c.page == .site) && decide (0x100 ≤ c.fld.off)

/-- The base of a warm reset (R383): the pace page, the site map, the phase trim, what AER has logged (log entry 40) and what the
last ALIGN did for the module (R364) stay too. -/
def State.warmBase (m : State) : State :=
  let trim := m.r .wl .wlPhase
  let m' : State :=
    { pending := m.pending, pace := m.pace, freeCtr := m.freeCtr, variant := m.variant, straps := m.straps,
      profile := m.profile, chainEnd := m.chainEnd,
      regs := m.aonRegs, fns := m.fns.map fun (f, d) => (f, { aer := d.aer }),
      hostMem := m.hostMem, msix := m.msixOff, nv := m.nv, faultLog := m.faultLog, pfRecs := m.pfRecs,
      wl := { topoErr := m.wl.topoErr, alignOk := m.wl.alignOk },
      cur := { perst := m.cur.perst, linkUp := !m.cur.perst, refinBack := m.cur.refinBack, refinLoss := m.cur.refinLoss,
               refinLock := m.cur.refinLock } }
  (m'.ws .pwr [(.pwrVin, m.r .pwr .pwrVin), (.pwrDomStat, 1)]).w .wl .wlPhase trim

/-- A reset that has waited for its lanes takes place (R383, R384, R389). -/
def State.doReset (m : State) (r : RstReq) : State :=
  if r.cold then (m.coldBase r).bootUp r
  else
    let nv := if r.cause = 5 then (if m.nv.fwRun = 0 then { m.nv with fwA := 2, fwRun := 1 } else { m.nv with fwB := 2, fwRun := 0 }) else m.nv
    let m := (({ m with nv := nv } : State).warmBase).bootUp r
    if r.cause = 5 then m.flag .dev .devStatFwFallback else m

/-- A cold or warm reset is ordered (R384, R387): transfers abort, every lane disconnects; one of a level at or below a reset
in progress is absorbed. -/
def State.orderReset (m : State) (r : RstReq) : State :=
  let go := match m.cur.rst with | some o => r.cold && !o.cold | none => true
  if !go then m
  else
    let e := m.pace + 1
    let m : State := { m with cur := { m.cur with rst := some r, linkUp := false } }
    let m := m.w .dev .devStatReady 0
    (List.range 16).foldl (fun m t =>
      if m.tileOn t then
        let m := m.xferAbort t 5 2 e
        (List.range 10).foldl (fun m s => (m.modLane t s fun d => { d with owner := none }).discOne t s e .tileDown) m
      else m) m

/-- Every lane of the module is DISCONNECTED or unpowered. -/
def State.allOpen (m : State) : Bool := (List.range 16).all m.tileOpen

/-! Power failure (R394 to R400). -/

/-- A lane's entry in the power-fail record (R398). -/
def State.pfLane (m : State) (k : Nat) : PfLane :=
  let t := k / 10
  let s := k % 10
  let p := Page.lane t s
  { sw := (m.sw t s).code, mode := m.r p .laneForceMode, pers := m.r p .lanePersSel, vr := m.r p .laneForceVrange,
    ir := m.r p .laneForceIrange,
    owner := match (m.lane t s).owner with | none => 0 | some (.ctx _) | some (.ended _) => 1 | some .seq => 2 | some .curator => 3,
    level := sext 20 (m.r p .laneForceLevel),
    ctx := match (m.lane t s).owner with | some (.ctx id) | some (.ended id) => id | _ => 0,
    flags := m.r p .laneCompl + 2 * m.r p .laneFoldback + 4 * m.r p .laneServedBy + 8 * bit (m.sw t s == .faulted) }

/-- The running operations of the record (R398): kind, tile, identifier and owning site. -/
def State.pfOps (m : State) : List (Nat × Nat × Nat × Nat) :=
  let ctxs := (m.ctxs.filter fun (_, c) => c.st.live).map fun (id, c) => (1, c.tile, id, c.fn)
  let seqs := ((List.range 16).filter m.seqLive).map fun t => (2, t, 0, m.home t)
  let acqs := ((List.range 16).filter m.acqLive).map fun t => (3, t, 0, m.home t)
  let cals := (m.cals.filter fun c => !c.ended).map fun c => (4, 15, c.id, c.fn)
  let xfers := (List.range 16).filterMap fun t => (m.subst t).xfer.map fun x => (5, t, (x.req.map (·.ticket)).getD 0, 0)
  let dmas := m.dmas.map fun d => (6, 15, d.tag, d.fn)
  (ctxs ++ seqs ++ acqs ++ cals ++ xfers ++ dmas).take 128

/-- A power failure is declared (R394, R395): the record is taken, transfers abort, every lane disconnects, and no operation
reports anything any more. `cause` has bit 0 LEVEL, bit 1 SLOPE, bit 2 CORE_HOT. -/
def State.pfailOp (m : State) (cause : Nat) (trace : List Nat) : State :=
  if !m.cur.aon || m.cur.pfail.isSome then m
  else
    let e := m.pace
    let cut := m.cals.any fun c => !c.ended && c.complete
    let rec_ : PfRec :=
      { cause := cause, flags := 2 * bit cut + 4 * bit (m.r .pace .paceRefinOk == 0) + 8 * m.r .pwr .pwrOverAllow,
        index := m.r .dev .devStrapIndex, boot := m.nv.bootCount, decl := e, est := ceilDiv m.sumEst 1000,
        allow := m.r .pwr .pwrAllow, trace := trace, temps := (List.range 16).map fun t => (m.tile t).temp,
        domains := m.r .pwr .pwrDomStat, lanes := (List.range 160).map m.pfLane, ops := m.pfOps }
    let m : State := { m with cur := { m.cur with pfail := some rec_, pfSaved := false, coreHot := cause == 4, rst := none,
                                                  linkUp := false },
                              cals := [], dmas := [] }
    (List.range 16).foldl (fun m t =>
      if m.tileOn t then
        let m := (m.setQueue t []).modSubst t fun q => { q with active := none, xfer := q.xfer.map fun x => { x with req := none } }
        let m := m.xferAbort t 3 2 e
        (List.range 10).foldl (fun m s => (m.modLane t s fun d => { d with owner := none }).discOne t s e .pfail) m
      else m) m

/-- Every lane is DISCONNECTED after a declaration: SAFE_TICK and ALL_SAFE are taken and every domain but AON goes off (R396,
R398). -/
def State.pfSafe (m : State) (e : Nat) : State :=
  match m.cur.pfail with
  | some r =>
    if r.safe.isSome then m
    else
      let r := { r with safe := some e, flags := r.flags + bit (decide (e ≤ r.decl + 24000)) }
      let b : State := { pending := m.pending, pace := m.pace, freeCtr := m.freeCtr, variant := m.variant, straps := m.straps,
                         profile := m.profile, chainEnd := m.chainEnd, hostMem := m.hostMem, msix := m.msixOff, nv := m.nv, faultLog := m.faultLog,
                         pfRecs := m.pfRecs, regs := m.aonRegs,
                         cur := { perst := m.cur.perst, pfail := some r, coreHot := m.cur.coreHot } }
      b.ws .pwr [(.pwrVin, m.r .pwr .pwrVin), (.pwrDomStat, 1)]
  | none => m

/-- What waits for lanes to be DISCONNECTED, after one of tile `t` has become so on tick `e`. -/
def State.settle (m : State) (t e : Nat) : State :=
  if m.cur.pfail.isSome then (if m.allOpen then m.pfSafe e else m)
  else match m.cur.rst with
    | some r => if m.allOpen then m.doReset r else m
    | none => m.tileGone t e

end Sys2Proof.Machine
end

