-- ==== Sys2Proof/Machine/Lanes.lean ====
section
/-! DEFINITION. A lane's connection and its personality, from the host's side and in time (R56, R57, R86 to R96, R104, R108 to
R110), and the tile's gangs and booster port (R87 to R95). -/

namespace Sys2Proof.Machine

/-! Faults that a lane declares (R264, R266, R277). -/

/-- A raw code of µV against the full scale of the lane's VRANGE in force, for DEV_FAULT_LOG (R485). -/
def State.vCode (m : State) (t s : Nat) (uv : Int) : Int := roundFree (uv * 8388608) (m.adcFs t s).1

/-- A fault that ends in FAULTED is declared on tick `e`; where the lane was on its way to DISCONNECTED for a reset, a tile or
a power failure it is then DISCONNECTED (R108, R384). -/
def State.faultTaken (m : State) (t s code : Nat) (value : Int) (e : Nat) : State :=
  let m := m.declare t s code value e
  if m.cur.pfail.isSome || m.cur.rst.isSome || ((m.tile t).goingDown && !(m.tile t).svcUp) then
    (m.discUnit t (m.leader t s) e .tileDown).settle t e
  else m

/-! The commands. -/

def execConnect (fn t s : Nat) (m : State) : Out := byHost (.connect fn t s) fn (m.hostAt fn (.lane t s)) m (m.connectOp fn t s)

def execDisconnect (fn t s : Nat) (m : State) : Out :=
  byHost (.disconnect fn t s) fn (m.hostAt fn (.lane t s)) m (m.disconnectOp t s)

def execLaneForceWrite (fn t s : Nat) (w : Word) (m : State) : Out :=
  byHost (.laneForceWrite fn t s w) fn (m.hostAt fn (.lane t s)) m (m.laneWrite fn t s 0x100 w)

def execLanePersWrite (fn t s : Nat) (w : Word) (m : State) : Out :=
  byHost (.lanePersWrite fn t s w) fn (m.hostAt fn (.lane t s)) m (m.laneWrite fn t s 0x134 w)

/-- LANE_RST.CMD = 1. -/
def execLaneRst (fn t s : Nat) (m : State) : Out :=
  byHost (.laneRst fn t s) fn (m.hostAt fn (.lane t s)) m (m.laneWrite fn t s 0x184 1)

/-! The connection in time (R90, R108). The members of a gang go through it on the same ticks. -/

/-- The lanes that go through the connection with lane (t, s). -/
def State.together (m : State) (t s : Nat) : List Nat := m.unit t (m.leader t s)

/-- 8,000 ticks after PRECONNECT: SENSE closes, but on a booster lane, and the lane is CONNECTING. -/
def State.preconnectEndOp (m : State) (t s : Nat) : State :=
  if m.sw t s = .preconnect then
    let e := (m.lane t s).since + 8000
    (m.together t s).foldl (fun m k =>
      (m.setSw t k .connecting e).modLane t k fun d => { d with senseSw := !m.boosted t k, swapHits := 0 }) (m.due e)
  else m

def execPreconnectEnd (t s : Nat) (m : State) : Out := done (m.preconnectEndOp t s)

/-- The code that drives the force node at LANE_CONNECT.LEVEL + 50 mV (R275), the nearest one (DESIGN CHOICE, log entry 44). -/
def State.swapCode (m : State) (t s : Nat) : Int :=
  nearest (m.connectUv t s + 50000 * 524288) (m.vFs t (m.gov t s .laneForceVrange))

/-- CONNECTING tick 400: FORCE closes, or BEN asserts, and the swap check drives its level (R108, R275). -/
def State.forceCloseOp (m : State) (t s : Nat) : State :=
  let d := m.lane t s
  let ld := m.leader t s
  if m.sw t s = .connecting ∧ !d.forceSw ∧ !d.ben then
    let m := (m.together t s).foldl (fun m k => m.modLane t k fun d => { d with forceSw := !m.boosted t k, ben := m.boosted t k })
      (m.due (d.since + 400))
    if m.swapRuns t ld then m.driveOut t ld (m.gov t ld) (m.lane t ld).dacLevel (m.swapCode t ld) else m
  else m

def execForceSwitchClose (t s : Nat) (m : State) : Out := done (m.forceCloseOp t s)

/-- SWAP: at least 3 of the 16 loop errors exceed +20 mV (R275); the value is the loop error of the latest of them. -/
def State.swapOp (m : State) (t s : Nat) : State :=
  let d := m.lane t s
  if m.sw t s = .connecting ∧ 3 ≤ d.swapHits then m.faultTaken t s 5 (m.vCode t s d.swapErr) m.pace else m

def execSwap (t s : Nat) (m : State) : Out := done (m.swapOp t s)

/-- CONNECTING tick 1,200 without a swap: the lane is CONNECTED, back at its level. -/
def State.connectedOp (m : State) (t s : Nat) : State :=
  let d := m.lane t s
  if m.sw t s = .connecting ∧ (d.forceSw ∨ d.ben) ∧ (m.lane t (m.leader t s)).swapHits < 3 then
    let e := d.since + 1200
    let ld := m.leader t s
    ((m.together t s).foldl (fun m k => m.setSw t k .connected e) (m.due e)).driveTo t ld (m.gov t ld) (m.lane t ld).dacLevel
  else m

def execConnected (t s : Nat) (m : State) : Out := done (m.connectedOp t s)

/-- The lanes whose disconnect goes with that of lane (t, s): the members of its gang that are DISCONNECTING (R90). -/
def State.leaving (m : State) (t s : Nat) : List Nat := (m.together t s).filter fun k => m.sw t k == .disconnecting

/-- Step k of the disconnect ramp, 160 × k ticks after DISCONNECTING began, leaves (64 − k) / 64 of the level (R109), the code
nearest to it, halves away from zero (DESIGN CHOICE, log entry 44). The members of a gang ramp together (R90). -/
def State.rampOp (m : State) (t s : Nat) : State :=
  let d := m.lane t s
  if m.sw t s = .disconnecting ∧ d.rampStep < 64 then
    let k := d.rampStep + 1
    (m.leaving t s).foldl (fun m j => m.modLane t j fun d =>
      let lv := nearest (d.rampFrom * (64 - k)) 64
      { d with rampStep := k, dacLevel := lv, dacOut := lv, conv := m.driving t j lv }) (m.due (d.since + 160 * k))
  else m

def execDisconnectRampStep (t s : Nat) (m : State) : Out := done (m.rampOp t s)

/-- 400 ticks after the ramp the FORCE or PIN switch opens, or BEN is released; 400 ticks later SENSE opens and the lane is
DISCONNECTED (R108), with every member of its gang on the same tick (R90). -/
def State.openStepOp (m : State) (t s : Nat) : State :=
  let d := m.lane t s
  let z := d.since + (if d.noRamp then 0 else 10240)
  if m.sw t s ≠ .disconnecting ∨ d.rampStep < 64 then m
  else if d.rampStep = 64 then
    (m.leaving t s).foldl (fun m k => m.modLane t k fun d => { d with rampStep := 65, forceSw := false, pinSw := false, ben := false })
      (m.due (z + 400))
  else ((m.leaving t s).foldl (fun m k => m.arrive t k (z + 800)) (m.due (z + 800))).settle t (z + 800)

def execDisconnectSwitchOpen (t s : Nat) (m : State) : Out := done (m.openStepOp t s)

/-! Gangs and the booster port (R87, R92). -/

/-- A write of TILE_GANGg is accepted (R87): the lanes named, and those that it releases, are DISCONNECTED. -/
def State.gangOk (m : State) (t g : Nat) (w : Word) : Bool :=
  let mem := (Fld.tileGangMembers g).of w
  let lead := (Fld.tileGangLeader g).of w
  let ss := setBits mem 9
  let old := setBits (m.r (.tile t) (.tileGangMembers g)) 9
  (ss ++ old).all (fun s => m.sw t s == .disconnected) &&
    (mem == 0 ||
      (ss.all (fun s => !m.boosted t s && (match m.gangOf t s with | some h => h == g | none => true)) &&
       ss.all (fun s => m.laneOwner t s == m.laneOwner t lead) && mem.testBit lead && decide (2 ≤ ss.length)))

/-- TILE_GANGg. -/
def State.gangWrite (m : State) (fn t g : Nat) (w : Word) : State :=
  if m.gangOk t g w then m.classWrite fn (.tile t) (0x114 + 4 * g) w else m.refuseTile t .wrongState

def execTileGangWrite (fn t g : Nat) (w : Word) (m : State) : Out :=
  byHost (.tileGangWrite fn t g w) fn (m.hostAt fn (.tile t) && decide (g < 4)) m (m.gangWrite fn t g w)

/-- A write of TILE_BOOST is accepted (R91, R92). While VFS or IFS is 0 EN cannot be set: a write with EN = 1 is then refused
whole, with WRONG_STATE (DESIGN CHOICE, log entry 44). -/
def State.boostOk (m : State) (t : Nat) (w : Word) : Bool :=
  let p := Page.tile t
  let free (s : Nat) : Bool := m.sw t s == .disconnected && (m.gangOf t s).isNone
  let en := Fld.tileBoostEn.of w == 1
  let s := Fld.tileBoostSlot.of w
  (m.r p .tileBoostEn == 0 || free (m.r p .tileBoostSlot)) &&
    (!en || (decide (s < 9) && free s && m.r p .tileBprofVfs != 0 && m.r p .tileBprofIfs != 0))

/-- TILE_BOOST; without a booster port the register is dropped (R4). -/
def State.boostWrite (m : State) (fn t : Nat) (w : Word) : State :=
  if !m.hasBoost then m
  else if m.boostOk t w then m.classWrite fn (.tile t) 0x124 w else m.refuseTile t .wrongState

def execTileBoostWrite (fn t : Nat) (w : Word) (m : State) : Out :=
  byHost (.tileBoostWrite fn t w) fn (m.hostAt fn (.tile t)) m (m.boostWrite fn t w)

/-- A booster fault of tile `t` (R94, R270): BDRV to 0 V, BEN released, FAULTED with code BOOST, BOOST_FAULT set. -/
def State.boostFaultOp (m : State) (t : Nat) (value : Int) : State :=
  let s := m.r (.tile t) .tileBoostSlot
  if m.tileOn t && m.boosted t s then (m.flag (.tile t) .tileBoostFault).faultTaken t s 6 value m.pace else m

/-- BFLT# low for `lowNs` ns: 100 ns make a fault; its log entry has no measured value, so it is free (log entry 26). -/
def State.bfltOp (m : State) (t lowNs : Nat) : State :=
  if 100 ≤ lowNs then (m.boostFaultOp t (Config.faultValue m.freeCtr)).drawn else m

def execBoostFault (t lowNs : Nat) (m : State) : Out := done (m.bfltOp t lowNs)

/-- A BSV or BSI sense beyond ±5.5 V (R270), with the value that crosses as a code of ±5 V = ±FS. -/
def State.boostOverOp (m : State) (t : Nat) (bsvMv bsiMv : Int) : State :=
  let x := if 5500 < bsvMv.natAbs then bsvMv else bsiMv
  if 5500 < x.natAbs then m.boostFaultOp t (roundFree (x * 8388608) 5000) else m

/-- Beyond ±6 V on either land the ratings of R488 are exceeded. -/
def execBoostSenseOverdrive (t : Nat) (bsvMv bsiMv : Int) (m : State) : Out :=
  if 6000 < bsvMv.natAbs ∨ 6000 < bsiMv.natAbs then .fault .beyondRatings else done (m.boostOverOp t bsvMv bsiMv)

end Sys2Proof.Machine
end

