-- ==== Sys2Proof/Machine/Monitors.lean ====
section
/-! DEFINITION. The window monitors, the trip path and the self-check (R250 to R263, R344, R348, R349). -/

namespace Sys2Proof.Machine

/-- The code of a monitor state in LANE_WM_STAT.STATEn (R477). -/
def WmState.code : WmState → Nat
  | .inside => 0 | .above => 1 | .below => 2

/-- The raw state that the filter samples on tick `e` (R254). -/
def Monitor.sampleAt (x : Monitor) (e : Nat) : WmState :=
  if x.since ≤ e then x.raw else ((x.hist.find? fun h => decide (h.1 ≤ e)).map (·.2)).getD .inside

/-- On tick `e` at least `k` of the last 2k − 1 samples show state `w` (R254). -/
def Monitor.shows (x : Monitor) (k e : Nat) (w : WmState) : Bool :=
  decide (k ≤ (List.range (2 * k - 1)).countP fun i => decide (i ≤ e) && x.sampleAt (e - i) == w)

/-- The tick, from the last raw change on, at which a majority first shows a state of another code than `old` (R254). -/
def Monitor.firstShown (x : Monitor) (k old : Nat) : Option (Nat × WmState) :=
  (List.range 9).findSome? fun i =>
    ([WmState.inside, .above, .below].find? fun w => w.code != old && x.shows k (x.since + i) w).map fun w => (x.since + i, w)

/-- The input of monitor `n` is `x`, in µV with QSEL = V and in pA with QSEL = I, from sub-tick `sub` after the present tick on;
the monitor compares it (R251, R252). -/
def State.wmInput (m : State) (t s n : Nat) (x : Int) (sub : Nat) : State :=
  let isI := m.l (.lane t s) (.laneWmQsel n) == 1
  (m.modLane t s fun d => d.setWm n { d.wm n with inp := some (isI, x) }).wmEval t s n m.pace (m.pace + 1) (sub % 128)

/-- The state that monitor `n` takes with the input `x` (R252). -/
def State.wmThen (m : State) (t s n : Nat) (x : Int) : WmState := (m.wmBand t s n).next ((m.lane t s).wm n).raw x

/-- A monitor of the module, in a powered tile (R250, R256). -/
def State.wmHere (m : State) (t s n : Nat) : Bool := m.laneOn t s && decide (n < 2)

/-- TRIP: the input passes a threshold (R252, R257, R258); out of INSIDE this is a trip. -/
def State.tripOp (m : State) (t s n : Nat) (x : Int) (sub : Nat) : State :=
  if m.wmHere t s n && m.wmThen t s n x != .inside then m.wmInput t s n x sub else m

def execTrip (t s n : Nat) (x : Int) (sub : Nat) (m : State) : Out := done (m.tripOp t s n x sub)

/-- TRIP_CLAMP_RELEASE: the input lies where the raw state is INSIDE, so that with LATCH = 0 the trip clamp is released (R252,
R258); where the state stays INSIDE, a passage out of a hysteresis band is a clean crossing (R252, R253; log entry 25). -/
def State.rawInside (m : State) (t s n : Nat) (x : Int) : State :=
  let b := m.wmBand t s n
  let isI := m.l (.lane t s) (.laneWmQsel n) == 1
  let d := (m.lane t s).wm n
  let left := match d.inp with | some (i, y) => i == isI && b.inBand y && !b.inBand x | none => false
  if m.wmHere t s n && m.wmThen t s n x == .inside then
    let m := if d.raw == .inside && left && m.wmLive t s n m.pace then m.w (.lane t s) (.laneWmUnres n) 0 else m
    m.wmInput t s n x 0
  else m

def execTripClampRelease (t s : Nat) (inp : WmInput) (m : State) : Out := done (m.rawInside t s inp.n inp.x)

/-- A host write of 1 to TRIPn (R258). -/
def execTripClear (fn t s n : Nat) (m : State) : Out :=
  byHost (.tripClear fn t s n) fn (m.hostAt fn (.lane t s) && decide (n < 2)) m (m.laneWrite fn t s 0x20C (BitVec.ofNat 32 (2 ^ (12 + n))))

/-- The filtered output of monitor `n` changes on the tick at which the majority of 3-of-5 or 5-of-9 first shows a new state
(R254): 2 or 4 ticks after the first tick of a raw state that stays. -/
def State.filteredOp (m : State) (t s n : Nat) : State :=
  let p := Page.lane t s
  let d := (m.lane t s).wm n
  let old := m.r p (.laneWmState n)
  match d.firstShown (if m.l p (.laneWmFilt n) = 1 then 5 else 3) old with
  | some (z, w) =>
    let e := max z m.pace
    if !m.wmLive t s n e then m
    else
      let m := (m.due e).w p (.laneWmState n) w.code
      if old = 0 then ((m.flag p (.laneWmOut n)).inc p (.laneWmCnt n)).laneEvent t s (.wmOut n) e
      else if w = .inside then (m.flag p (.laneWmIn n)).laneEvent t s (.wmIn n) e
      else m
  | none => m

def execWmFilteredChange (t s n : Nat) (m : State) : Out := done (m.filteredOp t s n)

/-! The self-check (R261 to R263). -/

def execWmchkRun (fn t s n : Nat) (m : State) : Out :=
  byHost (.wmchkRun fn t s n) fn (m.hostAt fn (.lane t s) && decide (n < 2)) m (m.laneWrite fn t s 0x17C (BitVec.ofNat 32 (n + 1)))

/-- The Curator retires lane (t, s) by itself, where DEV_SVC.AUTO_RETIRE asks for it (R347, R348): logged with code NONE, with an
alert; where the rules of RETIRE refuse it, logged without retiring. -/
def State.autoRetire (m : State) (t s : Nat) : State :=
  if m.r .dev .devSvcAutoRetire = 1 ∧ s < 9 then
    let m := (m.logFault t s 0 (Config.faultValue m.freeCtr)).drawn.alert true
    let r : SvcReq := { ticket := 65536, op := 4, slot := s, waitMs := 0, doneEv := 15, since := m.pace }
    let up (d : TileDyn) : TileDyn := { d with goingDown := d.goingDown && !d.svcUp }
    match (m.modTile t up).svcPath 4 t s 0 15 with
    | .refused _ => m
    | .atOnce => m.setRetired t s
    | .queued => m.setQueue t ((m.subst t).queue ++ [r])
  else m

/-- What a self-check's end leads to: the other monitor's check of a substitute (R344) or of a tile's power-up (R349), of slot 9
a block of handovers (R336), the tile's acceptance of host writes, an automatic retirement (R348). -/
def State.chkAfter (m : State) (t s n e : Nat) (pass : Bool) : State :=
  let q := m.subst t
  let d := m.tile t
  let more := n == 0 && (d.svcUp || (s == 9 && q.checking))
  let m := if s = 9 then m.setSubst t { q with checking := q.checking && more, blocked := q.blocked || !pass } else m
  let m := if d.svcUp && !pass then m.setTile t { d with chkFail := d.chkFail ||| 2 ^ s } else m
  let m := if !pass && m.substSt t == 0 then m.autoRetire t s else m
  let m := if more then m.modLane t s fun x => { x with chk := some (1, e) } else m
  m.tileReady t

/-- The states that the six steps of a self-check shall show (R261): the input tied to +75 %, 0 and −75 % of the range reference
against thresholds of ±50 %, then the same with the comparator inputs swapped. -/
def chkExpected : List WmState := [.above, .inside, .below, .below, .inside, .above]

/-- The first step that fails, from step `k` on, and whether its comparator is right, so that the trip path failed (R261, R263).
-/
def chkFail : Nat → List WmState → List ChkStep → Option (Nat × Bool)
  | _, [], _ => none
  | k, _ :: _, [] => some (k, false)
  | k, w :: ws, x :: xs =>
    let cmp := x.raw == w.code && x.filt == w.code
    if !cmp then some (k, false) else if w != .inside && !x.gate then some (k, true) else chkFail (k + 1) ws xs

/-- RESULT and STEP of a self-check by what its six steps showed (R263); STEP is 0 after a PASS (log entry 44). -/
def chkJudge (r : List ChkStep) : Nat × Nat :=
  match chkFail 1 chkExpected r with
  | none => (1, 0)
  | some (k, true) => (4, k)
  | some (k, false) => (if k ≤ 3 then 2 else 3, k)

/-- WMCHK_DONE, 2,400 ticks after the check began. -/
def State.wmchkDoneOp (m : State) (t s : Nat) (r : List ChkStep) : State :=
  let p := Page.lane t s
  let x := chkJudge r
  match (m.lane t s).chk with
  | some (n, z) =>
    let e := z + 2400
    let m := (m.due e).ws p [(.laneWmchkResult, x.1), (.laneWmchkStep, x.2), (.laneWmchkCmd, 0)]
    let m := ((m.flag p .laneWmchkDone).modLane t s fun d => { d with chk := none }).wmReset t s n e
    m.chkAfter t s n e (x.1 == 1)
  | none => m

def execWmchkDone (t s : Nat) (r : List ChkStep) (m : State) : Out := done (m.wmchkDoneOp t s r)

end Sys2Proof.Machine
end

