-- ==== Sys2Proof/Machine/Faults.lean ====
section
/-! DEFINITION. The fault detectors, the missing reference, the temperatures and the budget (R264 to R286, R382). -/

namespace Sys2Proof.Machine

/-! Short circuit and fold-back (R267, R268). -/

/-- FOLDBACK: short compliance for 4,000,000 ticks limits the gang's leader to N × 10 mA from the next ADC sample instant. -/
def State.foldOp (m : State) (t s : Nat) : State :=
  let e := m.nextAdc t s
  let d := m.lane t s
  match d.shortSince with
  | some z =>
    if z + 4000000 ≤ e ∧ !d.foldShort then
      let amp := d.histI.headD 0
      (m.due e).declare t s 1 (roundFree (amp * 8388608) (m.adcFs t s).2) e
    else m
  | none => m

def execFoldback (t s : Nat) (m : State) : Out := onlyIf (m.laneOn t s) m (m.foldOp t s)

/-- The limit of a fold-back ends on one of its causes; with none left the stored clamps apply (R268, R281). -/
def State.unfold (m : State) (t s : Nat) : State :=
  let d := m.lane t s
  if d.foldShort || d.foldThermal then m
  else (m.w (.lane t s) .laneFoldback 0).latch (.lane t s) clampFields

/-- FOLDBACK_RESTORE at the next ADC sample instant: 800,000 ticks out of current compliance, or an FCLR; in TFOLD the lane stays
limited (R281). -/
def State.restoreOp (m : State) (t s : Nat) : State :=
  let e := m.nextAdc t s
  let d := m.lane t s
  let out := match d.exitSince with | some z => decide (z + 800000 ≤ e) | none => false
  if d.foldShort && (d.foldClr || out) then
    let m := ((m.due e).w (.lane t s) .laneSupvFclr 0).setLane t s
      { d with foldShort := false, foldClr := false, exitSince := none, shortSince := none }
    ((m.unfold t s).tfoldSettle t s e).overSettle
  else m

def execFoldbackRestore (t s : Nat) (m : State) : Out := onlyIf (m.laneOn t s) m (m.restoreOp t s)

/-- LANE_SUPV.FCLR, the other fields of its register as they stand. -/
def State.fclrWrite (m : State) (fn t s : Nat) : State :=
  let p := Page.lane t s
  m.laneWrite fn t s 0x164 (BitVec.ofNat 32 (m.r p .laneSupvAct + 16 * m.r p .laneSupvProbe + 256))

def execFclr (fn t s : Nat) (m : State) : Out := byHost (.fclr fn t s) fn (m.hostAt fn (.lane t s)) m (m.fclrWrite fn t s)

/-! External source (R269). -/

/-- A node at `uv` µV lies beyond the lane's reach. -/
def State.beyondReach (m : State) (t s : Nat) (uv : Int) : Bool :=
  let g : Fld → Nat := fun f => if f = .laneForceVrange then m.gov t s f else m.inForce t s f
  match m.actSw t s with
  | .measureOnly => decide (26500000 < uv.natAbs)
  | .pin => decide (uv < -2000000) || decide (7000000 < uv)
  | _ => m.forcesOn t s && !(m.lane t s).ben && decide (railReach (railCeil g) + 1000000 < uv.natAbs)

def State.overdriveOp (m : State) (t s : Nat) (uv : Int) : State :=
  if m.laneOn t s && m.beyondReach t s uv then m.faultTaken t s 2 (m.vCode t s uv) m.pace else m

/-- OVERDRIVE with the node at `uv` µV; beyond ±30 V the ratings of R488 are exceeded. -/
def execOverdrive (t s : Nat) (uv : Int) (m : State) : Out :=
  if 30000000 < uv.natAbs then .fault .beyondRatings else done (m.overdriveOp t s uv)

/-! The open check (R272 to R274). -/

/-- The sum of the last eight mismatches of a phase in µV (R272): those that ADC samples have presented, `held`, and of the samples
that no command has presented as many as are lacking (log entry 41). -/
def sumEight (held rest : List Int) : Int := ((held ++ rest).take 8).foldl (· + ·) 0

/-- PROBE_PHASE: every 800 ticks a phase ends, and with an off phase a pair of means stands (R272); after a SENSE_OPEN the
phases run on without the probe current (R274). The check pauses during the ranging window. -/
def State.probeOp (m : State) (t s : Nat) : State :=
  let d := m.lane t s
  if !m.openCheck t s then
    m.setLane t s { d with probeOn := false, probePhase := false, mism := [], mOn := none, mOff := none, evalAt := none }
  else if d.rangeS.isSome then m
  else
    let e := max d.probeAt m.pace
    let d := if d.probePhase then { d with mOn := some d.mism, evalAt := none }
             else { d with mOff := some d.mism, evalAt := if d.mOn.isSome then some e else none }
    (m.due e).setLane t s
      { d with probePhase := !d.probePhase, probeOn := !d.probePhase && !d.probeStopped, probeAt := e + 800, mism := [] }

def execProbePhase (t s : Nat) (m : State) : Out := onlyIf (m.laneOn t s) m (m.probeOp t s)

/-- OPEN_CHECK_EVAL, every 1,600 ticks, at the end of an off phase (R272 to R274), with eight times M_on and M_off in µV: three
consecutive findings declare an open; three consecutive evaluations within the limits arm the check again. -/
def State.openJudge (m : State) (t s e : Nat) (on off : Int) : State :=
  let d := m.lane t s
  let fo := decide (8 * 50000 < off.natAbs)
  let so := decide (8 * 50000 < on - off)
  let good := if fo || so then 0 else d.goodCnt + 1
  let rearm := decide (3 ≤ good)
  let armed := !(d.foDecl || d.probeStopped)
  let nf := if fo then d.foCnt + 1 else 0
  let ns := if so then d.soCnt + 1 else 0
  let declF := armed && decide (3 ≤ nf)
  let declS := armed && !declF && decide (3 ≤ ns)
  let m := m.setLane t s { d with goodCnt := min good 3, foCnt := min nf 3, soCnt := min ns 3,
                                  foDecl := (d.foDecl && !rearm) || declF,
                                  probeStopped := (d.probeStopped && !rearm) || declS,
                                  probeOn := d.probeOn && !declS, evalAt := none }
  let code (x : Int) : Int := roundFree (x * 8388608) (8 * (m.adcFs t s).1)
  if declF then m.declare t s 3 (code off) e
  else if declS then m.declare t s 4 (code (on - off)) e
  else m

def State.openEvalOp (m : State) (t s : Nat) (restOn restOff : List Int) : State :=
  let d := m.lane t s
  match d.evalAt, d.mOn, d.mOff with
  | some e, some on, some off =>
    if m.openCheck t s then (m.due e).openJudge t s e (sumEight on restOn) (sumEight off restOff) else m
  | _, _, _ => m

def execOpenCheckEval (t s : Nat) (restOn restOff : List Int) (m : State) : Out :=
  onlyIf (m.laneOn t s) m (m.openEvalOp t s restOn restOff)

/-! Reversed input and missing reference (R278 to R280). -/

/-- VIN reversed by `mv` mV: nothing is recorded and nothing changes; beyond −40 V the ratings of R488 are exceeded. -/
def execVinReversed (mv : Nat) (m : State) : Out := if 40000 < mv then .fault .beyondRatings else done m

/-- REFIN is declared missing (R279): the pace runs from the internal oscillator, sequences that have not begun end on the first
tick after, and running ones at their next granule boundary (R207); ALIGNED clears (R374). -/
def State.refinLostOp (m : State) : State :=
  if !m.dom 0 then m
  else if m.r .pace .paceRefinOk = 0 then { m with cur := { m.cur with refinBack := false } }
  else
    let e := m.pace
    let m := (m.ws .pace [(.paceRefinOk, 0), (.paceSrc, 1)]).flag .pace .paceRefinLost
    let m : State := { m with cur := { m.cur with refinBack := false, refinLoss := m.stamp e } }
    let m := (m.alert (m.r .dev .devAlertEnRefin == 1)).w .wl .wlAligned 0
    (List.range 16).foldl (fun m t =>
      if m.r (.seq t) .seqState = 4 then m.modSeq t fun q => { q with noRefin := true }
      else if m.seqLive t then m.abortSeq t 9 0 (e + 1) else m) m

def execRefinLost (_offFreq : Bool) (m : State) : Out := done m.refinLostOp

/-- REFIN has been good for 10 ms: the pace slews onto it (R280). -/
def State.refinBackOp (m : State) : State :=
  if m.dom 0 ∧ m.r .pace .paceRefinOk = 0 then { m with cur := { m.cur with refinBack := true } } else m

def execRefinRestored (m : State) : Out := done m.refinBackOp

/-- The lock is complete (R280). -/
def State.refinLockOp (m : State) : State :=
  if m.dom 0 && m.cur.refinBack then
    let m := (m.ws .pace [(.paceRefinOk, 1), (.paceSrc, 0)]).flag .pace .paceRefinLocked
    { m with cur := { m.cur with refinBack := false, refinLock := m.stamp m.pace } }
  else m

def execRefinLocked (m : State) : Out := done m.refinLockOp

/-! Temperatures (R281, R382). -/

/-- The number of consecutive readings at or above a threshold, up to 3: a threshold acts when it becomes 2. -/
def hotCount (n : Nat) (reading limit : Int) : Nat := if limit ≤ reading then min (n + 1) 3 else 0

/-- TFOLD on tick `e` with the reading `x` (R264, R281): every lane that it limits reports THERMAL. -/
def State.tfoldOn (m : State) (t e : Nat) (x : Int) : State :=
  (m.w (.tile t) .tileTfold 1).tfoldLanes t (List.range 10) e x

/-- TSHUT on tick `e` (R264, R281): logged once for the tile, whose lanes start DISCONNECTING. A tile reset, a warm or cold reset
or a power failure already in progress absorbs it (R387). -/
def State.tshutOn (m : State) (t e : Nat) (x : Int) : State :=
  if ((m.tile t).goingDown && !(m.tile t).svcUp) || m.cur.rst.isSome || m.cur.pfail.isSome then m
  else
    let m := (m.logFault t 15 7 x).alert ((m.r .dev .devAlertEnFault).testBit 6)
    ((m.modTile t fun d => { d with tshut := true }).tileStop t e).settle t e

/-- A reading `x` of tile `t` on tick `e`. -/
def State.tileTempOp (m : State) (t e : Nat) (x : Int) : State :=
  if !m.tileOn t then m.modTile t fun d => { d with temp := x, below110 := none }
  else
    let d := m.tile t
    let h1 := hotCount d.hot110 x 1100
    let h2 := hotCount d.hot120 x 1200
    let h3 := hotCount d.hot135 x 1350
    let m := (m.w (.tile t) .tileTemp (enc 16 x)).setTile t
      { d with hot110 := h1, hot120 := h2, hot135 := h3, temp := x, temps := (x :: d.temps).take 1000,
               below110 := if x < 1100 then d.below110 <|> some e else none,
               turn := d.turn.map fun c => { c with tSum := c.tSum + x, tN := c.tN + 1 } }
    let m := if h1 = 2 ∧ d.hot110 = 1 then (m.flag (.tile t) .tileTwarn).alert (m.r .dev .devAlertEnTwarn == 1) else m
    let m := if h2 = 2 ∧ d.hot120 = 1 ∧ !m.tfold t then m.tfoldOn t e x else m
    if h3 = 2 ∧ d.hot135 = 1 then m.tshutOn t e x else m

/-- TEMP_READING, on the next tick whose pace count is a multiple of 8,000, in 0.1 °C. -/
def State.tempOp (m : State) (tiles : List Int) (ctl arc : Int) : State :=
  if !m.dom 1 then m
  else
    let e := nextMul 8000 m.pace
    let m := (List.range 16).foldl (fun m t => m.tileTempOp t e (tiles.getD t 0)) (m.due e)
    let c := m.cur
    let k1 := hotCount c.hotCtl105 ctl 1050
    let k2 := hotCount c.hotCtl125 ctl 1250
    let k3 := hotCount c.hotArc95 arc 950
    let k4 := hotCount c.hotArc105 arc 1050
    let m := (m.ws .pwr [(.pwrTempCtl, enc 16 ctl), (.pwrTempArc, enc 16 arc)])
    let m : State := { m with cur := { m.cur with hotCtl105 := k1, hotCtl125 := k2, hotArc95 := k3, hotArc105 := k4 } }
    let warn := m.r .dev .devAlertEnTwarn == 1
    let m := if k1 = 2 ∧ c.hotCtl105 = 1 then (m.flag .pwr .pwrCtlWarn).alert warn else m
    let m := if k3 = 2 ∧ c.hotArc95 = 1 then (m.flag .pwr .pwrArcWarn).alert warn else m
    let m := if k4 = 2 ∧ c.hotArc105 = 1 then (if m.archOn then m.archOff else m).w .pwr .pwrArcHot 1 else m
    if k2 = 2 ∧ c.hotCtl125 = 1 then
      (m.drawn.pfailOp 4 ((List.range 32).map fun i => Config.vinTrace m.freeCtr i % 65536)).settle 0 e
    else m

def execTempReading (tiles : List Int) (ctl arc : Int) (m : State) : Out := done (m.tempOp tiles ctl arc)

/-- TFOLD is released after 8,000,000 ticks below 110 °C. -/
def State.tfoldOffOp (m : State) (t : Nat) : State :=
  match (m.tile t).below110 with
  | some z =>
    if m.tileOn t && m.tfold t then
      (List.range 10).foldl (fun m s =>
        if (m.lane t s).foldThermal then (m.modLane t s fun d => { d with foldThermal := false }).unfold t s else m)
        ((m.due (z + 8000000)).w (.tile t) .tileTfold 0)
    else m
  | none => m

def execTfoldRelease (t : Nat) (m : State) : Out := done (m.tfoldOffOp t)

/-- BUDGET_EVAL, on the next tick whose pace count is a multiple of 80,000, with the mean of VIN in mV (R282). -/
def State.budgetEvalOp (m : State) (mv : Nat) : State :=
  if m.dom 1 then (m.due (nextMul 80000 m.pace)).budgetOp mv else m

def execBudgetEval (vinMv : Nat) (m : State) : Out := done (m.budgetEvalOp vinMv)

end Sys2Proof.Machine
end

