-- ==== Sys2Proof/Machine/Walul.lean ====
section
/-! DEFINITION. The Walul link of one module (R354 to R375): training and loss of its ports, frames, and the alignment of the
pace. What only another module shows comes with the command (log entry 27). -/

namespace Sys2Proof.Machine

/-- The link's page and ports work: fitted, LINK powered (R8, R358). -/
def State.wlOn (m : State) : Bool := m.hasWalul && m.dom 2

/-- The strapped device index (R355). -/
def State.index (m : State) : Nat := m.r .dev .devStrapIndex

/-- The state of port `n` (R358): 0 OFF, 1 TRAINING, 2 UP, 3 TOPO_ERR. -/
def State.wlPort (m : State) (n : Nat) : Nat := m.r .wl (.wlPState n)

/-- Port `n` enters a state, with an entry of WL_LINK_LOG, of which 32 are kept (R357, R371). -/
def State.wlPortSet (m : State) (n st cause : Nat) : State :=
  let old := m.wlPort n
  let m := m.ws .wl [(.wlPState n, st), (.wlPWidth n, if st = 2 then m.r .wl (.wlPWidth n) else 0)]
  if old = st then m
  else { m with wl := { m.wl with log := ((m.stamp m.pace, n, old, st, cause) :: m.wl.log).take 32 } }

/-! The modules and links (R356, R366). -/

/-- Link `j`, from port 1 of module `j` to port 0 of the next, is UP: of this module's own links by its ports, of the others by what
the last training told (log entry 27). -/
def State.wlLink (m : State) (j : Nat) : Bool :=
  let z := max m.wl.size 1
  if j = m.index then m.wlPort 1 == 2 else if (j + 1) % z = m.index then m.wlPort 0 == 2 else m.wl.links.testBit j

/-- The hops from module `o` to this one along ascending and along descending indices. -/
def State.wlUpHops (m : State) (o : Nat) : Nat := let z := max m.wl.size 1; (m.index + z - o % z) % z
def State.wlDownHops (m : State) (o : Nat) : Nat := let z := max m.wl.size 1; (o + z - m.index % z) % z

/-- The number of hops from origin `o` along the shortest path of links that are UP, for a frame that came in by port `n` (R366). -/
def State.wlHops (m : State) (n o : Nat) : Nat :=
  let z := max m.wl.size 1
  let up := m.wlUpHops o
  let dn := m.wlDownHops o
  let upOk := (List.range up).all fun k => m.wlLink ((o + k) % z)
  let dnOk := (List.range dn).all fun k => m.wlLink ((m.index + k) % z)
  if upOk && dnOk then min up dn else if upOk then up else if dnOk then dn else if n = 0 then up else dn

/-- Module 0 is reached through a port that is UP (R372). -/
def State.wlReached (m : State) : Bool := m.wl.via.any fun n => m.wlPort n == 2

/-- A module that is cut off from module 0 clears ALIGNED (R364, R372). -/
def State.wlCutCheck (m : State) : State := if m.index = 0 ∨ m.wlReached then m else m.w .wl .wlAligned 0

/-! Training and loss (R356, R358, R371 to R373). -/

/-- What a module learns of module 0's count of the modules (R356): over a link that leads to it, or as module 0. -/
def State.wlCount (m : State) (p : WlPeer) : State := if m.index = 0 ∨ p.reach0 then m.w .wl .wlN p.n else m

/-- The exchange of R356 agrees at port `n`: topology, MODE and HMAX are equal and the peer is the expected neighbour. -/
def State.wlAgrees (m : State) (n : Nat) (p : WlPeer) : Bool :=
  let i := m.index
  let topo := m.r .wl .wlTopo
  p.topo == topo && p.mode == m.r .wl .wlMode && p.hmax == m.r .wl .wlHmax &&
    (if n = 0 then (if i = 0 then topo == 2 && p.index != 0 else p.index + 1 == i)
     else p.index == i + 1 || (topo == 2 && p.index == 0 && i != 0))

/-- What a module learns through port `n`, at its training or as a farther link has trained or been lost (R356, R372, R373): the
links, module 0's count of the modules, and whether module 0 is reached that way, with an equal count or with COUNT_MISMATCH. -/
def State.wlReach (m : State) (n : Nat) (p : WlPeer) : State :=
  let via := m.wl.via.filter (· != n) ++ (if p.reach0 then [n] else [])
  let m : State := { m with wl := { m.wl with size := p.size, links := p.links, via := via,
                                              slewAt := if m.wlReached then m.wl.slewAt else m.pace } }
  let m := m.wlCount p
  if m.index = 0 then m
  else if p.reach0 ∧ !p.same then
    ({ m with wl := { m.wl with alignOk := false } } : State).ws .wl [(.wlCountMismatch, 1), (.wlAligned, 0)]
  else m.wlCutCheck

/-- LINK_TRAINING of port `n`: `width` pairs have locked in each direction. On a port that is UP it reports that a farther link
has trained or been lost (R356, R372, R373; log entry 27). -/
def State.trainOp (m : State) (n width : Nat) (p : WlPeer) : State :=
  let st := m.wlPort n
  let held := m.wl.topoErr.contains n && !p.cold
  if !m.wlOn || !m.portUsed n || held || 2 ≤ n then m
  else if st = 2 then m.wlReach n p
  else if width ≠ 2 ∧ width ≠ 4 then m.wlPortSet n 1 0
  else if m.wlAgrees n p then
    let m := (m.wlPortSet n 2 0).ws .wl [(.wlPWidth n, width), (.wlPPeer n, p.index)]
    let w := m.wl
    let m : State := { m with wl := { w with topoErr := w.topoErr.filter (· != n), bad0 := if n = 0 then 0 else w.bad0,
                                             bad1 := if n = 1 then 0 else w.bad1 } }
    m.wlReach n p
  else
    let m := (m.wlPortSet n 3 0).flag .wl .wlTopoErr
    { m with wl := { m.wl with topoErr := insertUp n m.wl.topoErr } }

def execLinkTraining (port width : Nat) (peer : WlPeer) (m : State) : Out := done (m.trainOp port width peer)

/-- The code of a loss's cause in WL_LINK_LOG, in the order of R371 (log entry 27). -/
def lossCode : LossCause → Nat
  | .lock => 1 | .crcRun => 2 | .peerReset => 3 | .linkOff => 4

/-- Port `n` leaves UP (R358, R371, R372). -/
def State.wlLeave (m : State) (n : Nat) (cause : LossCause) : State :=
  let m := (m.wlPortSet n (if cause = .linkOff then 0 else 1) (lossCode cause)).flag .wl .wlLoss
  (m.inc .wl .wlLossCnt).wlCutCheck

/-- The run of consecutive bad frames at port `n`. -/
def WlDyn.bad (w : WlDyn) (n : Nat) : Nat := if n = 0 then w.bad0 else w.bad1
def WlDyn.setBad (w : WlDyn) (n k : Nat) : WlDyn := if n = 0 then { w with bad0 := k } else { w with bad1 := k }

/-- LINK_LOSS of port `n`, in which `queued` frames waited; module 0 then counts `cnt` modules, or is not reached. After a CRC run the
port has left UP with the fourth bad frame (R358). -/
def State.lossOp (m : State) (n : Nat) (cause : LossCause) (queued cnt : Nat) (reach0 : Bool) : State :=
  if 2 ≤ n ∨ (if cause = .crcRun then m.wl.bad n < 4 else m.wlPort n ≠ 2) then m
  else
    let m := if cause = .crcRun then m else m.wlLeave n cause
    let m := m.incBy .wl .wlTxdropCnt queued
    let m : State := { m with wl := { m.wl.setBad n 0 with via := if reach0 then m.wl.via else [] } }
    if m.index = 0 ∨ m.wlReached then m.w .wl .wlN cnt else m.wlCutCheck

def execLinkLoss (port : Nat) (cause : LossCause) (queued n : Nat) (reach0 : Bool) (m : State) : Out :=
  done (m.lossOp port cause queued n reach0)

/-! Frames (R365 to R369). -/

/-- A frame leaves by port `n`: sent where it is UP, dropped and counted where it trains or is held, and not made where no
module is (R357, R365). Of the frames sent the last 64 are shown. -/
def State.wlSend (m : State) (n : Nat) (f : WlFrame) : State :=
  match m.wlPort n with
  | 2 => { m with wl := { m.wl with sent := ((n, f) :: m.wl.sent).take 64 } }
  | 0 => m
  | _ => m.inc .wl .wlTxdropCnt

/-- A reception of Walul channel `k` waits for its delivery tick (R366). -/
def State.wlWait (m : State) (tick k hop origin : Nat) : State :=
  { m with wl := { m.wl with pend := m.wl.pend ++ [⟨tick, k, hop, origin⟩] } }

/-- Trunk channel `ch`, fired on tick `c` with hop count `h`, is transmitted on Walul channel `k` (R303, R304, R365, R366): a
channel that a reception fired is re-emitted, and in EQ the module receives its own frame. -/
def State.wlTransmit (m : State) (ch k c h : Nat) (relay : Bool) : State :=
  let h := if relay then h + 1 else h
  if !m.wlOn then m
  else if h ≥ 15 then (m.ws .trk [(.trkLoopCh, ch), (.trkLoopWl, k)]).flag .trk .trkLoop
  else
    let f : WlFrame := ⟨k, c % 65536, h, m.index⟩
    let m := (m.wlSend 0 f).wlSend 1 f
    if m.r .wl .wlMode = 1 then m.wlWait (c + 19 * m.r .wl .wlHmax) k h m.index else m

/-- The module at the other end of port `n`, along the wiring (R356). -/
def State.wlNext (m : State) (n : Nat) : Nat :=
  let z := max m.wl.size 1
  if n = 0 then (m.index + z - 1) % z else (m.index + 1) % z

/-- WALUL_FRAME: a frame comes in by port `n` (R358, R359, R365, R366, R368): the fourth of four bad ones takes the port out of UP; a
copy is discarded, as far back as the tick that a frame carries tells it; the module before the origin stops the frame. -/
def State.frameOp (m : State) (n : Nat) (f : WlFrame) (crcOk : Bool) : State :=
  let w := m.wl
  if m.wlPort n ≠ 2 ∨ 2 ≤ n then m
  else if !crcOk then
    let m := ({ m with wl := w.setBad n (w.bad n + 1) } : State).inc .wl .wlCrcCnt
    if 4 ≤ w.bad n + 1 then m.wlLeave n .crcRun else m
  else
    let m : State := { m with wl := w.setBad n 0 }
    let c := m.pace - (m.pace + 65536 - f.tick16 % 65536) % 65536
    if f.origin = m.index ∨ w.seen.contains (f.chan, c, f.origin) then m
    else
      let m : State := { m with wl := { m.wl with seen := (f.chan, c, f.origin) :: m.wl.seen.filter fun x => m.pace < x.2.1 + 65536 } }
      let m := if m.wlNext (1 - n) = f.origin then m else m.wlSend (1 - n) f
      let d := c + 19 * (if m.r .wl .wlMode = 1 then m.r .wl .wlHmax else m.wlHops n f.origin)
      if d < m.pace then (m.flag .wl .wlLate).inc .wl .wlLateCnt else m.wlWait d f.chan f.hop f.origin

def execWalulFrame (port : Nat) (f : WlFrame) (crcOk : Bool) (m : State) : Out := done (m.frameOp port f crcOk)

/-- The reception whose delivery tick comes first. -/
def firstPend (l : List WlPend) : Option WlPend :=
  l.foldl (fun b p => match b with | some o => if p.tick < o.tick then some p else b | none => some p) none

/-- A list without the first entry equal to `x`. -/
def dropOne {α : Type} [DecidableEq α] (x : α) : List α → List α
  | [] => []
  | y :: l => if y = x then l else y :: dropOne x l

/-- WALUL_DELIVERY (R366): the trunk channel that BAT_WLRXk names fires on the delivery tick, with the enables then in force. -/
def State.deliverOp (m : State) : State :=
  match firstPend m.wl.pend with
  | some p =>
    let m : State := { m.due p.tick with wl := { m.wl with pend := dropOne p m.wl.pend } }
    if m.r .trk (.wlRxEn p.chan) = 1 then m.fireChan (m.r .trk (.wlRxCh p.chan)) p.tick p.hop (some p.chan) else m
  | none => m

def execWalulDelivery (m : State) : Out := done m.deliverOp

/-! Alignment (R361 to R364). -/

/-- A tick moved by a step of the pace count. -/
def moved (d : Int) (x : Nat) : Nat := (Int.ofNat x + d).toNat

/-- The ticks that a monitor holds. -/
def Monitor.shift (d : Int) (x : Monitor) : Monitor :=
  { x with since := moved d x.since, hist := x.hist.map fun h => (moved d h.1, h.2) }

/-- The ticks that a lane holds move with the pace count; apertures and samples follow the new count (R45, R46). -/
def LaneDyn.shift (d : Int) (n : Nat) (x : LaneDyn) : LaneDyn :=
  { x with since := moved d x.since, dacLast := if x.dacLast = 0 then 0 else moved d x.dacLast, dacNext := moved d x.dacNext,
           playLast := if x.playLast = 0 then 0 else moved d x.playLast, evalAt := x.evalAt.map (moved d),
           dwellEnd := moved d x.dwellEnd, qFrom := moved d x.qFrom, latA := 0, latD := moved d x.latD, adcLast := none,
           apStart := n, accV := {}, accI := {}, complSince := moved d x.complSince, openSince := x.openSince.map (moved d),
           rangeS := x.rangeS.map (moved d), wm0 := x.wm0.shift d,
           wm1 := x.wm1.shift d, chk := x.chk.map fun c => (c.1, moved d c.2),
           shortSince := x.shortSince.map (moved d), exitSince := x.exitSince.map (moved d), probeAt := moved d x.probeAt,
           interpAt := x.interpAt.map (moved d),
           drv := { x.drv with release := x.drv.release.map (moved d) },
           pm := x.pm.map fun q => { q with start := moved d q.start } }

/-- The ticks that a tile and its substitute hold. -/
def TileDyn.shift (d : Int) (x : TileDyn) : TileDyn :=
  { x with below110 := x.below110.map (moved d), autoSwapAt := x.autoSwapAt.map (moved d), autoRetryAt := moved d x.autoRetryAt,
           deliv := [], autoLast := moved d x.autoLast, drainEnd := moved d x.drainEnd, offAt := x.offAt.map (moved d),
           calWait := x.calWait.map fun (r, s, z) => (r, s, moved d z) }
def SubstDyn.shift (d : Int) (x : SubstDyn) : SubstDyn :=
  { x with leaveAt := moved d x.leaveAt, forceTo := x.forceTo.map (moved d), queue := x.queue.map (fun r => { r with since := moved d r.since }),
           xfer := x.xfer.map fun f => { f with h0 := moved d f.h0 } }

/-- The pace count steps from `x` to `n` (R362): what waits for a tick waits as long as before. -/
def State.paceStep (m : State) (x n : Nat) : State :=
  let d : Int := Int.ofNat n - Int.ofNat x
  if n = x then { m with pace := n }
  else
    { m with
      pace := n,
      lanes := m.lanes.map fun (k, l) =>
        let p := Page.lane (k / 10) (k % 10)
        (k, l.shift d (ceilMul (apTicks (m.l p .laneMeasAvg) (m.l p .laneMeasQty)) n)),
      tiles := m.tiles.map fun (k, q) => (k, q.shift d), substs := m.substs.map fun (k, q) => (k, q.shift d),
      flight := m.flight.map (fun f => { f with tick := moved d f.tick }),
      cqs := m.cqs.map fun (k, q) => (k, { q with latest := moved d q.latest, stallAt := moved d q.stallAt }),
      rqs := m.rqs.map fun (k, q) => (k, { q with first := moved d q.first }),
      fns := m.fns.map fun (k, q) => (k, { q with flr := q.flr.map (moved d) }),
      cur := { m.cur with acct := { m.cur.acct with win := n / 8000 * 8000 }, trigUntil := m.cur.trigUntil.map fun (k, z) => (k, moved d z) },
      wl := { m.wl with alignSteps := (x, x, n) :: m.wl.alignSteps } }

/-- The module is quiescent (R363). -/
def State.quiescent (m : State) : Bool :=
  (List.range 16).all (fun t => (m.r (.seq t) .seqState == 0 || decide (5 ≤ m.r (.seq t) .seqState)) &&
    (m.r (.acq t) .acqState == 0 || m.r (.acq t) .acqState == 6)) &&
  m.ctxs.all (fun c => match c.2.st with | .lockWait | .ready | .running | .armed | .parked => false | _ => true) &&
  m.lanes.all fun l => l.2.pulse.isNone

/-- The checks of R362 in table order, on module 0; it reaches no other where none of its own ports is UP. -/
def State.alignCheck (m : State) (x : AlignMeas) : Nat :=
  if m.index ≠ 0 then 1
  else if !x.allUp ∨ (1 < m.r .wl .wlN ∧ m.wlPort 0 ≠ 2 ∧ m.wlPort 1 ≠ 2) then 2
  else if !x.allRefin || m.r .pace .paceRefinOk == 0 then 3
  else if !x.othersQuiescent then 4
  else if x.delays.any fun d => decide (14336 < d) then 5
  else 0

/-- ALIGN ends with a result (R362). -/
def State.alignEnd (m : State) (code : Nat) : State :=
  (({ m with wl := { m.wl with alignAsked := false } } : State).ws .wl [(.wlAlignResult, code), (.wlAlignCmd, 0)]).flag .wl .wlAlignDone

/-- ALIGN is under way, and CMD reads so until it ends: the delays of this module's links are recorded, and the load tick is
awaited. -/
def State.alignGo (m : State) (x : AlignMeas) : State :=
  let m := m.ws .wl [(.wlPDelay 0, x.delays.getD 0 0), (.wlPDelay 1, x.delays.getD 1 0), (.wlAlignCmd, 1)]
  { m with wl := { m.wl with alignBusy := true, alignAsked := false, alignSteps := [], alignDelays := x.delays, alignResid := [],
                             alignAt := m.pace } }

/-- ALIGN with what the checks find: refused, or under way. -/
def State.alignTry (m : State) (x : AlignMeas) : State :=
  match m.alignCheck x with
  | 0 => m.alignGo x
  | c => m.alignEnd c

/-- WL_ALIGN.CMD = ALIGN of function `fn`; while the field reads nonzero the write is ignored (R452). -/
def State.alignOp (m : State) (fn : Nat) (x : AlignMeas) : State :=
  if !m.wlOn then m else if m.r .wl .wlAlignCmd ≠ 0 then m.ignore fn .wl 0x124 else m.alignTry x

/-- A write of ALIGN to WL_ALIGN.CMD as a register (R357, R362, R452): refused as NOT_MASTER at once on another module; on module 0
the request stands until what the checks need is known, which ALIGN_AUTO then brings (log entry 27). -/
def State.alignWrite (m : State) (fn c : Nat) : State :=
  if c = 0 ∨ !m.wlOn then m
  else if m.r .wl .wlAlignCmd ≠ 0 then m.ignore fn .wl 0x124
  else if c ≠ 1 then m
  else if m.index ≠ 0 then m.alignEnd 1
  else ({ m with wl := { m.wl with alignAsked := true } } : State).w .wl .wlAlignCmd 1

def execAlign (fn : Nat) (x : AlignMeas) (m : State) : Out := byHost (.align fn x) fn (m.hostAt fn .wl) m (m.alignOp fn x)

/-- ALIGN requested by module 0 itself: where a module with COUNT_MISMATCH has become reachable and every check would pass (R362); a
request that a host has written is taken first. -/
def State.alignAutoOp (m : State) (x : AlignMeas) : State :=
  if !m.wlOn then m
  else if m.wl.alignAsked then m.alignTry x
  else if !m.wl.alignBusy && m.index == 0 && m.r .wl .wlAuto == 1 && x.mismatch && m.alignCheck x == 0 then m.alignGo x else m

def execAlignAuto (x : AlignMeas) (m : State) : Out := done (m.alignAutoOp x)

/-- ALIGN_LOAD at load tick `x` of this module's own count, at least 100 µs after it was named: module 0 ends its ALIGN with the
largest residual; another module loads module 0's count and its trim, and verifies its own residual (R361, R362). A module that is not
quiescent does not step its count (R363). -/
def State.loadOp (m : State) (x count : Nat) (trim : Int) (q : LoadMeas) : State :=
  if !m.wlOn then m
  else if m.index = 0 then
    if m.wl.alignBusy ∧ m.wl.alignAt + 80000 ≤ x then
      let m := m.due x
      ({ m with wl := { m.wl with alignBusy := false, alignResid := [q.resid] } } : State).alignEnd (if 20 < q.resid then 6 else 0)
    else m
  else if m.wlReached ∧ q.named + 80000 ≤ x ∧ (count = max m.pace x ∨ m.quiescent) then
    let m : State := { m.due x with wl := { m.wl with alignOk := decide (q.resid ≤ 20), alignSteps := [], alignDelays := q.delays,
                                                      alignResid := [q.resid], slewAt := count } }
    let m := (m.paceStep (max m.pace x) count).ws .wl
      [(.wlPDelay 0, q.delay0), (.wlPDelay 1, q.delay1), (.wlPhase, enc 32 (max (-512) (min trim 512))), (.wlCountMismatch, 0),
       (.wlAligned, bit (decide (q.resid ≤ 20) && m.r .pace .paceRefinOk == 1))]
    m.flag .wl .wlAlignDone
  else m

def execAlignLoad (x count : Nat) (trim : Int) (meas : LoadMeas) (m : State) : Out := done (m.loadOp x count trim meas)

/-- The units of 1/1,024 tick by which WL_PHASE moves at a measurement (R364): with TRACK = 1 a free number, up to the error measured
and to 2 ps for each millisecond since it last moved (log entry 27). -/
def State.wlSlew (m : State) (errPs : Int) : Nat :=
  if m.r .wl .wlTrack = 0 then 0
  else Config.phaseStep m.freeCtr % (min (errPs.natAbs * 1024 / 1250) ((m.pace - m.wl.slewAt) * 2048 / 1000000000) + 1)

/-- PHASE_TRACKING (R361, R364, R373): the measured error in ps, and whether module 0 has REFIN. WL_PHASE moves towards zero error
within its range; an error of half a tick, 625 ps, or more, beyond the range of the trim, needs an ALIGN (R374). -/
def State.trackOp (m : State) (errPs : Int) (refin0 : Bool) : State :=
  if !m.wlOn ∨ m.index = 0 ∨ !m.wlReached then m
  else
    let far := decide (625 ≤ errPs.natAbs)
    let step := m.wlSlew errPs
    let old := sext 32 (m.r .wl .wlPhase)
    let new := if errPs > 0 then old - Int.ofNat step else old + Int.ofNat step
    let m := m.drawn.w .wl .wlPhase (enc 32 (max (-512) (min new 512)))
    let m : State := { m with wl := { m.wl with slewAt := if step = 0 then m.wl.slewAt else m.pace } }
    let m := if far then ({ m with wl := { m.wl with alignOk := false } } : State).w .wl .wlCountMismatch 1 else m
    m.w .wl .wlAligned (bit (m.wl.alignOk && m.r .wl .wlCountMismatch == 0 && m.r .pace .paceRefinOk == 1 && refin0 &&
      decide (errPs.natAbs ≤ 20)))

def execPhaseTracking (errPs : Int) (refin0 : Bool) (m : State) : Out := done (m.trackOp errPs refin0)

end Sys2Proof.Machine
end

