-- ==== Sys2Proof/Machine/Baton.lean ====
section
/-! DEFINITION. The baton (R287 to R305): what each stage in flight does on its tick, the firings by software, the route fields
and the TRIG lands. -/

namespace Sys2Proof.Machine

/-! Stages. -/

/-- The order of stages of one tick: producers, local deliveries, lands, then channels, which gather their sources. -/
def Stage.rank : Stage → Nat
  | .prod _ _ => 0 | .cons _ _ _ => 1 | .trigIn _ => 1 | .chan _ => 2 | _ => 3

/-- The stage in flight that comes first. -/
def firstFlight (l : List Flight) : Option Flight :=
  l.foldl (fun b f => match b with
    | some g => if f.tick < g.tick ∨ (f.tick = g.tick ∧ f.stage.rank < g.stage.rank) then some f else b
    | none => some f) none

/-- A stage goes into flight. -/
def State.launch (m : State) (f : Flight) : State := { m with flight := addFlight m.flight f }

/-- Consumer `c` of tile `t` is routed from producer position `pos` (R287). -/
def State.routed (m : State) (t c pos : Nat) : Bool :=
  if pos < 32 then (m.r (.bat t) (.batRouteLo c)).testBit pos else (m.r (.bat t) (.batRouteHi c)).testBit (pos - 32)

/-- The ticks from a producer to a consumer: 1 on one die, 2 across dies (R288, R289, R295). -/
def hopTicks (pos c : Nat) : Nat := if decide (pos < 20) == decide (c < 10) then 1 else 2

/-- A producer position fires (R287, R296, R299, R300). -/
def State.prodStage (m : State) (f : Flight) (t pos : Nat) : State :=
  if !m.tileOn t then m
  else
    let p := Page.bat t
    let m := if pos < 32 then m.flagBits p .batSeenLo (2 ^ pos) else m.flagBits p .batSeenHi (2 ^ (pos - 32))
    let m := if f.merged = 0 then m else m.incBy p .batCoalesced f.merged
    ((List.range 48).filter fun c => !(decide (32 ≤ c) && decide (c < 40)) && m.routed t c pos).foldl (fun m c =>
      m.launch { tick := f.tick + hopTicks pos c, stage := .cons t c pos, hop := f.hop, firers := f.firers }) m

/-- An event is delivered to consumer `c` of tile `t` on tick `e` with hop count `h`, from the lowest position `pos`, which the
acquisition units of `who` have fired (R225, R289, R300). -/
def State.deliver (m : State) (t c pos e h : Nat) (who : List Nat) : State :=
  if c < 10 then m.pulseGoIn t c e h
  else if c < 18 then m.goDelivered t (c - 10) h e
  else if c = 18 then m.seqGoOp t e h
  else if c = 19 then m.seqAbortIn t e h
  else if c < 24 then m.seqJreqOp t (c - 20)
  else if c = 24 then m.acqArmInOp t e
  else if c = 25 then m.acqFireInOp t e h (who.contains t)
  else if c = 26 then m.acqTrigInOp t e h
  else if c = 27 then m.acqAbortIn t e h
  else if c < 32 then
    ({ m with tscap := tabSet m.tscap (t * 4 + (c - 28)) (m.stamp e, h, pos) } : State).flag (.bat t) (.batTscap (c - 28))
  else m

/-- The deliveries to one trunk output port on tick `e` (R291, R303, R304): its channel fires, the events of a trunk input port
re-emitted. -/
def State.toutStage (m : State) (t c e : Nat) (evs : List (Nat × Nat)) (who : List Nat) : State :=
  let p := Page.bat t
  let j := c - 40
  let ch := m.r p (.batToutCh j)
  if m.r p (.batToutEn j) = 0 then m
  else
    let hs := evs.map fun (pos, h) => if 40 ≤ pos then h + 1 else h
    let m := if hs.any fun h => decide (15 ≤ h) then m.loopAt t c (some ch) else m
    match hs.filter fun h => decide (h < 15) with
    | [] => m
    | h :: l => m.fireChan ch e (l.foldl max h) none who

/-- The events that reach consumer `c` of tile `t` on tick `e` make one activation (R302); a tile that is off discards them
(R305). -/
def State.consStage (m : State) (t c e : Nat) : State :=
  let here (f : Flight) : Option (Nat × Nat) :=
    match f.stage with
    | .cons u d pos => if f.tick = e ∧ u = t ∧ d = c then some (pos, f.hop) else none
    | _ => none
  let evs := m.flight.filterMap here
  let who := (m.flight.filter fun f => (here f).isSome).flatMap (·.firers)
  let m : State := { m with flight := m.flight.filter fun f => (here f).isNone }
  if !m.tileOn t then m
  else
    let n := evs.length
    let m := if 2 ≤ n then (m.incBy (.bat t) .batCoalesced (n - 1)).w (.bat t) .batCoalLast c else m
    if 40 ≤ c then m.toutStage t c e evs who
    else m.activation t c e fun m => m.deliver t c (evs.foldl (fun a x => min a x.1) 47) e (evs.foldl (fun a x => max a x.2) 0) who

/-- A trunk channel fires (R291, R292, R295, R300, R302): input ports and TRIG lands one tick later, its load-strobe group three,
and the Walul channels that transmit it. -/
def State.chanStage (m : State) (f : Flight) (ch : Nat) : State :=
  let c := f.tick
  let m := m.flagBits .trk (.trkSeen (ch / 32)) (2 ^ (ch % 32))
  let m := if f.merged = 0 then m else ((List.range 17).filter fun k => m.ownsTrk k ch).foldl (fun m k =>
    m.incBy .trk (.trkCoalesced k) f.merged) m
  let m := (List.range 128).foldl (fun m k =>
    let t := k / 8
    let j := k % 8
    if m.tileOn t && m.r (.bat t) (.batTinEn j) == 1 && m.r (.bat t) (.batTinCh j) == ch then
      m.launch { tick := c + 1, stage := .prod t (40 + j), hop := f.hop, firers := f.firers } else m) m
  let m := (List.range 8).foldl (fun m n =>
    if m.r .trk (.trigOutEn n) = 1 ∧ m.r .trk (.trigOutCh n) = ch then m.launch { tick := c + 1, stage := .trigOut n, hop := 0 } else m) m
  let m := if 112 ≤ ch then m.launch { tick := c + 3, stage := .strobe (ch - 112), hop := f.hop } else m
  (List.range 16).foldl (fun m k =>
    if m.r .trk (.wlTxEn k) = 1 ∧ m.r .trk (.wlTxCh k) = ch then m.wlTransmit ch k c f.hop f.fromWl.isSome else m) m

/-- TRIG land `n` is driven low from tick `e` for WIDTH ticks, or WIDTH begins again (R292, R293). -/
def State.drive (m : State) (n e : Nat) : State :=
  let w := m.r .trk (.trigOutWidth n)
  { m with cur := { m.cur with trigUntil := tabSet m.cur.trigUntil n (e + if w = 0 then 256 else w) } }

/-- BATON_DELIVERY: the stage in flight that comes first takes place on its tick. -/
def State.batonOp (m : State) : State :=
  match firstFlight m.flight with
  | none => m
  | some f =>
    let m := m.due f.tick
    let out : State := { m with flight := dropOne f m.flight }
    match f.stage with
    | .prod t pos => out.prodStage f t pos
    | .cons t c _ => m.consStage t c f.tick
    | .chan ch => out.chanStage f ch
    | .strobe g => out.strobeOp g f.tick f.hop
    | .trigOut n => out.drive n f.tick
    | .trigIn n => if out.r .trk (.trigInEn n) = 1 then out.fireChan (out.r .trk (.trigInCh n)) f.tick 0 else out

def execBatonDelivery (m : State) : Out := done m.batonOp

/-! Firing by software (R299). -/

/-- BAT_FIRE of tile `t` with the value `v`. -/
def State.batFireOp (m : State) (t v : Nat) : State :=
  if 0x80 ≤ v ∧ v < 0x80 + 48 then m.fireProd t (v - 0x80) (m.pace + 1) 0 true else m

def execBatFire (fn t v : Nat) (m : State) : Out := byHost (.batFire fn t v) fn (m.hostAt fn (.bat t)) m (m.batFireOp t v)

/-- A trunk-page write of function `fn` at offset `off` is dropped (R297). -/
def State.trkRef (m : State) (fn off : Nat) : State := (m.w .trk (.trkRefOff fn) off).flag .trk (.trkRouteRef fn)

/-- BAT_TRK_FIRE with the value `v`: a site fires its own channels only. -/
def State.trkFireOp (m : State) (fn v : Nat) : State :=
  if v < 0x80 then m
  else if m.ownsTrk fn (v - 0x80) then m.fireChan (v - 0x80) (m.pace + 1) 0
  else m.trkRef fn 0x1C0

def execBatTrkFire (fn v : Nat) (m : State) : Out :=
  byHost (.batTrkFire fn v) fn (m.hostAt fn .trk && decide (v < 256)) m (m.trkFireOp fn v)

/-! Route fields (R296, R297). -/

/-- A site's write to a route register of the local page breaks R297. -/
def State.batForeign (m : State) (fn t off : Nat) (w : Word) : Bool :=
  if off < 0x280 then
    let c := (off - 0x100) / 8
    let hi := off % 8 == 4
    let old := if hi then m.r (.bat t) (.batRouteHi c) else m.r (.bat t) (.batRouteLo c)
    let new := (setBits w.toNat (if hi then 16 else 32)).filter fun b => !old.testBit b
    (c < 10 && !new.isEmpty && m.laneOwner t c != fn) ||
      (!hi && new.any fun b => decide (b < 20) && m.laneOwner t (b / 2) != fn)
  else wbits w 7 1 == 1 && !m.ownsTrk fn (wbits w 0 7)

/-- A write to a route register of the local baton page of tile `t`; those of the reserved consumers ignore it (R289). -/
def State.batRoute (m : State) (fn t off : Nat) (w : Word) : State :=
  let p := Page.bat t
  if 0x200 ≤ off ∧ off < 0x240 then m
  else if fn ≠ 0 ∧ m.batForeign fn t off w then (m.w p .batRefOff off).flag p .batRouteRef
  else m.classWrite fn p off w

/-- A write to a connection of the trunk page: TRIG fields are PF0's, and the fields of another site's Walul channel ignore a
site's write. -/
def State.trkRoute (m : State) (fn off : Nat) (w : Word) : State :=
  if fn = 0 then m.classWrite fn .trk off w
  else if off < 0x140 then m.trkRef fn off
  else if !m.ownsWl fn ((off - 0x140) / 4 % 16) then m
  else if wbits w 7 1 = 1 ∧ !m.ownsTrk fn (wbits w 0 7) then m.trkRef fn off
  else m.classWrite fn .trk off w

/-- The register at `off` of page `p` holds route fields (R287, R290 to R292). -/
def routeReg (p : Page) (off : Nat) : Bool :=
  match p with
  | .bat _ => decide (0x100 ≤ off) && decide (off < 0x2C0)
  | .trk => decide (0x100 ≤ off) && decide (off < 0x1C0)
  | .lane _ _ => off == 0x180
  | _ => false

/-- A write to a route register. -/
def State.routeOp (m : State) (fn : Nat) (p : Page) (off : Nat) (w : Word) : State :=
  match p with
  | .bat t => m.batRoute fn t off w
  | .trk => m.trkRoute fn off w
  | .lane t s => m.laneWrite fn t s off w
  | _ => m

/-- ROUTE_WRITE, where the access addresses a route register. -/
def execRouteWrite (a : Acc) (w : Word) (m : State) : Out :=
  match accTarget a with
  | .reg p off => byHost (.routeWrite a w) a.fn (m.hostAt a.fn p && routeReg p off) m (m.routeOp a.fn p off w)
  | _ => done m

/-! TRIG lands (R293). -/

/-- The module does not see land `n`: it drives it, or has released it less than 8 ticks before. -/
def State.trigBlind (m : State) (n : Nat) : Bool :=
  m.cur.trigUntil.any fun (k, z) => (k == n || k == 8 + n) && decide (m.pace < z + 8)

/-- A falling crossing on land `n` at sub-tick `sub` after the present tick; its synchroniser shows it 2 or 3 ticks later (log
entry 6). -/
def State.trigInOp (m : State) (n sub : Nat) : State :=
  if !m.dom 1 || 8 ≤ n || m.trigBlind n then m
  else
    let e := m.pace + 2 + Config.trigDelay m.freeCtr % 2
    let m : State := { m.drawn with cur := { m.cur with trigTs := tabSet m.cur.trigTs n (m.stamp m.pace (sub % 128)) } }
    m.launch { tick := e, stage := .trigIn n, hop := 0 }

def execTrigInput (n sub : Nat) (m : State) : Out := done (m.trigInOp n sub)

/-- TRIGOUT_END: the land is released when its WIDTH has run out. -/
def State.trigEndOp (m : State) (n : Nat) : State :=
  match m.cur.trigUntil.find? fun e => e.1 == n && decide (n < 8) with
  | some (_, z) =>
    let m := m.due z
    { m with cur := { m.cur with trigUntil := tabSet (tabDel m.cur.trigUntil n) (8 + n) z } }
  | none => m

def execTrigoutEnd (n : Nat) (m : State) : Out := done (m.trigEndOp n)

end Sys2Proof.Machine
end

