-- ==== Sys2Proof/Machine/Calibration.lean ====
section
/-! DEFINITION. Calibration and the Catalogue as commands (R306 to R331): requests and aborts, a lane's turn and its end, the
commit, interpolation, and automatic recalibration. -/

namespace Sys2Proof.Machine

/-! Requests (R318 to R320, R329, R425, R486, R487). -/

/-- CAT_REQ of PF0: status and run ID for the item's next snapshot. -/
def State.catReqOp (m : State) (fn : Nat) (p : CalParams) : State :=
  let id := m.cur.nextRun
  let (m, st) := m.calTry fn p none 0 false
  ({ m with cur := { m.cur with catReqSt := st, catReqId := if st = 0 then id else 0 } } : State).answer fn st id

def execCatReq (fn : Nat) (p : CalParams) (m : State) : Out := byHost (.catReq fn p) fn (m.hostAt fn .cur) m (m.catReqOp fn p)

/-- A status of R320 in the codes of R426. -/
def calCode : Nat → Nat
  | 0 => 0 | 1 => 3 | 2 => 8 | 3 => 9 | 4 => 10 | _ => 2

/-- The TAG is that of an outstanding CAL_REQ or DMA command of the function (R423). -/
def State.tagBusy (m : State) (fn tag : Nat) : Bool :=
  (m.cals.any fun c => !c.ended && c.fn == fn && c.cmd.any fun k => k.2.1 == tag) ||
    m.dmas.any fun d => d.fn == fn && d.tag == tag

/-- CAL_REQ as taken from command queue `q` (R319, R320, R423, R426): an accepted one completes at its outcome, a refused one at
once. -/
def State.calReqOp (m : State) (fn q tag rq : Nat) (silent : Bool) (p : CalParams) : State :=
  let seq := m.r (.q fn) (.cqTaken q)
  let id := m.cur.nextRun
  let (m, st) := if m.tagBusy fn tag then (m, 9) else
    let r := m.calTry fn p (some (q, tag, rq)) seq silent
    (r.1, calCode r.2)
  let m := if st = 0 then m else m.complete fn q rq (completionPacket 0x10 q tag st 0 seq m.pace [])
  m.answer fn st id

/-- A command is taken from queue `q` (R413). -/
def State.taken (m : State) (fn q : Nat) : State := m.inc (.q fn) (.cqTaken q)

def execCalReq (fn q tag rq : Nat) (p : CalParams) (m : State) : Out :=
  onlyIf (m.cmdOk fn) m ((m.taken fn q).calReqOp fn q tag rq false p)

/-- CAT_CMD.INVALIDATE (R318). -/
def State.invalidateOp (m : State) (fn scope set t s : Nat) : State :=
  let (m, st) := m.invalidateTry scope set t s
  ({ m with cur := { m.cur with catCmdSt := st } } : State).answer fn st

def execInvalidate (fn scope set t s : Nat) (m : State) : Out :=
  byHost (.invalidate fn scope set t s) fn (m.hostAt fn .cur) m (m.invalidateOp fn scope set t s)

/-- CAT_CMD.ABORT of a run (R329): the commit is accepted, and the item's status is 2 ABORTED where it has ended the run (R487;
log entry 35). -/
def State.catAbortOp (m : State) (fn run : Nat) : State :=
  let (m, st) := m.abortCalTry (m.cals.find? fun c => c.id == run)
  ({ m with cur := { m.cur with catCmdSt := if st = 0 then 2 else st } } : State).answer fn st

def execCatAbort (fn run : Nat) (m : State) : Out := byHost (.catAbort fn run) fn (m.hostAt fn .cur) m (m.catAbortOp fn run)

/-- CAL_ABORT: the function's latest run with that TAG (R425), with a status of R426. -/
def State.calAbortOp (m : State) (fn tag : Nat) : State × Nat :=
  let (m, st) := m.abortCalTry (m.cals.reverse.find? fun c => c.fn == fn && c.cmd.any fun k => k.2.1 == tag)
  (m, match st with | 0 => 0 | 15 => 11 | _ => 6)

def execCalAbort (fn tag : Nat) (m : State) : Out :=
  onlyIf (m.cmdOk fn) m ((m.calAbortOp fn tag).1.answer fn (m.calAbortOp fn tag).2)

/-! A lane's turn (R321 to R324). -/

/-- CAL_LANE_TURN: while no lane of the tile is under calibration. -/
def State.calTurnOp (m : State) (t : Nat) : State :=
  if (m.tile t).turn.isNone then m.calScan t [] (m.calWants t) else m

def execCalLaneTurn (t : Nat) (m : State) : Out := onlyIf (decide (t < 16)) m (m.calTurnOp t)

/-- The wait of lane `s` whose limit ends first: run and tick (R319, R322); WAIT_MS 0 is without limit. -/
def State.pendingOut (m : State) (t s : Nat) : Option (Nat × Nat) :=
  let ends := ((m.tile t).calWait.filter fun w => w.2.1 == s).filterMap fun w =>
    (m.cals.find? fun c => c.id == w.1 && c.p.waitMs != 0).map fun c => (c.id, w.2.2 + c.p.waitMs * 800000)
  ends.foldl (fun b e => match b with
    | some o => if e.2 < o.2 then some e else b
    | none => some e) none

/-- PENDING_TIMEOUT. -/
def State.pendingTimeoutOp (m : State) (t s : Nat) : State :=
  match m.pendingOut t s with
  | some (run, e) => ((m.due e).calOutcome run t s 7).calUnwait run t s
  | none => m

def execPendingTimeout (t s : Nat) (m : State) : Out := done (m.pendingTimeoutOp t s)

/-! The judgement of a lane's two passes (R308, R309, R326, R327). -/

/-- Two lists of values differ nowhere by more than `lim` / `unit`. -/
def near (a b : List Int) (unit lim : Nat) : Bool :=
  (zipPad (fun x y => x - y) a b).all fun x => decide (x.natAbs * unit ≤ lim)

/-- The kinds of a lane that a measurement judges and keeps: LIN, GAIN, EDGE and, per monitor, MON. -/
structure CalDone where
  lin  : Bool
  gain : Bool
  edge : Bool
  mon0 : Bool
  mon1 : Bool
deriving DecidableEq, Repr

/-- The passes agree (R326). The peaks of two choices that differ stand within 1 ppm of FS: of an upper element of the DAC, FS /
32, within 32 ppm of it, and of a capacitor, FS / 16, within 16 ppm, times the 31 of them. -/
def CalDone.agree (k : CalDone) (a b : PassData) : Bool :=
  (!k.lin || (near a.adcPts b.adcPts 1000000 (2 * 131072 * 16) && near a.dacPts b.dacPts 1000000 (2 * 524288 * 16) &&
    (a.adcSel == b.adcSel || decide ((a.adcPeak - b.adcPeak).natAbs ≤ 16 * 31)) &&
    (a.dacSel == b.dacSel || decide ((a.dacPeak - b.dacPeak).natAbs ≤ 32)))) &&
  (!k.gain || (near a.gains b.gains 1 500 && near a.offs b.offs 1 2)) &&
  (!k.mon0 || near (a.mons.take 1) (b.mons.take 1) 1 1) && (!k.mon1 || near (a.mons.drop 1) (b.mons.drop 1) 1 1) &&
  (!k.edge || near a.edges b.edges 78125 80000)

/-- The full scales of I100N to I64M in pA (R41). -/
def decadeFs : List Nat := [100000, 1000000, 10000000, 100000000, 1000000000, 10000000000, 64000000000]

/-- The quality figures lie inside their limits (R327): an offset on a current range within 0.01 % of its FS. -/
def CalDone.quality (k : CalDone) (q : Quality) : Bool :=
  (!k.lin || decide (q.inlAdc ≤ 800 ∧ q.inlDac ≤ 800)) &&
  (!k.gain || (decide (q.gainRes ≤ 1000 ∧ q.offsUv.natAbs ≤ 20) &&
    (q.offsPa.zip decadeFs).all fun (x, fs) => decide (x.natAbs * 10000 ≤ fs))) &&
  (!k.edge || decide (q.edgeRes ≤ 150)) && (!k.mon0 || decide (q.mon0 ≤ 1)) && (!k.mon1 || decide (q.mon1 ≤ 1))

/-- The value that a pair of passes gives (R326): the mean. -/
def passMean (x y : Int) : Int := roundNear (x + y) 2

/-- An entry's data with the kinds that were run replaced by the mean of the passes, the element choice that of the first
(R326); the rest stays as the entry held it (log entry 28). -/
def CalDone.merge (k : CalDone) (old a b : PassData) : PassData :=
  let n := zipData a b passMean a
  let mon (i : Nat) (on : Bool) : Int := if on then n.mons.getD i 0 else old.mons.getD i 0
  let o := if k.lin then { old with adcPts := n.adcPts, dacPts := n.dacPts, adcSel := n.adcSel, dacSel := n.dacSel,
                                    adcPeak := n.adcPeak, dacPeak := n.dacPeak, adcTrims := n.adcTrims, dacTrims := n.dacTrims,
                                    hold := n.hold } else old
  let o := if k.gain then { o with gains := n.gains, offs := n.offs } else o
  let o := if k.edge then { o with edges := n.edges } else o
  { o with mons := [mon 0 k.mon0, mon 1 k.mon1] }

/-- The same for the quality figures. -/
def CalDone.mergeQ (k : CalDone) (old n : Quality) : Quality :=
  let o := if k.lin then { old with inlAdc := n.inlAdc, inlDac := n.inlDac, sparesDac := n.sparesDac, sparesAdc := n.sparesAdc } else old
  let o := if k.gain then { o with gainRes := n.gainRes, offsUv := n.offsUv, offsPa := n.offsPa } else o
  let o := if k.edge then { o with edgeRes := n.edgeRes } else o
  let o := if k.mon0 then { o with mon0 := n.mon0 } else o
  if k.mon1 then { o with mon1 := n.mon1 } else o

/-- A measured REFV lies within ±0.5 % of the value latched (R309). -/
def refvNear (meas lat : Nat) : Bool := decide ((Int.ofNat meas - Int.ofNat lat).natAbs * 1000 ≤ 5 * lat)

/-- MON is not run on monitor `n` (R324): CLAMP or PEND set on a lane held CONNECTED. -/
def State.monBarred (m : State) (t : Nat) (c : CalTurn) (n : Nat) : Bool :=
  c.path == .hold && m.sw t c.slot == .connected &&
    (m.l (.lane t c.slot) (.laneWmClamp n) == 1 || m.l (.lane t c.slot) (.laneWmPend n) == 1)

/-- What a lane's measurements come to (R306 to R311): the kinds that are judged, the values of the two passes, the upper
elements of the force DAC that are marked failed, in either pass or before, and how many good ones these marks leave. -/
structure CalResult where
  k : CalDone
  refOk : Bool
  a : PassData
  b : PassData
  marks : List Nat
  good : Nat
deriving DecidableEq, Repr

/-- The measurements of lane (t, c.slot), against the REFV, the resistors and the marks that stand. -/
def State.calResult (m : State) (t : Nat) (c : CalTurn) (run : CalRun) (x : CalMeas) : CalResult :=
  let refOk := refvNear x.refvUv run.refv && !run.noRefv.contains t
  let mon := calKind run.p 2
  let lin := calKind run.p 0
  let old := tabGet [] m.catalogue.marks (t * 10 + c.slot)
  let bad (w : List Int) : List Nat := (List.range w.length).filter fun i => badWeight (w.getD i 0)
  let marks := (List.range 68).filter fun i => old.contains i || (bad x.pass1.weights).contains i || (bad x.pass2.weights).contains i
  { k := { lin := lin, gain := calKind run.p 1 && refOk, edge := calKind run.p 3,
           mon0 := mon && !m.monBarred t c 0, mon1 := mon && !m.monBarred t c 1 },
    refOk := refOk, a := passData x.pass1 lin run.refv m.nv.resist marks, b := passData x.pass2 lin run.refv m.nv.resist marks,
    marks := marks, good := (goodElems x.pass1.weights marks).length }

/-- The quality figures with the SPARES counted (R327): the good elements beyond the 63 used, and the 4 capacitors beyond 31,
none of which is ever marked failed. -/
def CalResult.q (r : CalResult) (x : CalMeas) : Quality := { x.quality with sparesDac := r.good - 63, sparesAdc := 4 }

/-- What the judgement finds: the outcome of R328, and the kinds whose values are kept. -/
def State.calJudge (m : State) (t : Nat) (c : CalTurn) (run : CalRun) (x : CalMeas) : Nat × CalDone :=
  let r := m.calResult t c run x
  let code :=
    if r.k.lin && decide (r.good < 63) then 4
    else if !r.k.agree r.a r.b then 1
    else if 10 < ((m.tile t).temp - c.temp).natAbs then 2
    else if !r.k.quality x.quality then 3
    else if calKind run.p 1 && !r.refOk then 5 else 0
  (code, r.k)

/-- The values of a lane with outcome COMMITTED or NO_REFV wait for the run's commit (R328, R329). -/
def State.calKeep (m : State) (t : Nat) (c : CalTurn) (run : CalRun) (code : Nat) (k : CalDone) (x : CalMeas) : State :=
  if (code = 0 ∨ code = 5) ∧ (k.lin ∨ k.gain ∨ k.edge ∨ k.mon0 ∨ k.mon1) then
    let old := m.setEntry t c.slot c.set
    let r := m.calResult t c run x
    let kept : KeptCal := { set := c.set, data := k.merge old.data r.a r.b, q := k.mergeQ old.q (r.q x), tSet := roundNear c.tSum c.tN,
                            marks := if k.lin then r.marks else tabGet [] m.catalogue.marks (t * 10 + c.slot) }
    m.modCal c.run fun r => { r with kept := tabSet r.kept (t * 10 + c.slot) kept }
  else m

/-- The check of REFV has failed in tile `t` for run `id` (R309): every lane of the tile that the run names takes NO_REFV, also
one whose other kinds wait for the commit, and the gains and offsets stay as they were. -/
def State.refvFails (m : State) (t id : Nat) : State :=
  let m := m.modCal id fun r =>
    { r with noRefv := r.noRefv.filter (· != t) ++ [t],
             outcomes := r.outcomes.map fun (k, c) => (k, if k / 10 = t ∧ c = 0 then 5 else c),
             kept := r.kept.map fun (k, v) =>
               let old := m.setEntry t (k % 10) v.set
               (k, if k / 10 = t then { v with data := { v.data with gains := old.data.gains, offs := old.data.offs },
                                               q := { v.q with gainRes := old.q.gainRes, offsUv := old.q.offsUv, offsPa := old.q.offsPa } }
                   else v) }
  { m with nv := { m.nv with calLog := m.nv.calLog.map fun (r, k, c, f) => (r, k, if r = id ∧ k / 10 = t ∧ c = 0 then 5 else c, f) } }

/-- What the outcome means for the substitute and for a rested front-end (R336, R344): slot 9 that passes admits handovers again,
one that fails blocks them, and a front-end that fails is not handed back. -/
def State.calVerdict (m : State) (t : Nat) (c : CalTurn) (code : Nat) : State :=
  let bad := decide (1 ≤ code ∧ code ≤ 4)
  if !bad && code != 0 then m
  else if c.slot = 9 then m.modSubst t fun q => { q with blocked := bad }
  else
    let m := m.modSubst t fun q => q.mark c.slot bad
    if bad && m.serves t c.slot then m.modSubst t fun q => { q with calBack := false } else m

/-- CAL_LANE_END: outcome, values, the end of the hold or the hand-back, and a disconnect that waited (R57, R324, R326). -/
def State.calEndOp (m : State) (t : Nat) (x : CalMeas) : State :=
  match (m.tile t).turn with
  | none => m
  | some c =>
    match m.cals.find? fun r => r.id == c.run with
    | none => m
    | some run =>
      let ready := match c.path with
        | .handed => m.serves t c.slot
        | .hold => (m.lane t c.slot).hold
        | .inPlace => true
      if !ready then m
      else
        let (code, k) := m.calJudge t c run x
        let skip := calKind run.p 2 && (m.monBarred t c 0 || m.monBarred t c 1)
        let m := if skip then m.modCal run.id fun r => { r with monSkip := r.monSkip ++ [t * 10 + c.slot] } else m
        let m := if calKind run.p 1 && !refvNear x.refvUv run.refv then m.refvFails t run.id else m
        let m := (m.calKeep t c run code k x).calOutcome run.id t c.slot code
        let m := if code = 1 then m.flag (.lane t c.slot) .laneCalDisagree else m
        let m := (m.calLeave t).calVerdict t c code
        let m := if code = 4 then m.autoRetire t c.slot else m
        m.actPend t c.slot (m.pace + 1)

def execCalLaneEnd (t : Nat) (x : CalMeas) (m : State) : Out := done (m.calEndOp t x)

/-! The commit (R312, R329). -/

/-- CAT_COMMIT: one generation for the whole run. -/
def State.catCommitOp (m : State) (run : Nat) : State :=
  match m.cals.find? fun c => c.id == run with
  | some c =>
    if c.ended || !c.complete then m
    else
      let g := (m.catalogue.gen + 1) % 2 ^ 64
      let cat := c.kept.foldl (fun (cat : Bank) (k, v) =>
        { cat with entries := tabSet cat.entries (setKey (k / 10) (k % 10) v.set)
                     { valid := true, tSet := v.tSet, gen := g, data := v.data, q := v.q },
                   marks := if v.marks = [] then cat.marks else tabSet cat.marks k v.marks }) m.catalogue
      (m.commitCat cat).calRunDone c false
  | none => m

def execCatCommit (run : Nat) (m : State) : Out := done (m.catCommitOp run)

/-! Interpolation (R317). -/

def execInterpolation (t s : Nat) (m : State) : Out := onlyIf (m.tileOn t && decide (s < 10)) m (m.interpOp t s)

/-! Automatic recalibration (R330, R331). -/

/-- The mean of TILE_TEMP over 10 ms lies further than TDELTA from the temperature of the last recalibration (R330). -/
def State.autoDrift (m : State) (t : Nat) : Bool :=
  let (num, n) := meanOf (m.tile t).temps 1000
  decide (m.r .cat .catAutoTdelta * n < (num - (m.tile t).autoTemp * n).natAbs)

/-- AUTO_RECAL: a retry at its time, a drift at once, else the hour since the last. -/
def State.autoRecalOp (m : State) (t : Nat) : State :=
  let d := m.tile t
  if !m.tileOn t || d.autoRun then m
  else if d.autoRetryAt ≠ 0 then (m.due d.autoRetryAt).setTile t { d with autoRun := true, autoRetryAt := 0 }
  else if m.r .cat .catAutoEn ≠ 1 then m
  else if m.autoDrift t then m.autoBegin t (m.r .cat .catRefv)
  else (m.due (d.autoLast + 2880000000000)).autoBegin t (m.r .cat .catRefv)

def execAutoRecal (t : Nat) (m : State) : Out := done (m.autoRecalOp t)

/-- The REF of every run that waits for it in tile `t` is done (R321, R331). -/
def State.refDoneOp (m : State) (t : Nat) : State :=
  { m with cals := m.cals.map fun c => if !c.ended && c.wantsRef t then { c with refDone := c.refDone ++ [t] } else c }

/-- The greatest difference of two lists of values. -/
def apart (a b : List Int) : Int := peakOf (zipPad (fun x y => x - y) a b)

/-- AUTO_RECAL_END: REFV is checked against the value latched, the passes of the reference (0.01 ppm) and of the delay line
(hits of each of 160 positions out of 1,048,576 edges) are compared, within 2 ppm and 8 ps (log entry 46), and the swap is set
for the first multiple of 16,000, or a retry for 100 ms later, at most three times. -/
def State.autoEndOp (m : State) (t refvUv : Nat) (ref1 ref2 : Int) (line1 line2 : List Nat) : State :=
  let d := m.tile t
  let a := lineErrs 1048576 line1
  let b := lineErrs 1048576 line2
  if !d.autoRun || d.autoSwapAt.isSome then m
  else
    let refOk := refvNear refvUv d.autoRefv
    let m := m.w .cat .catRefvMissing (bit !refOk)
    if apart a b ≤ 800 ∧ (!refOk ∨ (ref1 - ref2).natAbs ≤ 200) then
      m.setTile t { d with autoSwapAt := some (nextMul 16000 m.pace), autoRef := if refOk then some (passMean ref1 ref2) else none,
                           autoRefRes := (ref1 - ref2).natAbs, autoLine := zipPad passMean a b, autoLineRes := apart a b }
    else
      let m := (m.flag (.tile t) .tileAutoDisagree).flag (.tile t) .tileCalDisagree
      if d.autoRetry < 3 then
        (m.setTile t { d with autoRun := false, autoRetry := d.autoRetry + 1, autoRetryAt := m.pace + 80000000 }).tileReady t
      else ((m.setTile t { d with autoRun := false, autoRetry := 0 }).refDoneOp t).tileReady t

def execAutoRecalEnd (t refvUv : Nat) (ref1 ref2 : Int) (lines : List Nat × List Nat) (m : State) : Out :=
  done (m.autoEndOp t refvUv ref1 ref2 lines.1 lines.2)

/-- The set of the tile part that a swap is committed to: as SET = AUTO of R319 takes one, and where all are taken the one
nearest in temperature (log entry 46). -/
def State.partSet (m : State) (t : Nat) : Nat :=
  let at_ (k : Nat) : TilePart := tabGet {} m.catalogue.parts (partKey t k)
  let off (k : Nat) : Nat := ((at_ k).tSet - (m.tile t).temp).natAbs
  let near := (List.range 8).find? fun k => (at_ k).valid && decide (off k ≤ 15)
  let free := (List.range 8).find? fun k => !(at_ k).valid
  (near <|> free).getD ((List.range 8).foldl (fun b k => if off k < off b then k else b) 0)

/-- AUTO_SWAP: the copies swap roles on the paced tick, and the swap is committed to the tile part (R331). -/
def State.autoSwapOp (m : State) (t : Nat) : State :=
  let d := m.tile t
  match d.autoSwapAt with
  | none => m
  | some e =>
    let refNew := d.autoRef.isSome
    let m := (m.due e).setTile t
      { d with autoSwapAt := none, autoRun := false, autoRetry := 0, autoLast := e, autoTemp := d.temp, autoRef := none,
               lineA := !d.lineA, refA := if refNew then !d.refA else d.refA,
               lineCal := if d.lineA then (d.lineCal.1, d.autoLine) else (d.autoLine, d.lineCal.2),
               refCal := match d.autoRef with
                 | some r => if d.refA then (d.refCal.1, r) else (r, d.refCal.2)
                 | none => d.refCal }
    let m := m.w (.tile t) .tileAutoT (enc 16 d.temp)
    let key := partKey t (m.partSet t)
    let old := tabGet ({} : TilePart) m.catalogue.parts key
    let new : TilePart :=
      { valid := true, tSet := d.temp, gen := (m.catalogue.gen + 1) % 2 ^ 64, ref := d.autoRef.getD old.ref, line := d.autoLine,
        refRes := if refNew then d.autoRefRes else old.refRes, lineRes := d.autoLineRes }
    ((m.commitCat { m.catalogue with parts := tabSet m.catalogue.parts key new }).refDoneOp t).tileReady t

def execAutoSwap (t : Nat) (m : State) : Out := done (m.autoSwapOp t)

end Sys2Proof.Machine
end

