-- ==== Sys2Proof/Machine/Engine.lean ====
section
/-! DEFINITION. The engine's descriptors (R134 to R153), one meaning per OP, and the reading of aperture results. A reserved
OP, a DATA descriptor without its LIST and a malformed descriptor end the run with BAD_DESC (R136) whichever decode meets
them. -/

namespace Sys2Proof.Machine

/-- The context is RUNNING on an engine that may decode: no descriptor is being queued and no end is under way. -/
def Ctx.decodes (c : Ctx) : Bool :=
  c.st == .running && c.engine.isSome && c.badDesc.isNone && c.final.isNone && !c.limitStop

/-- A bad descriptor (R136): the run ends at a DAC sample once the steps queued before it have played. -/
def State.badDescriptor (m : State) (id : Nat) : State :=
  m.modCtx id fun c => { c with badDesc := some m.pace, gen := none }

/-- The SUMMARY packet carries the bad descriptor's index, or where the list's end is reached the last one's (R136; log entry
42). -/
def State.badIndex (m : State) (id i : Nat) : State := m.modCtx id fun c => { c with desc := i }

/-- The steps queued before have played and ended their dwell (R143). -/
def State.quiet (m : State) (id : Nat) : Bool :=
  let d := m.lane (m.ctx id).tile (m.ctx id).slot
  d.dacQ.isEmpty && d.step.isNone

/-- Descriptor decode for OP `op` at a cost of at most `most` operations: `act` has the descriptor's words, and answers none while
the descriptor waits; a descriptor of another OP is another step's; a bad one ends the run; a wait that has queued its steps is
armed before a descriptor that `closes` the grid. -/
def State.decode (m : State) (id op most : Nat) (closes : List Word → Bool) (act : State → List Word → Option State) : State :=
  let c := m.ctx id
  if !c.decodes || c.gen.isSome then m
  else
    let bad := if c.waitI.isSome then m.arm id else m.badDescriptor id
    if c.desc ≥ c.par.llen then (if c.waitI.isSome then bad else bad.badIndex id (c.par.llen - 1))
    else match c.descAt c.desc with
      | none => m
      | some ws =>
        if !descOk ws c.par.llen c.par.abortOn then bad
        else if wbits (dw ws 0) 0 4 ≠ op then m
        else if closes ws && c.waitI.isSome then m.arm id
        else (act (m.engOp c.tile c.engine most) ws).getD m

/-- The next descriptor. -/
def State.nextDesc (m : State) (id : Nat) : State := m.modCtx id fun c => { c with desc := c.desc + 1 }

/-- NOP (R135). -/
def State.nopOp (m : State) (id : Nat) : State := m.decode id 0 24 (fun _ => false) fun m _ => some (m.nextDesc id)

def execNop (id : Nat) (m : State) : Out := done (m.nopOp id)

/-- Both words of LANE_VCLAMP in one arbitration (R44, R462). -/
def State.ownVclamp (m : State) (t s : Nat) (w : Word) : State × Option Why :=
  if m.follower t s then (m.refuse t s .gangMember, some .gangMember)
  else if sext 16 (wbits w 0 16) < sext 16 (wbits w 16 16) + 100 then (m.refuse t s .outOfWindow, some .outOfWindow)
  else (m.hwLive (.lane t s) [(.laneVclampHi, wbits w 0 16), (.laneVclampLo, wbits w 16 16)], none)

/-- The register word of LANE_FORCE that CONFIG writes (R146). -/
def configForce (ws : List Word) : Word :=
  let w1 := dw ws 1
  BitVec.ofNat 32 (wbits (dw ws 2) 0 20 + 2 ^ 20 * wbits w1 0 3 + 2 ^ 24 * wbits w1 4 2 + 2 ^ 26 * wbits w1 8 3)

/-- The registers that CONFIG writes (R147), in their order. -/
def configRegs (ws : List Word) : List (Nat × Word) :=
  let w1 := dw ws 1
  (if w1.getLsbD 26 then [(0x120, BitVec.ofNat 32 (wbits w1 12 2))] else []) ++
    (if w1.getLsbD 27 then [(0x11C, BitVec.ofNat 32 (wbits w1 14 1))] else []) ++
    (if w1.getLsbD 24 then [(0x104, dw ws 3), (0x108, dw ws 4)] else []) ++
    (if w1.getLsbD 25 then [(0x10C, dw ws 5)] else []) ++ [(0x100, configForce ws)]

/-- Writes of context `id` as the lock's owner in order, each at a cost of at most 10 operations (R115); the first refusal ends
them and the run (R147). -/
def State.ownChain (m : State) (id : Nat) : List (Nat × Word) → State
  | [] => (m.modCtx id fun c => { c with connWait := false }).nextDesc id
  | (off, w) :: l =>
    let c := m.ctx id
    let m := m.engOp c.tile c.engine 10
    let r := if off = 0x10C then m.ownVclamp c.tile c.slot w else m.laneTry c.fn c.tile c.slot off w true
    match r.2 with
    | some y => r.1.abortRun id 6 y.code (r.1.pace + 1)
    | none => r.1.ownChain id l

/-- The estimate that the lane of context `id`, with its gang, has held for a step descriptor goes with the end of its last step: from
then on its present settings count, and each write is judged against them (R85, R86, R147). -/
def State.dropHold (m : State) (id : Nat) : State :=
  let c := m.ctx id
  ((m.unit c.tile c.slot).foldl (fun m k => if m.sw c.tile k = .connected then m.modLane c.tile k fun d => { d with estHold := none }
    else m) m).overSettle

/-- The writes of CONFIG once the lane is connected as asked (R147). -/
def State.configWrites (m : State) (id : Nat) (ws : List Word) : State := (m.dropHold id).ownChain id (configRegs ws)

/-- CONFIG (R146, R147): after the dwell of the last step, the connect, then the writes; a refusal ends the run REFUSED. The
decode is counted once, before the connect (R115). With CONN = 1 a lane that is neither DISCONNECTED nor CONNECTED is written at
once: the spec connects the former alone (DESIGN CHOICE, log entry 42). -/
def State.configOp (m : State) (id : Nat) : State :=
  m.decode id 1 (if (m.ctx id).connWait then 0 else 24) (fun _ => true) fun m ws =>
    if !m.quiet id then none
    else
      let c := m.ctx id
      let m := (m.due (m.lane c.tile c.slot).dwellEnd).closeGrid id
      let conn := wbits (dw ws 1) 16 2
      let sw := m.sw c.tile c.slot
      if conn = 2 ∧ sw ≠ .connected then some (m.abortRun id 6 3 (m.pace + 1))
      else if conn = 1 ∧ sw = .disconnected ∧ !c.connWait then
        match m.connectTry c.fn c.tile c.slot true with
        | (m, some y) => some (m.abortRun id 6 y.code (m.pace + 1))
        | (m, none) => some (m.modCtx id fun c => { c with connWait := true })
      else if c.connWait ∧ sw ≠ .connected then none
      else some (m.configWrites id ws)

def execConfig (id : Nat) (m : State) : Out := done (m.configOp id)

/-- The step descriptor names the booster range IB on a variant that has no booster port (R6). -/
def State.namesIb (m : State) (g : Gen) : Bool :=
  !m.hasBoost && ((g.rngWord.testBit 27 && bits g.rngWord 24 3 == 7) ||
    (g.entries.take g.cfg.count).any fun w => w.getLsbD 27 && wbits w 24 3 == 7)

/-- The step descriptor `g` starts to be queued (R137 to R143, R147): naming an absent booster range it is refused (R6), in DDS
its period must be whole DAC samples (R142), the governor judges its largest estimate, and a GO start arms at the first step. -/
def State.startGen (m : State) (id : Nat) (g : Gen) (len : Nat) : State :=
  let c := m.ctx id
  let t := c.tile
  let s := c.slot
  let d := m.lane t s
  let div := m.l (.lane t s) .laneDacDiv
  if m.namesIb g then m.abortRun id 6 Why.unitAbsent.code (m.pace + 1)
  else if d.dds ∧ !g.cfg.strobe ∧ g.cfg.stepTicks % div ≠ 0 then m.abortRun id 6 3 (m.pace + 1)
  else
    let cfg := if d.dds ∧ !g.cfg.strobe then { g.cfg with reps := g.cfg.reps * (g.cfg.stepTicks / div), stepTicks := div } else g.cfg
    let cfg := { cfg with lim := if c.limits.isEmpty then none else some (c.limits.length - 1), fires := c.fireEvs, sn := c.sn + 1 }
    match m.admitTry (m.withDescEst t s g) c.fn t s with
    | (m, some y) => m.abortRun id 6 y.code (m.pace + 1)
    | (m, none) =>
      let wait := if c.goStart < 8 then some { go := c.goStart } else c.waitI
      let m := m.setCtx id { c with gen := some { g with cfg := cfg }, genLen := len, fireEvs := [], goStart := 15, waitI := wait, sn := c.sn + 1 }
      let m := m.fillQueue id
      if (m.ctx id).waitI.isSome ∧ (m.ctx id).gen.isSome then m.arm id else m

/-- A step descriptor of `kind` (R138): its decode, or the queueing of further entries while QAHEAD leaves room (R116). -/
def State.stepOp (m : State) (id kind : Nat) (build : Ctx → List Word → Option (Gen × Nat × Option Nat)) : State :=
  let c := m.ctx id
  match c.gen with
  | some g =>
    if c.decodes && g.kind == kind then
      let m := m.fillQueue id
      if (m.ctx id).waitI.isSome ∧ (m.ctx id).gen.isSome then m.arm id else m
    else m
  | none =>
    m.decode id kind 24 (fun _ => false) fun m ws =>
      (build (m.ctx id) ws).bind fun (g, len, bad) =>
        let c := m.ctx id
        let q := (m.lane c.tile c.slot).dacQ
        if bad.isSome then some (if c.waitI.isSome then m.arm id else (m.badDescriptor id).badIndex id (bad.getD 0))
        else if c.waitI.isSome && (decide (c.goStart < 8) || q.any fun q => q.cfg.strobe != g.cfg.strobe) then some (m.arm id)
        else if c.gridOpen ∧ c.gridStrobe ≠ g.cfg.strobe then
          if m.quiet id then some (((m.due (m.lane c.tile c.slot).dwellEnd).closeGrid id).startGen id g len) else none
        else some (m.startGen id g len)

/-- LIN (R138, R139). -/
def State.linOp (m : State) (id : Nat) : State :=
  m.stepOp id 2 fun c ws =>
    let cfg := stepCfg ws c.desc (wbits (dw ws 3) 0 20)
    some ({ kind := 2, cfg := cfg, start := (linLevels ws).1, inc := sext 21 (wbits (dw ws 2) 0 21),
            rngWord := if (dw ws 1).getLsbD 27 then wbits (dw ws 1) 24 4 * 2 ^ 24 else 0 }, 1, none)

def execLin (id : Nat) (m : State) : Out := done (m.linOp id)

/-- LIST with its DATA descriptors (R138). -/
def State.listOp (m : State) (id : Nat) : State :=
  m.stepOp id 3 fun c ws =>
    let n := listLen ws
    (c.dataAt c.desc n).map fun (es, bad) =>
      ({ kind := 3, cfg := stepCfg ws c.desc (wbits (dw ws 1) 0 16), entries := es }, 1 + n, bad)

def execList (id : Nat) (m : State) : Out := done (m.listOp id)

/-- MEAS (R138, R139): its entries play the level that stands. -/
def State.measOp (m : State) (id : Nat) : State :=
  m.stepOp id 5 fun c ws => some ({ kind := 5, cfg := stepCfg ws c.desc (wbits (dw ws 3) 0 20) }, 1, none)

def execMeas (id : Nat) (m : State) : Out := done (m.measOp id)

/-- LIMIT (R151, R153). -/
def State.limitOp (m : State) (id : Nat) : State :=
  m.decode id 6 30 (fun _ => false) fun m ws =>
    let w3 := dw ws 3
    let l : Limits := { lo := sext 24 (wbits (dw ws 1) 0 24), hi := sext 24 (wbits (dw ws 2) 0 24), word := wbits w3 0 2,
                        flagFail := w3.getLsbD 4, action := wbits w3 8 2, ev := wbits w3 12 3, failN := wbits w3 16 16 }
    some ((m.modCtx id fun c => { c with limits := c.limits ++ [l] }).nextDesc id)

def execLimit (id : Nat) (m : State) : Out := done (m.limitOp id)

/-- WAIT (R148): it closes the grid (R143); with KEEP the steps that follow are queued before the context is ARMED, else it parks
once its results are read, and its engine is released. -/
def State.waitOp (m : State) (id : Nat) : State :=
  m.decode id 7 (if (m.ctx id).closing then 0 else 30) (fun _ => true) fun m ws =>
    if !m.quiet id then none
    else
      let c := m.ctx id
      let left := !(m.lane c.tile c.slot).latch.isEmpty
      let m := ((m.due (m.lane c.tile c.slot).dwellEnd).closeGrid id).modCtx id fun c => { c with closing := false }
      let w1 := dw ws 1
      let w : WaitInfo := { go := if w1.getLsbD 5 then 15 else wbits w1 0 3, keep := w1.getLsbD 4, timed := w1.getLsbD 5,
                            time := (dw ws 2).toNat, toAct := (dw ws 3).getLsbD 0 }
      if w.keep then some ((m.nextDesc id).modCtx id fun c => { c with waitI := some w, late := [] })
      else if left then (if c.closing then none else some (m.modCtx id fun c => { c with closing := true }))
      else
        let m := m.nextDesc id
        let w := m.armWait id w
        some ((m.freeEngine c.tile c.engine).modCtx id fun c => { c with st := .parked, engine := none, waitI := some w })

def execWait (id : Nat) (m : State) : Out := done (m.waitOp id)

/-- FIRE (R149): the event waits for the update tick of the next step. -/
def State.fireOp (m : State) (id : Nat) : State :=
  m.decode id 8 30 (fun _ => false) fun m ws =>
    some ((m.modCtx id fun c => { c with fireEvs := c.fireEvs ++ [wbits (dw ws 1) 0 3] }).nextDesc id)

def execFire (id : Nat) (m : State) : Out := done (m.fireOp id)

/-- JUMP (R150): a conditional one closes the grid (R143) and waits until every aperture before it is checked. -/
def State.jumpOp (m : State) (id : Nat) : State :=
  m.decode id 9 (if (m.ctx id).closing then 0 else 30) (fun ws => wbits (dw ws 1) 16 2 == 1 || wbits (dw ws 1) 16 2 == 2) fun m ws =>
    let c := m.ctx id
    let w1 := dw ws 1
    let tgt := wbits w1 0 16
    match wbits w1 16 2 with
    | 0 => some (m.setCtx id { c with desc := tgt })
    | 3 =>
      let k := wbits w1 20 2
      let v0 := c.loops.getD k 0
      let v := (if v0 = 0 then wbits (dw ws 2) 0 16 else v0) - 1
      some (m.setCtx id { c with loops := c.loops.set k v, desc := if v = 0 then c.desc + 1 else tgt })
    | cond =>
      if !m.quiet id then none
      else
        let take := if cond = 1 then c.condFail else !c.condFail
        let left := !(m.lane c.tile c.slot).latch.isEmpty
        let m := (m.due (m.lane c.tile c.slot).dwellEnd).closeGrid id
        if left then (if c.closing then none else some (m.modCtx id fun c => { c with closing := true }))
        else some (m.modCtx id fun c => { c with closing := false, condFail := false, desc := if take then tgt else c.desc + 1 })

def execJump (id : Nat) (m : State) : Out := done (m.jumpOp id)

/-- The engine sets the lane up to play an entry with the grid closed (R158): at the next DAC sample, or at the next strobe of its
group where the last step was a strobe step. -/
def State.openFinal (m : State) (id : Nat) (strobe : Bool) : State :=
  let c := m.ctx id
  let p := Page.lane c.tile c.slot
  ((m.hwLive p [(.laneDacSrc, if strobe then 2 else 1)]).latch p [.laneDacSrc]).modLane c.tile c.slot fun d =>
    { d with qGate := true, qFrom := 0 }

/-- END (R158): the final action begins; HOLD waits for the last aperture, LEVEL plays one more entry at the end of the last
dwell, queued as any other (R116), DISCONNECT disconnects from there. -/
def State.endOp (m : State) (id : Nat) : State :=
  m.decode id 10 24 (fun _ => true) fun m ws =>
    let c := m.ctx id
    let t := c.tile
    let s := c.slot
    let lv := wbits (dw ws 2) 0 20
    match wbits (dw ws 1) 0 2 with
    | 0 => some (m.setCtx id { c with final := some (0, 0) })
    | 1 =>
      if c.ahead ≤ (m.lane t s).dacQ.length then none
      else
        let g : Gen := { kind := 2, cfg := { count := 1 }, start := sext 20 lv }
        match m.admitTry (m.withDescEst t s g) c.fn t s with
        | (m, some y) => some (m.abortRun id 6 y.code (m.pace + 1))
        | (m, none) =>
          let grp := (((m.lane t s).dacQ.getLast?).map (·.cfg.group)).getD (m.r (.lane t s) .laneDacGroup)
          let e : QEntry := { w := BitVec.ofNat 32 lv, fin := true, cfg := { strobe := c.gridStrobe, group := grp } }
          let m := (m.modLane t s fun d => { d with dacQ := d.dacQ ++ [e] }).setCtx id { c with final := some (1, sext 20 lv) }
          some (if c.gridOpen then m else m.openFinal id c.gridStrobe)
    | _ =>
      if !m.quiet id then none
      else
        let e := max (m.lane t s).dwellEnd m.pace
        some ((((m.due e).closeGrid id).discUnit t s e .run).modCtx id fun c => { c with final := some (2, e) })

def execEndList (id : Nat) (m : State) : Out := done (m.endOp id)


/-- How many result words the limit in force checks (R115, R151). -/
def Ctx.checked (c : Ctx) (k : StepCfg) : Nat :=
  if !k.chk then 0
  else match c.limitOf k with
    | none => 0
    | some l => if k.qty = 3 then (if l.word ≤ 1 then 1 else 2) else if l.word = 1 then 0 else 1

/-- What reading the next result costs at most (R115). -/
def State.readCost (m : State) (id : Nat) : Nat :=
  match (m.lane (m.ctx id).tile (m.ctx id).slot).latch with
  | [] => 0
  | r :: _ =>
    let k := r.step.cfg
    let v := judgeStep ((m.ctx id).limitOf k) k r.r0 r.r1
    (if (if k.pack then v != none && v != some .pass else k.res) then 22 else 10) + 8 * (m.ctx id).checked k

/-- A repetition entry of the step whose result is next has not played: its slips belong to the step's packet (R144). At END
with HOLD the run ends with the aperture of its last step, whose repetitions do not count (R158). -/
def State.repsLeft (m : State) (id : Nat) : Bool :=
  let c := m.ctx id
  let hold := ((c.final.map (·.1)).getD 1) == 0 && c.gen.isNone
  let d := m.lane c.tile c.slot
  match d.latch with
  | [] => false
  | r :: _ =>
    let sn := r.step.cfg.sn
    (d.dacQ.any (fun q => q.cfg.sn == sn && q.k == r.step.k && q.rep != 0) && !(hold && d.dacQ.all fun q => q.rep != 0)) ||
      (match c.gen with | some g => g.cfg.sn == sn && g.k == r.step.k && g.rep != 0 | none => false)

/-- APERTURE_RESULT_READ (R144, R145, R151 to R155): a packet beyond two that wait is owed, and an engine that owes one reads
nothing. -/
def State.apertureReadOp (m : State) (id : Nat) : State :=
  let c := m.ctx id
  if !m.repsLeft id ∧ (c.st = .running ∨ c.st = .armed) ∧ (m.lane c.tile c.slot).latch ≠ [] ∧ !m.engStalled (c.engKey id) then
    ((m.readResult id).spill id).engOp c.tile c.engine (m.readCost id)
  else m

def execApertureResultRead (id : Nat) (m : State) : Out := done (m.apertureReadOp id)

end Sys2Proof.Machine
end

