-- ==== Sys2Proof/Machine/Service.lean ====
section
/-! DEFINITION. Service continuity as commands (R332 to R352, R379, R380): service requests, the transfer's steps, tile and Archive
domains, microcode and the Curator's firmware images. -/

namespace Sys2Proof.Machine

/-! Service requests (R345 to R347): PF0 alone sees the Curator mailbox page. -/

/-- A service request is made; the ticket is the function's result. -/
def State.svcAsk (m : State) (fn op t s waitMs doneEv : Nat) : State :=
  let k := m.cur.nextTicket
  let (m, st) := m.svcTry op t s waitMs doneEv
  m.answer fn st k

def execHandOut (fn t s waitMs doneEv : Nat) (m : State) : Out :=
  byHost (.handOut fn t s waitMs doneEv) fn (m.hostAt fn .cur) m (m.svcAsk fn 1 t s waitMs doneEv)
def execHandBack (fn t s waitMs doneEv : Nat) (m : State) : Out :=
  byHost (.handBack fn t s waitMs doneEv) fn (m.hostAt fn .cur) m (m.svcAsk fn 2 t s waitMs doneEv)
def execTest (fn t s waitMs doneEv : Nat) (m : State) : Out :=
  byHost (.test fn t s waitMs doneEv) fn (m.hostAt fn .cur) m (m.svcAsk fn 3 t s waitMs doneEv)
def execRetire (fn t s waitMs doneEv : Nat) (m : State) : Out :=
  byHost (.retire fn t s waitMs doneEv) fn (m.hostAt fn .cur) m (m.svcAsk fn 4 t s waitMs doneEv)
def execUnretire (fn t s waitMs doneEv : Nat) (m : State) : Out :=
  byHost (.unretire fn t s waitMs doneEv) fn (m.hostAt fn .cur) m (m.svcAsk fn 5 t s waitMs doneEv)

/-- SVC_REQ with OP ABORT. -/
def State.svcAbortAsk (m : State) (fn ticket : Nat) : State :=
  let (m, st) := m.svcAbortTry ticket
  m.answer fn st

def execSvcAbort (fn ticket : Nat) (m : State) : Out :=
  byHost (.svcAbort fn ticket) fn (m.hostAt fn .cur) m (m.svcAbortAsk fn ticket)

def execSvcWaitTimeout (t : Nat) (m : State) : Out := done (m.svcTimeoutOp t)

/-! The transfer (R336 to R342). -/

def execTransferStart (t : Nat) (m : State) : Out := done (m.transferStartOp t)
def execTransferMatch (t : Nat) (meanUv : Int) (m : State) : Out := done (m.matchOp t meanUv)
def execShare (t : Nat) (m : State) : Out := done (m.shareOp t)
def execShareStep (t : Nat) (m : State) : Out := done (m.shareStepOp t)
def execTransferSwap (t : Nat) (m : State) : Out := done (m.xferSwapOp t)
def execTransferComplete (t : Nat) (m : State) : Out := done (m.xferCompleteOp t)

/-- OLD_SENSE_OPEN, and what waited for the transfer's end. -/
def State.oldSenseEnd (m : State) (t : Nat) : State :=
  if (m.xferAt t 4).isSome then (m.oldSenseOp t).settle t (m.oldSenseOp t).pace else m

def execOldSenseOpen (t : Nat) (m : State) : Out := done (m.oldSenseEnd t)

/-- TRANSFER_ABORT: an abort reaches the arbiter, decided on the first tick after. -/
def execTransferAbort (t : Nat) (m : State) : Out := done (m.xferAbort t 6 2 (m.pace + 1))

/-- LEAVE_END, and what waited for it. -/
def State.leaveDone (m : State) (t : Nat) : State :=
  if (m.xferAt t 9).isSome then (m.leaveOp t).settle t (m.leaveOp t).pace else m

def execLeaveEnd (t : Nat) (m : State) : Out := done (m.leaveDone t)

def execFrontEndTestEnd (t : Nat) (pass : Bool) (m : State) : Out := done (m.testEndOp t pass)

/-! Tile domains (R349, R378, R379). -/

/-- TILE_SVC is refused with a code of R487. -/
def State.tileRefuse (m : State) (fn st : Nat) : State :=
  ({ m with cur := { m.cur with tileSt := st, tileMask := 0 } } : State).answer fn st

/-- TILE_SVC is accepted for tile `t`. -/
def State.tileAccept (m : State) (fn t : Nat) : State :=
  ({ m with cur := { m.cur with tileReq := some t, tileSt := 0xFFFFFFFF, tileMask := 0 } } : State).answer fn 0

/-- TILE_SVC DOWN, or RESET where `rst`. A TSHUT of the tile in progress absorbs it: it is accepted and reports nothing of its own,
and no request stays under way (R387; log entry 13). -/
def State.tileDownOp (m : State) (fn t : Nat) (rst : Bool) : State :=
  if 15 < t then m.tileRefuse fn 13
  else if m.cur.tileReq.isSome then m.tileRefuse fn 10
  else if !m.tileOn t then m.tileRefuse fn 5
  else if (m.tile t).tshut && (m.tile t).goingDown && !(m.tile t).svcUp then
    ({ m with cur := { m.cur with tileSt := 0, tileMask := 0 } } : State).answer fn 0
  else
    let e := m.pace + 1
    (((m.tileAccept fn t).modTile t fun d => { d with svcReset := rst }).tileStop t e).settle t e

def execTileSvcDown (fn t : Nat) (m : State) : Out := byHost (.tileSvcDown fn t) fn (m.hostAt fn .cur) m (m.tileDownOp fn t false)
def execTileSvcReset (fn t : Nat) (m : State) : Out :=
  byHost (.tileSvcReset fn t) fn (m.hostAt fn .cur) m (m.tileDownOp fn t true)

/-- The tile's sensor keeps it off after TSHUT (R281): UP only below 100 °C. -/
def State.tooHot (m : State) (t : Nat) : Bool := (m.tile t).tshut && decide (1000 ≤ (m.tile t).temp)

/-- TILE_SVC UP. -/
def State.tileUpOp (m : State) (fn t : Nat) : State :=
  if 15 < t then m.tileRefuse fn 13
  else if m.cur.tileReq.isSome then m.tileRefuse fn 10
  else if m.tileOn t || m.tooHot t then m.tileRefuse fn 5
  else if !m.domAdmit (4 + t) then (m.domRefused (4 + t)).tileRefuse fn 4
  else (((m.tileAccept fn t).tileStart t (m.pace + 1)).downAllow)

def execTileSvcUp (fn t : Nat) (m : State) : Out := byHost (.tileSvcUp fn t) fn (m.hostAt fn .cur) m (m.tileUpOp fn t)

/-! The Archive domain (R380, R382). -/

/-- DOM_SVC reaches its status. -/
def State.domAnswer (m : State) (fn st : Nat) : State :=
  ({ m with cur := { m.cur with domSt := st } } : State).answer fn st

/-- DOM_SVC ARCH_DOWN. -/
def State.archDownOp (m : State) (fn : Nat) : State :=
  if m.archOn then m.archOff.domAnswer fn 0 else m.domAnswer fn 5

def execArchDown (fn : Nat) (m : State) : Out := byHost (.archDown fn) fn (m.hostAt fn .cur) m (m.archDownOp fn)

/-- DOM_SVC ARCH_UP: refused with HOT at or above 85 °C. -/
def State.archUpOp (m : State) (fn : Nat) : State :=
  if m.archOn then m.domAnswer fn 5
  else if 850 ≤ sext 16 (m.r .pwr .pwrTempArc) then m.domAnswer fn 11
  else if !m.domAdmit 3 then (m.domRefused 3).domAnswer fn 4
  else (m.archUp.w .pwr .pwrArcHot 0).domAnswer fn 0

def execArchUp (fn : Nat) (m : State) : Out := byHost (.archUp fn) fn (m.hostAt fn .cur) m (m.archUpOp fn)

/-! Microcode (R350, R351). -/

/-- A window of an image goes into a staging buffer: 24 bytes at a multiple of 24 (R485). -/
def windowOk (off : Nat) (bytes : List Byte) : Bool := decide (off % 24 = 0 ∧ bytes.length = 24 ∧ off < 2 ^ 32)

/-- UCODE_STAGE: LAST starts the verification, whose result and version come with the command. -/
def State.ucodeStageOp (m : State) (fn off : Nat) (last : Bool) (bytes : List Byte) (sigOk : Bool) (ver : Nat) : State :=
  let c := m.cur
  if !windowOk off bytes then ({ m with cur := { c with ucStageSt := 13 } } : State).answer fn 13
  else
    let c := { c with stageBuf := memStore c.stageBuf off bytes, ucStageSt := 0 }
    if !last then ({ m with cur := c } : State).answer fn 0
    else if sigOk then ({ m with cur := { c with stageBuf := [], staged := some (ver % 65536) } } : State).answer fn 0
    else ({ m with cur := { c with stageBuf := [], ucStageSt := 14 } } : State).answer fn 14

def execUcodeStage (fn off : Nat) (last : Bool) (bytes : List Byte) (sigOk : Bool) (ver : Nat) (m : State) : Out :=
  byHost (.ucodeStage fn off last bytes sigOk ver) fn (m.hostAt fn .cur) m (m.ucodeStageOp fn off last bytes sigOk ver)

/-- UCODE_APPLY: the tiles of the mask that are powered drain one at a time. -/
def State.ucodeApplyOp (m : State) (fn mask drainMs : Nat) : State :=
  let no (st : Nat) : State := ({ m with cur := { m.cur with ucApplySt := st } } : State).answer fn st
  if mask = 0 ∨ 65535 < mask ∨ drainMs = 0 ∨ 65535 < drainMs then no 13
  else if m.cur.applyMask ≠ 0 then no 10
  else if m.cur.staged.isNone then no 14
  else
    (({ m with cur := { m.cur with applyMask := mask, applyMs := drainMs, applyOk := 0, applyTo := 0,
                                   ucApplySt := 0xFFFFFFFF } } : State).ucodeNext).answer fn 0

def execUcodeApply (fn mask drainMs : Nat) (m : State) : Out :=
  byHost (.ucodeApply fn mask drainMs) fn (m.hostAt fn .cur) m (m.ucodeApplyOp fn mask drainMs)

/-- The 64 engines of a draining tile were OFFLINE before DRAIN_MS had passed (R350). -/
def State.drained (m : State) (t : Nat) : Bool := (m.tile t).draining && (m.tile t).offAt.any fun z => decide (z ≤ (m.tile t).drainEnd)

/-- UCODE_LOAD: the 64 engines of a draining tile are OFFLINE in time; it runs the staged version. -/
def State.ucodeLoadOp (m : State) (t : Nat) : State :=
  match m.cur.staged with
  | some v =>
    if m.drained t then
      let m := m.w (.tile t) .tileUcodeVer v
      ({ m with nv := { m.nv with lastUcode := m.nv.lastUcode.set t v },
                cur := { m.cur with applyOk := m.cur.applyOk ||| 2 ^ t } } : State).ucodeLeave t
    else m
  | none => m

def execUcodeLoad (t : Nat) (m : State) : Out := done (m.ucodeLoadOp t)

/-- DRAIN_TIMEOUT: DRAIN_MS passes first. -/
def State.drainOutOp (m : State) (t : Nat) : State :=
  if (m.tile t).draining && !m.drained t then
    let m := m.due (m.tile t).drainEnd
    ({ m with cur := { m.cur with applyTo := m.cur.applyTo ||| 2 ^ t } } : State).ucodeLeave t
  else m

def execDrainTimeout (t : Nat) (m : State) : Out := done (m.drainOutOp t)

/-- UCODE_COMMIT: the staged image is the version that each tile loads at power-up. -/
def State.ucodeCommitOp (m : State) (fn : Nat) : State :=
  match m.cur.staged with
  | some v =>
    ({ m with nv := { m.nv with ucodeFlash := some v, lastUcode := List.replicate 16 v },
              cur := { m.cur with ucCommitSt := 0 } } : State).answer fn 0
  | none => ({ m with cur := { m.cur with ucCommitSt := 14 } } : State).answer fn 14

def execUcodeCommit (fn : Nat) (m : State) : Out := byHost (.ucodeCommit fn) fn (m.hostAt fn .cur) m (m.ucodeCommitOp fn)

/-! Firmware images (R352, R391). -/

/-- The mark of image `k`, and whether it verifies, change. -/
def Nv.setImage (n : Nv) (k mark : Nat) (ok : Bool) : Nv :=
  if k = 0 then { n with fwA := mark, okA := ok } else { n with fwB := mark, okB := ok }

/-- FW_STAGE: the slot that is not running takes the image, marked TRIAL once it verifies; one that does not is marked FAILED. -/
def State.fwStageOp (m : State) (fn off : Nat) (last : Bool) (bytes : List Byte) (sigOk : Bool) : State :=
  let c := m.cur
  let k := 1 - m.nv.fwRun
  if !windowOk off bytes then ({ m with cur := { c with fwSt := 13 } } : State).answer fn 13
  else
    let c := { c with fwBuf := memStore c.fwBuf off bytes, fwSt := 0 }
    if !last then ({ m with cur := c } : State).answer fn 0
    else if sigOk then ({ m with cur := { c with fwBuf := [] }, nv := m.nv.setImage k 1 true } : State).answer fn 0
    else ({ m with cur := { c with fwBuf := [], fwSt := 14 }, nv := m.nv.setImage k 2 false } : State).answer fn 14

/-- FW_STAGE is offered on the Curator mailbox page, and on the device page while BOOT_FAIL is 1 (R485). -/
def State.fwStageAt (m : State) (fn : Nat) : Bool :=
  m.hostAt fn .cur || (fn == 0 && m.hostAt fn .dev && m.r .dev .devStatBootFail == 1)

def execFwStage (fn off : Nat) (last : Bool) (bytes : List Byte) (sigOk : Bool) (m : State) : Out :=
  byHost (.fwStage fn off last bytes sigOk) fn (m.fwStageAt fn) m (m.fwStageOp fn off last bytes sigOk)

/-- A warm reset with cause `cause` (R383, R386), at once where every lane is DISCONNECTED. -/
def State.warmReset (m : State) (cause : Nat) : State :=
  (m.orderReset { cold := false, cause := cause, straps := m.straps, fwA := m.nv.okA, fwB := m.nv.okB }).settle 0 (m.pace + 1)

/-- WATCHDOG: a warm reset, with the fallback where a TRIAL image runs (R352). -/
def State.watchdogOp (m : State) : State :=
  let trial := if m.nv.fwRun = 0 then m.nv.fwA == 1 else m.nv.fwB == 1
  if m.dom 1 && m.cur.pfail.isNone && m.r .dev .devStatBootFail == 0 then m.warmReset (if trial then 5 else 4) else m

def execWatchdog (m : State) : Out := done m.watchdogOp

end Sys2Proof.Machine
end

