-- ==== Sys2Proof/Machine/Power.lean ====
section
/-! DEFINITION. Power, resets and start-up as commands (R376 to R400, R405, R488). -/

namespace Sys2Proof.Machine

/-- A cold start at once (R389): of a module whose lanes are all open. -/
def State.coldStart (m : State) (cause : Nat) (st : Straps) (fwA fwB : Bool) : State :=
  m.doReset { cold := true, cause := cause, straps := st, fwA := fwA, fwB := fwB }

/-- The start that follows a power failure shows the new record (R400). -/
def State.pfNew (m : State) (was : Bool) : State := if was then m.flag .pwr .pwrPfailNew else m

/-- VIN has been at or above 5.8 V for 1 ms and nothing but AON is on: a cold start, its cause by the record that is pending
(R376, R386). -/
def State.vinOp (m : State) (mv : Nat) (st : Straps) (fwA fwB : Bool) : State :=
  if mv < 5800 ∨ 1 < m.r .pwr .pwrDomStat ∨ m.cur.pfail.isSome then m
  else
    let n := m.nv
    let m := ({ m with cur := { m.cur with aon := true } } : State).w .pwr .pwrVin mv
    (m.coldStart (if n.hotPending then 7 else if n.pfPending then 2 else 0) st fwA fwB).pfNew (n.pfPending || n.hotPending)

/-- Beyond 44 V the ratings of R488 are exceeded. -/
def execVinValid (mv : Nat) (st : Straps) (fwA fwB : Bool) (m : State) : Out :=
  if 44000 < mv then .fault .beyondRatings else done (m.vinOp mv st fwA fwB)

/-- PERST# is asserted (R383, R384): a cold reset after the ordered disconnect; during a power failure it has no effect, but
ends a CORE_HOT shutdown whose record is committed (R400). -/
def State.perstOp (m : State) (st : Straps) (fwA fwB : Bool) : State :=
  let m : State := { m with cur := { m.cur with perst := true, linkUp := false } }
  if !m.dom 0 then m
  else if m.cur.pfail.isSome then
    (if m.cur.coreHot && m.cur.pfSaved then (m.coldStart 7 st fwA fwB).pfNew true else m)
  else (m.orderReset { cold := true, cause := 1, straps := st, fwA := fwA, fwB := fwB }).settle 0 (m.pace + 1)

def execPerst (st : Straps) (fwA fwB : Bool) (m : State) : Out := done (m.perstOp st fwA fwB)

/-- PERST# is released: the host link trains once LINK is on (R388, R389). -/
def State.perstOffOp (m : State) : State :=
  { m with cur := { m.cur with perst := false, linkUp := m.dom 2 && m.cur.pfail.isNone && m.cur.rst.isNone } }

def execPerstRelease (m : State) : Out := done m.perstOffOp

/-- DEV_CTRL.WARM: of PF0 only (R383). -/
def State.warmOp (m : State) (fn : Nat) : State := if fn = 0 then m.warmReset 3 else m

def execWarm (fn : Nat) (m : State) : Out := byHost (.warm fn) fn (m.hostAt fn .dev) m (m.warmOp fn)

/-- A hot reset or a link-down of the host port (R405), or the reset that an uncorrectable error inside it causes, which PF0's AER
logs (R407); the row does not tell which (log entry 40). -/
def State.hotOp (m : State) : State :=
  (if Config.portError m.freeCtr then m.drawn.aerLog 0 4 else m.drawn).warmReset 6

def execHotReset (m : State) : Out := onlyIf (m.cur.linkUp && m.cur.pfail.isNone) m m.hotOp

/-- RESULT and STEP as a self-check can end (R261, R263). -/
def chkOutcomes : List (Nat × Nat) :=
  [(1, 0), (2, 1), (2, 2), (2, 3), (3, 4), (3, 5), (3, 6), (4, 1), (4, 3), (4, 4), (4, 6)]

/-- A self-check of a lane that the tile's start made ends by DEV_READY; its result is free where no command gave it (R263,
R389; log entry 29). -/
def State.chkAssume (m : State) (t s : Nat) : State :=
  match (m.lane t s).chk with
  | some (n, _) =>
    let x := chkOutcomes.getD (Config.chkResult m.freeCtr % 11) (1, 0)
    let m := m.drawn.ws (.lane t s) [(.laneWmchkResult, x.1), (.laneWmchkStep, x.2), (.laneWmchkCmd, 0)]
    let m := ((m.flag (.lane t s) .laneWmchkDone).modLane t s fun d => { d with chk := none }).wmReset t s n m.pace
    m.chkAfter t s n m.pace (x.1 == 1)
  | none => m

/-- Tile `t` at DEV_READY (R390): one that failed is switched off and logged, another accepts writes. -/
def State.tileAtReady (m : State) (failed t : Nat) : State :=
  if !m.tileOn t then m
  else if failed.testBit t then
    ((((m.logFault t 15 (Config.faultCode m.freeCtr % 16) (Config.faultValue m.freeCtr)).drawn.tileClear t).setDom (4 + t) false).substSet t 6 15).overSettle
  else
    ((List.range 10).foldl (fun m s => (m.chkAssume t s).chkAssume t s) (if (m.tile t).chkDue then m.startChecks t m.pace else m)).modTile t fun d =>
      { d with goingDown := d.goingDown && !d.svcUp, svcUp := false }

/-- DEV_READY sets (R390); the image that runs is GOOD (R352). -/
def State.devReadyOp (m : State) (failed : Nat) : State :=
  if !m.dom 1 || m.r .dev .devStatReady == 1 || m.r .dev .devStatBootFail == 1 || m.cur.pfail.isSome || m.cur.rst.isSome then m
  else
    let nv := if m.nv.fwRun = 0 then { m.nv with fwA := 0 } else { m.nv with fwB := 0 }
    let bad := (setBits failed 16).foldl (fun a t => if m.tileOn t then a ||| 2 ^ t else a) 0
    let m := (List.range 16).foldl (fun m t => m.tileAtReady failed t) ({ m with nv := nv } : State)
    m.ws .dev [(.devStatTileFail, bad), (.devStatReady, 1)]

def execDevReady (failed : Nat) (m : State) : Out := done (m.devReadyOp failed)

/-! Power failure (R394 to R400). -/

/-- POWER_FAIL: VIN below 5.4 V, or a fall of more than 2 V within 1 µs. The detector is AON's, whatever else is on (R377, R394). -/
def State.powerFailOp (m : State) (slope : Bool) (trace : List Nat) : State :=
  if m.cur.pfail.isSome || !m.cur.aon then m
  else (m.pfailOp (if slope then 2 else 1) trace).settle 0 m.pace

def execPowerFail (slope : Bool) (trace : List Nat) (m : State) : Out := done (m.powerFailOp slope trace)

/-- PFAIL_RECORD: the record is committed in MRAM, which keeps eight (R398). -/
def State.recordOp (m : State) : State :=
  match m.cur.pfail with
  | some r =>
    if m.cur.pfSaved || r.safe.isNone then m
    else { m with pfRecs := (r :: m.pfRecs).take 8, cur := { m.cur with pfSaved := true },
                  nv := { m.nv with pfPending := !m.cur.coreHot, hotPending := m.cur.coreHot } }
  | none => m

def execPfailRecord (m : State) : Out := done m.recordOp

/-- AON_OFF: VIN is below 4.0 V (R377, R396): what MRAM, flash and the host hold stays. Where that comes before the record is
committed (R397 is not met), MRAM keeps a record that was cut off, whose CRC fails (R398; log entry 48). -/
def State.aonOffOp (m : State) : State :=
  if m.cur.pfail.isNone && decide (1 < m.r .pwr .pwrDomStat) then m
  else
    let recs := match m.cur.pfail with
      | some r => if m.cur.pfSaved then m.pfRecs else ({ r with cut := true } :: m.pfRecs).take 8
      | none => m.pfRecs
    { pending := m.pending, freeCtr := m.freeCtr, variant := m.variant, straps := m.straps, profile := m.profile, chainEnd := m.chainEnd,
      hostMem := m.hostMem, msix := m.msixOff, nv := m.nv, faultLog := m.faultLog, pfRecs := recs,
      cur := { aon := false, perst := m.cur.perst } }

def execAonOff (m : State) : Out := done m.aonOffOp

/-- PFAIL_RESTART: VIN has been at or above 6.0 V for 100 ms after the record (R400). -/
def State.restartOp (m : State) (st : Straps) (fwA fwB : Bool) : State :=
  if m.cur.pfail.isSome && m.cur.pfSaved && !m.cur.coreHot then (m.coldStart 2 st fwA fwB).pfNew true else m

def execPfailRestart (st : Straps) (fwA fwB : Bool) (m : State) : Out := done (m.restartOp st fwA fwB)

end Sys2Proof.Machine
end

