-- ==== Sys2Proof/Machine/Queues.lean ====
section
/-! DEFINITION. The host's queues (R413 to R433): command queues and the commands they carry, result queues, Archive DMA, and
what stops a function's DMA. -/

namespace Sys2Proof.Machine

/-! The words of a command queue (R416 to R422). -/

/-- The words of queue `q`, with its credit (R419). -/
def State.setWords (m : State) (fn q : Nat) (ws : List QWord) : State :=
  (m.setCq fn q { m.cq fn q with words := ws }).w (.q fn) (.cqCredit q) (8192 - ws.length)

/-- The words after the last end mark: a command not complete yet. -/
def partialTail (ws : List QWord) : List QWord := (ws.reverse.takeWhile fun w => !w.last).reverse

/-- The words up to the last end mark. -/
def wholePart (ws : List QWord) : List QWord := ws.take (ws.length - (partialTail ws).length)

/-- The head command, through its end mark, and the words behind it. -/
def splitCmd : List QWord → Option (List QWord × List QWord)
  | [] => none
  | w :: l => if w.last then some ([w], l) else (splitCmd l).map fun (a, b) => (w :: a, b)

/-- A word fails the parity check or came with EP set (R417). -/
def QWord.bad (w : QWord) : Bool := w.ep || !parityOk w.data w.par

/-- The fields of a header word (R418). -/
def hdrOp (h : QData) : Nat := bits h.toNat 0 8
def hdrLen (h : QData) : Nat := bits h.toNat 8 8
def hdrRq (h : QData) : Nat := bits h.toNat 16 4
def hdrSilent (h : QData) : Bool := h.getLsbD 20
def hdrTag (h : QData) : Nat := bits h.toNat 32 16

/-- A command is discarded with a status of R426 (R418): it is counted, and completed where its header is intact and its result
queue enabled. -/
def State.discard (m : State) (fn q : Nat) (h : QWord) (status detail : Nat) : State :=
  let m := m.inc (.q fn) (.cqDiscard q)
  if h.bad then m
  else
    m.complete fn q (hdrRq h.data) (completionPacket (hdrOp h.data) q (hdrTag h.data) status detail 0 m.pace [])

/-- A word `w` is dropped at a full queue (R419): its command goes with every word of it, those to come included. -/
def State.overflow (m : State) (fn q : Nat) (w : QWord) : State :=
  let ws := (m.cq fn q).words
  let h := (partialTail ws).headD w
  let m := (m.setWords fn q (wholePart ws)).flag (.q fn) (.cqOverflow q)
  (m.setCq fn q { m.cq fn q with skip := !w.last }).discard fn q h 20 0

/-- A word whose place is taken from it: it goes with its command, or with the words that are being discarded. -/
def State.dropWord (m : State) (fn q : Nat) (w : QWord) : State :=
  if (m.cq fn q).skip then m.setCq fn q { m.cq fn q with skip := !w.last } else m.overflow fn q w

/-- Words arrive at queue `q` in order (R416, R419, R420): in compatible mode a full queue stalls the write. -/
def State.arriveWords (m : State) (fn q : Nat) : List QWord → State
  | [] => m
  | w :: l =>
    let c := m.cq fn q
    if c.skip then (m.dropWord fn q w).arriveWords fn q l
    else if c.words.length < 8192 then
      ((m.setWords fn q (c.words ++ [w])).setCq fn q { c with words := c.words ++ [w], latest := m.pace }).arriveWords fn q l
    else if m.r (.q fn) .qCompat = 1 then m.setCq fn q { c with stalled := w :: l, stallAt := m.pace }
    else (m.overflow fn q w).arriveWords fn q l

/-- Room in a queue lets a stalled write go on (R420). -/
def State.unstall (m : State) (fn q : Nat) : State :=
  let c := m.cq fn q
  let m' := (m.setCq fn q { c with stalled := [] }).arriveWords fn q c.stalled
  if (m'.cq fn q).stalled = [] then m' else m'.setCq fn q { m'.cq fn q with stallAt := c.stallAt }

/-- A write of 8-byte words into the window of queue `q` (R416). -/
def State.cqWriteOp (m : State) (fn q off : Nat) (words : List QData) (whole ep : Bool) : State :=
  let m := if ep then m.aerLog fn 0 else m
  if !whole then m.flag (.q fn) (.cqFrame q)
  else if m.r (.q fn) (.cqEn q) = 0 then m.flag (.q fn) (.cqOverflow q)
  else
    m.arriveWords fn q (words.map fun d =>
      { data := d, last := decide (0x8000 ≤ off % 0x10000), par := decide (off % 0x8000 ≥ 0x4000), ep := ep })

def execCqWrite (fn q off : Nat) (words : List QData) (whole ep : Bool) (m : State) : Out :=
  byHost (.cqWrite fn q off words whole ep) fn (m.winOk fn && decide (q < 8)) m (m.cqWriteOp fn q off words whole ep)

/-- The Q_FN.STALE time in ticks (R413). -/
def State.staleTicks (m : State) (fn : Nat) : Nat := 800 * 10 ^ min (m.r (.q fn) .qStale) 6

/-- STALE_TAIL (R421). -/
def State.staleOp (m : State) (fn q : Nat) : State :=
  let c := m.cq fn q
  match partialTail c.words with
  | [] => m
  | h :: _ =>
    ((((m.due (c.latest + m.staleTicks fn)).setWords fn q (wholePart c.words)).flag (.q fn) (.cqStale q)).discard fn q h 19 0).unstall
      fn q

def execStaleTail (fn q : Nat) (m : State) : Out := onlyIf (decide (fn < 17 ∧ q < 8)) m (m.staleOp fn q)

/-- COMPAT_STALL_TIMEOUT: the words of the stalled write are dropped (R420). -/
def State.stallOutOp (m : State) (fn q : Nat) : State :=
  let c := m.cq fn q
  if c.stalled = [] then m
  else
    let m := (m.due (c.stallAt + m.staleTicks fn)).setCq fn q { c with stalled := [] }
    c.stalled.foldl (fun m w => m.dropWord fn q w) m

def execCompatStallTimeout (fn q : Nat) (m : State) : Out := onlyIf (decide (fn < 17 ∧ q < 8)) m (m.stallOutOp fn q)

/-- A flush of queue `q` (R422): whole commands are counted, and later words are new ones. -/
def State.flushOp (m : State) (fn q : Nat) : State :=
  let n := ((m.cq fn q).words.filter (·.last)).length
  let m := (m.incBy (.q fn) (.cqFlushed q) n).setWords fn q []
  (m.setCq fn q { m.cq fn q with skip := false }).unstall fn q

def execFlush (fn q : Nat) (m : State) : Out := byHost (.flush fn q) fn (m.hostAt fn (.q fn) && decide (q < 8)) m (m.flushOp fn q)

/-! Archive DMA (R431 to R433). -/

/-- The status of an Archive DMA command (R423, R426, R432, R433), checks in the model's order (log entry 13). -/
def State.dmaStatus (m : State) (fn tag iova off len : Nat) : Nat :=
  if m.tagBusy fn tag ∨ len % 64 ≠ 0 ∨ len = 0 ∨ 2 ^ 32 ≤ len ∨ iova % 64 ≠ 0 ∨ off % 64 ≠ 0 then 9
  else if (m.region fn).2 < off + len then 21
  else if !m.archOn then 22 else 0

/-- The function has 16 Archive DMA commands outstanding: a further one waits at the head of its queue (R423). -/
def State.dmaFull (m : State) (fn : Nat) : Bool := decide (16 ≤ (m.dmas.filter fun d => d.fn == fn).length)

/-- ARC_DMA_RD or, where `wr`, ARC_DMA_WR, as taken from queue `q`. -/
def State.dmaOp (m : State) (fn q tag rq : Nat) (silent wr : Bool) (iova off len : Nat) : State :=
  let seq := m.r (.q fn) (.cqTaken q)
  match m.dmaStatus fn tag iova off len with
  | 0 =>
    let d : Dma := { fn := fn, q := q, tag := tag, rq := rq, wr := wr, iova := iova, off := off, len := len, seq := seq, silent := silent }
    let f := m.fn fn
    (({ m with dmas := m.dmas ++ [d] } : State).setFn fn { f with dmaEnded := f.dmaEnded.filter (· != tag) }).answer fn 0
  | st => (m.complete fn q rq (completionPacket (if wr then 0x21 else 0x20) q tag st 0 seq m.pace [])).answer fn st

def execArcDmaRd (fn q tag rq iova off len : Nat) (m : State) : Out :=
  onlyIf (m.cmdOk fn && !m.dmaFull fn) m ((m.taken fn q).dmaOp fn q tag rq false false iova off len)

def execArcDmaWr (fn q tag rq iova off len : Nat) (m : State) : Out :=
  onlyIf (m.cmdOk fn && !m.dmaFull fn) m ((m.taken fn q).dmaOp fn q tag rq false true iova off len)

/-- The bytes of 32-bit words, each little-endian. -/
def wordBytes (ws : List Word) : List Byte := ws.flatMap fun w => leBytes w.toNat 4

/-- DMA_ABORT (R433): the bytes moved before the decision stay moved; its status is 0, 11 LATE after the outcome, 6 BAD_ID for a
TAG that names none. -/
def State.dmaAbortOp (m : State) (fn tag : Nat) : State × Nat :=
  match m.dmas.find? fun d => d.fn == fn && d.tag == tag with
  | some d => (m.dmaEnd d 24 [d.moved], 0)
  | none => if (m.fn fn).dmaEnded.contains tag then (m.inc .arc .arcAbortLate, 11) else (m, 6)

def execDmaAbort (fn tag : Nat) (m : State) : Out :=
  onlyIf (m.cmdOk fn) m ((m.dmaAbortOp fn tag).1.answer fn (m.dmaAbortOp fn tag).2)

/-- The function may issue DMA (R395, R406, R431, R435). -/
def State.dmaRuns (m : State) (fn : Nat) : Bool :=
  m.dom 2 && (m.fn fn).bme && !(m.fn fn).d3 && (m.fn fn).flr.isNone && m.cur.pfail.isNone

/-- The functions with a DMA pending that may move are served in round-robin (R431): it is the turn of `fn`. -/
def State.dmaTurn (m : State) (fn : Nat) : Bool :=
  ((List.range 17).map fun i => (m.cur.dmaLast + 1 + i) % 17).find? (fun g => m.dmas.any (·.fn == g) && m.dmaRuns g && !m.shareOut g)
    == some fn

/-- The bytes that a transfer moves in one turn (R431). -/
def Dma.unit (d : Dma) : Nat := min 4096 (d.len - d.moved)

/-- `n` more bytes of a transfer have moved, and an error was met first at offset `bad` of the region: with the last ones it ends
(R433). -/
def State.dmaMoved (m : State) (d : Dma) (n : Nat) (bad : Option Nat) : State :=
  let d := { d with moved := d.moved + n, bad := d.bad <|> bad }
  let m : State := { m with cur := { m.cur with dmaLast := d.fn } }
  if d.moved < d.len then { m with dmas := m.dmas.map fun x => if x.fn = d.fn ∧ x.tag = d.tag then d else x }
  else match d.bad with
    | some o => m.dmaEnd d 25 [d.len, o % 2 ^ 32, o / 2 ^ 32]
    | none => m.dmaEnd d 0 [d.len]

/-- ARC_DMA_RD: a turn's bytes move to host memory. -/
def State.dmaRead (m : State) (d : Dma) (errs : EccErrs) : State :=
  let base := (m.region d.fn).1
  let a := base + d.off + d.moved
  let m := (m.postArc d.fn d.unit).eccAt a d.unit errs 0
  let bad := (m.poison.find? (touches a d.unit)).map fun w => w * 8 - base
  ({ m with hostMem := memStore m.hostMem (d.iova + d.moved) (m.arcGet a d.unit) } : State).dmaMoved d d.unit bad

/-- ARC_DMA_WR with the words `ws` that host memory gave for a turn: up to a read error, or all; the 8-byte words `ep` of them came
with EP set. -/
def State.dmaWrite (m : State) (d : Dma) (ws : List Word) (err : Bool) (ep : List Nat) : State :=
  let a := (m.region d.fn).1 + d.off + d.moved
  let bs := (wordBytes ws).take d.unit
  let m := (m.postArc d.fn bs.length).arcWrite 0 a bs
  let ks := ep.filter fun k => 8 * k < bs.length
  let m := ks.foldl (fun m k => { m with poison := insertUp (a / 8 + k) m.poison }) m
  if err then (m.aerLog d.fn 2).dmaEnd d 23 [d.moved + bs.length]
  else m.dmaMoved d d.unit ((ks.foldl (fun b k => some (min k (b.getD k))) none).map fun k => d.off + d.moved + 8 * k)

/-- DMA_COMPLETE: the transfer has its turn of up to 4 KiB, and ends with its last (R431, R433); for a write, with what the host
answered to the reads of that turn. A transfer waits for bandwidth (R247, R432). -/
def State.dmaCompleteOp (m : State) (fn tag : Nat) (ws : List Word) (err : Bool) (ep : List Nat) (errs : EccErrs) : State :=
  match m.dmas.find? fun d => d.fn == fn && d.tag == tag with
  | some d =>
    if !m.dmaRuns fn || !m.archOn then m
    else if m.shareOut fn then m.wantArc fn
    else if !m.dmaTurn fn then m
    else if !d.wr then m.dmaRead d errs
    else if err || 4 * ws.length == d.unit then m.dmaWrite d ws err ep else m
  | none => m

def execDmaComplete (fn tag : Nat) (ws : List Word) (err : Bool) (ep : List Nat) (errs : EccErrs) (m : State) : Out :=
  done (m.dmaCompleteOp fn tag ws err ep errs)

/-! Taking commands (R418, R423 to R427). -/

/-- The length of each opcode's command, and the bits of its parameter words that are not reserved (R425). -/
def opcodeForm : Nat → Option (List Nat)
  | 0x00 => some []
  | 0x01 => some [2 ^ 52 - 1, 2 ^ 64 - 1]
  | 0x02 => some [0xF0FFF]
  | 0x03 | 0x04 => some [0xFFF]
  | 0x05 => some [0x30FFF]
  | 0x10 => some [2 ^ 63 - 1, 2 ^ 63 - 1, 2 ^ 64 - 1]
  | 0x11 | 0x22 => some [0xFFFF]
  | 0x20 | 0x21 => some [2 ^ 64 - 1, 2 ^ 64 - 1, 2 ^ 32 - 1]
  | _ => none

/-- The framing of a command is right (R418): LEN, the end mark on word LEN, and no reserved bit set. -/
def framed (ws : List QWord) (masks : List Nat) : Bool :=
  let h := (ws.headD ⟨0, true, false, false⟩).data
  decide (h.toNat &&& (2 ^ 64 - 1 - 0xFFFF001FFFFF) = 0) && hdrLen h == masks.length + 1 && ws.length == masks.length + 1 &&
    ((ws.drop 1).zip masks).all fun (w, k) => w.data.toNat ||| k == k

/-- CTX_OPEN's parameters (R425). -/
def ctxParamsOf (a b : Nat) : CtxParams :=
  { lane := bits a 0 8, archive := a.testBit 8, prio := bits a 9 2, qahead := bits a 11 11, rq := bits a 22 4, abortDis := a.testBit 26,
    abortOn := bits a 27 4, abortEv := bits a 31 4, llen := bits a 35 17, laddr := b }

/-- CAL_REQ's parameters (R425). -/
def calParamsOf (a b c : Nat) : CalParams :=
  { lanes := (List.range 7).map (fun i => bits a (9 * i) 9) ++ (List.range 7).map (fun i => bits b (9 * i) 9) ++
      [bits c 0 9, bits c 9 9],
    kinds := bits c 18 5, set := bits c 23 4, handover := c.testBit 27, waitMs := bits c 28 16, doneEv := bits c 44 4, subst := bits c 48 16 }

/-- CTX_ENT.STATE of a context of the function, for a completion (R427). -/
def State.stateCode (m : State) (fn id : Nat) : Nat :=
  if (m.ctx id).fn = fn then m.ctxWord 0 id 0 % 8 else 0

/-- The completion of a command that decides its outcome when taken; SILENT suppresses an OK (R418). -/
def State.cmdDone (m : State) (fn q : Nat) (h : QData) (status : Nat) (res : List Nat) : State :=
  if hdrSilent h && status == 0 then m
  else m.complete fn q (hdrRq h) (completionPacket (hdrOp h) q (hdrTag h) status 0 (m.r (.q fn) (.cqTaken q)) m.pace res)

/-- A context command with its completion; the TAG of an outstanding CAL_REQ or DMA command makes it BAD_PARAM (R423). -/
def State.ctxCmd (m : State) (fn q : Nat) (h : QData) (a b : Nat) : State :=
  let id := bits a 0 12
  let m := if m.tagBusy fn (hdrTag h) then m.answer fn 9 else match hdrOp h with
    | 0x01 => m.ctxOpenOp fn (ctxParamsOf a b)
    | 0x02 => m.ctxStartOp fn id (bits a 16 4)
    | 0x03 => m.ctxAbortOp fn id
    | 0x04 => m.ctxCloseOp fn id
    | _ => m.ctxPrioOp fn id (bits a 16 2)
  let st := (m.fn fn).status
  let res := if hdrOp h = 1 then (if st = 0 then (m.fn fn).result else 0) else id + 2 ^ 16 * m.stateCode fn id
  m.cmdDone fn q h st [res]

/-- Every command taken earlier from queue `q` has its completion written (R423). -/
def State.queueQuiet (m : State) (fn q : Nat) : Bool :=
  (m.cq fn q).blocked.isEmpty && !(m.cals.any fun c => !c.ended && c.fn == fn && c.cmd.any fun k => k.1 == q) &&
    !(m.dmas.any fun d => d.fn == fn && d.q == q)

/-- A command waits at the head of its queue (R423): behind a completion not written, a FENCE until the queue is quiet, a DMA
command while 16 are outstanding. -/
def State.headWaits (m : State) (fn q : Nat) (h : QData) : Bool :=
  !(m.cq fn q).blocked.isEmpty || (hdrOp h == 0 && !m.queueQuiet fn q) || ((hdrOp h == 0x20 || hdrOp h == 0x21) && m.dmaFull fn)

/-- The command with header `h` and parameter words is executed; TAKEN has counted it. A duplicate TAG is BAD_PARAM (R423). -/
def State.cmdRun (m : State) (fn q : Nat) (h : QData) (ps : List Nat) : State :=
  let p (i : Nat) : Nat := ps.getD i 0
  match hdrOp h with
  | 0x00 => m.cmdDone fn q h (if m.tagBusy fn (hdrTag h) then 9 else 0) []
  | 0x10 => m.calReqOp fn q (hdrTag h) (hdrRq h) (hdrSilent h) (calParamsOf (p 0) (p 1) (p 2))
  | 0x11 =>
    let r := if m.tagBusy fn (hdrTag h) then (m, 9) else m.calAbortOp fn (bits (p 0) 0 16)
    r.1.cmdDone fn q h r.2 []
  | 0x20 => m.dmaOp fn q (hdrTag h) (hdrRq h) (hdrSilent h) false (p 0) (p 1) (p 2)
  | 0x21 => m.dmaOp fn q (hdrTag h) (hdrRq h) (hdrSilent h) true (p 0) (p 1) (p 2)
  | 0x22 =>
    let r := if m.tagBusy fn (hdrTag h) then (m, 9) else m.dmaAbortOp fn (bits (p 0) 0 16)
    r.1.cmdDone fn q h r.2 []
  | _ => m.ctxCmd fn q h (p 0) (p 1)

/-- The words of queue `q` go through the next end mark, those to come included (R418). -/
def State.dropNext (m : State) (fn q : Nat) : State :=
  match splitCmd (m.cq fn q).words with
  | some (_, rest) => m.setWords fn q rest
  | none => let m := m.setWords fn q []; m.setCq fn q { m.cq fn q with skip := true }

/-- The head command `ws` has left the queue: it is discarded, or taken (R418; the checks in the model's order, log entry 13). Where
its end mark came before word LEN the words through the next end mark go too. -/
def State.cmdTake (m : State) (fn q : Nat) (ws : List QWord) : State :=
  let hw := ws.headD ⟨0, true, false, false⟩
  let h := hw.data
  if ws.any QWord.bad then (m.flag (.q fn) (.cqPoison q)).discard fn q hw 18 0
  else match opcodeForm (hdrOp h) with
    | none => m.discard fn q hw 16 0
    | some masks =>
      if !framed ws masks then
        let m := (m.flag (.q fn) (.cqFrame q)).discard fn q hw 17 ws.length
        if ws.length < hdrLen h then m.dropNext fn q else m
      else if m.r (.q fn) (.rqEn (hdrRq h)) = 0 then (m.inc (.q fn) (.cqDiscard q)).flag (.q fn) (.cqNoRq q)
      else (m.taken fn q).cmdRun fn q h ((ws.drop 1).map fun w => w.data.toNat)

/-- Queue `q` has a command at its head that does not wait. -/
def State.cmdReady (m : State) (fn q : Nat) : Bool :=
  (splitCmd (m.cq fn q).words).any fun (ws, _) => !m.headWaits fn q (ws.headD ⟨0, true, false, false⟩).data

/-- The queues of a function are served in round-robin, one command at a time (R423): it is the turn of queue `q`. -/
def State.cmdTurn (m : State) (fn q : Nat) : Bool :=
  ((List.range 8).map fun i => ((m.fn fn).qLast + 1 + i) % 8).find? (fun q => m.cmdReady fn q) == some q

/-- COMMAND_TAKE: the head command of queue `q`, on its turn. -/
def State.commandTakeOp (m : State) (fn q : Nat) : State :=
  match splitCmd (m.cq fn q).words with
  | some (ws, rest) =>
    if !m.cmdTurn fn q then m
    else (((m.setFn fn { m.fn fn with qLast := q }).setWords fn q rest).cmdTake fn q ws).unstall fn q
  | none => m

def execCommandTake (fn q : Nat) (m : State) : Out := onlyIf (m.cmdOk fn && decide (q < 8)) m (m.commandTakeOp fn q)

/-- FENCE with its completion, once the queue is quiet; a duplicate TAG is BAD_PARAM (R423). -/
def State.fenceOp (m : State) (fn q tag rq : Nat) : State :=
  if m.queueQuiet fn q then
    let m := m.taken fn q
    let st := if m.tagBusy fn tag then 9 else 0
    (m.complete fn q rq (completionPacket 0 q tag st 0 (m.r (.q fn) (.cqTaken q)) m.pace [])).answer fn st
  else m

def execFence (fn q tag rq : Nat) (m : State) : Out := onlyIf (m.cmdOk fn) m (m.fenceOp fn q tag rq)

/-! Result queues (R428 to R430). -/

/-- A 64-bit value of two registers. -/
def State.pair (m : State) (p : Page) (lo hi : Fld) : Nat := m.r p lo + 2 ^ 32 * m.r p hi

/-- The words in result queue `r`: TAIL less HEAD. -/
def State.ringUsed (m : State) (fn r : Nat) : Nat :=
  (m.r (.q fn) (.rqTail r) + 2 ^ 32 - m.r (.q fn) (.rqHead r)) % 2 ^ 32

/-- FULL: fewer than 4 words are free (R413). -/
def State.showFull (m : State) (fn r : Nat) : State := m.w (.q fn) (.rqFull r) (bit (decide (8192 < m.ringUsed fn r + 4)))

/-- The queue sends its message (R430). -/
def State.ringSignal (m : State) (fn r : Nat) : State :=
  (m.setRq fn r { m.rq fn r with unsig := 0 }).message fn (m.r (.q fn) (.rqVec r))

/-- The tag byte of queue word `w` with data `d`, which the device found corrupt where `bad` (R428). -/
def tagByte (w d : Nat) (last bad : Bool) : Byte :=
  BitVec.ofNat 8 (bit last + 2 * parityOf d + 4 * bit bad + 128 * bit (w / 8192 % 2 == 0))

/-- The four data words of a packet. -/
def packetData (p : Packet) : List Nat := (List.range 4).map fun i => (p.getD (2 * i) 0).toNat + 2 ^ 32 * (p.getD (2 * i + 1) 0).toNat

/-- A packet is written into ring `r` (R428): data words, tags, the tail write-back, and the message of R430. Which words the
device finds corrupt is free (log entry 12). -/
def State.ringPut (m : State) (fn r : Nat) (p : Packet) : State :=
  let pg := Page.q fn
  let tail := m.r pg (.rqTail r)
  let base := m.pair pg (.rqBaseLo r) (.rqBaseHi r)
  let tbase := m.pair pg (.rqTbaseLo r) (.rqTbaseHi r)
  let ds := packetData p
  let mem := ds.zipIdx.foldl (fun h (d, i) => memStore h (base + (tail + i) % 8192 * 8) (leBytes d 8)) m.hostMem
  let bad := fun i => Config.badWord m.freeCtr i
  let mem := ds.zipIdx.foldl (fun h (d, i) => memStore h (tbase + (tail + i) % 8192) [tagByte (tail + i) d (i == 3) (bad i)]) mem
  let new := (tail + 4) % 2 ^ 32
  let mem := if m.r pg (.rqWbEn r) = 1 then memStore mem (m.pair pg (.rqWbLo r) (.rqWbHi r)) (leBytes new 8) else mem
  let m := ((({ m.drawn with hostMem := mem } : State).w pg (.rqTail r) new).inc pg (.rqPkts r)).incBy pg (.rqPoison r)
    ((List.range 4).filter bad).length
  let q := m.rq fn r
  let m := (m.showFull fn r).setRq fn r { q with unsig := q.unsig + 1, first := if q.unsig = 0 then m.pace else q.first }
  if max 1 (m.r pg (.rqModCnt r)) ≤ q.unsig + 1 then m.ringSignal fn r else m

/-- A packet can leave for ring `r`: the function may issue DMA and four words are free, or the queue is disabled and drops it. -/
def State.ringTakes (m : State) (fn r : Nat) : Bool :=
  m.r (.q fn) (.rqEn r) == 0 || (m.dmaRuns fn && decide (m.ringUsed fn r + 4 ≤ 8192))

/-- A packet leaves for ring `r`; a disabled queue discards it, and its producer sees it as written (R429). -/
def State.ringSend (m : State) (fn r : Nat) (p : Packet) : State := if m.r (.q fn) (.rqEn r) = 0 then m else m.ringPut fn r p

/-- RESULT_PACKET: the oldest packet of context `id` is written, and its engine has room for what it owes (R145, R154 to R156). -/
def State.packetOp (m : State) (id : Nat) : State :=
  let c := m.ctx id
  match c.pkts with
  | (key, p) :: l =>
    if m.cmdOk c.fn && m.ringTakes c.fn c.par.rq then ((m.setCtx id { c with pkts := l }).payOwed key).ringSend c.fn c.par.rq p else m
  | [] => m

def execResultPacket (id : Nat) (m : State) : Out := done (m.packetOp id)

/-- The first completion of command queue `q` for ring `r` leaves the queue. -/
def takeFor (r : Nat) : List (Nat × Packet) → Option (Packet × List (Nat × Packet))
  | [] => none
  | (k, p) :: l => if k = r then some (p, l) else (takeFor r l).map fun (x, l') => (x, (k, p) :: l')

/-- The completion that ring `r` takes next: of the lowest queue that has one. -/
def State.nextCompletion (m : State) (fn r : Nat) : Option (Packet × Nat × List (Nat × Packet)) :=
  (List.range 8).findSome? fun q => (takeFor r (m.cq fn q).blocked).map fun (p, l) => (p, q, l)

/-- RESULT_WRITE: a completion, or a packet of a closed context, is written into ring `r`. -/
def State.resultWriteOp (m : State) (fn r : Nat) : State :=
  if !(m.cmdOk fn && m.ringTakes fn r) then m
  else
    let w := m.rq fn r
    match w.waiting with
    | (key, p) :: l => ((m.setRq fn r { w with waiting := l }).payOwed key).ringSend fn r p
    | [] => match m.nextCompletion fn r with
      | some (p, q, l) => (m.setCq fn q { m.cq fn q with blocked := l }).ringSend fn r p
      | none => m

def execResultWrite (fn r : Nat) (m : State) : Out := onlyIf (decide (fn < 17 ∧ r < 16)) m (m.resultWriteOp fn r)

/-- A doorbell (R429): dropped while the queue is disabled, ignored behind HEAD or beyond TAIL. -/
def State.doorbellOp (m : State) (fn r v : Nat) : State :=
  let p := Page.q fn
  if m.r p (.rqEn r) = 0 then m
  else if (v + 2 ^ 32 - m.r p (.rqHead r)) % 2 ^ 32 ≤ m.ringUsed fn r then (m.w p (.rqHead r) v).showFull fn r
  else m.flag p (.rqBadHead r)

def execResultDoorbell (fn r v : Nat) (m : State) : Out :=
  byHost (.resultDoorbell fn r v) fn (m.winOk fn && decide (r < 16)) m (m.doorbellOp fn r v)

/-- MODERATION_TIMER: MOD.US µs after the first packet not yet signalled (R430). -/
def State.moderationOp (m : State) (fn r : Nat) : State :=
  let q := m.rq fn r
  let us := m.r (.q fn) (.rqModUs r)
  if q.unsig = 0 ∨ us = 0 then m else (m.due (q.first + us * 800)).ringSignal fn r

def execModerationTimer (fn r : Nat) (m : State) : Out := onlyIf (decide (fn < 17 ∧ r < 16)) m (m.moderationOp fn r)

/-- Q_RQr_CTL.EN changes (R413, R429): set, TAIL and HEAD are zero; cleared, the packets not yet written are discarded. -/
def State.ringEnable (m : State) (fn r : Nat) (on : Bool) : State :=
  let p := Page.q fn
  if on then (m.ws p [(.rqTail r, 0), (.rqHead r, 0), (.rqFull r, 0)]).setRq fn r {}
  else
    let m := m.setRq fn r {}
    let m := (List.range 8).foldl (fun m q =>
      m.setCq fn q { m.cq fn q with blocked := (m.cq fn q).blocked.filter fun b => b.1 != r }) m
    { m with ctxs := m.ctxs.map fun (id, c) => (id, if c.fn == fn && c.par.rq == r then { c with pkts := [], owed := [] } else c) }

/-! What stops a function's accesses and its DMA (R406, R431). -/

/-- Configuration Requests reach the function. -/
def State.cfgOk (m : State) (fn : Nat) : Bool := m.linked fn && !m.waits && (m.fn fn).flr.isNone

/-- The effect of configuration write `i` of function `fn`, which waits behind a stalled write as any access does (R420). -/
def byConfig (i : Instr) (fn : Nat) (m m' : State) : Out :=
  .next (if m.linked fn && m.waits then m.hold i else if m.cfgOk fn then m' else m)

/-- The function is put into D3hot, or back into D0 with its state intact: its pending messages then go out. -/
def execPowerStateChange (fn : Nat) (d3 : Bool) (m : State) : Out :=
  byConfig (.powerStateChange fn d3) fn m ((m.setFn fn { m.fn fn with d3 := d3 }).sendPending fn)

/-- Bus Master Enable is written. The table has no row for the MSI-X control word: the host enables MSI-X, with no function mask,
when it first sets Bus Master Enable (DESIGN CHOICE, log entry 12). -/
def execBusMasterEnable (fn : Nat) (en : Bool) (m : State) : Out :=
  byConfig (.busMasterEnable fn en) fn m
    (((m.setFn fn { m.fn fn with bme := en }).setMsi fn { m.msi fn with en := (m.msi fn).en || en }).sendPending fn)

/-- A word of the MSI-X table is written (R410, R414): unmasking a vector sends what is pending on it. -/
def State.msixWrite (m : State) (fn v k : Nat) (w : Word) : State :=
  if m.r (.q fn) .qNvec ≤ v then m
  else
    let x := if k = 0 then w.toNat / 4 * 4 else if k = 3 then w.toNat % 2 else w.toNat
    (m.setMsi fn { m.msi fn with table := tabSet (m.msi fn).table (v * 4 + k) x }).sendPending fn

end Sys2Proof.Machine
end

