-- ==== Sys2Proof/Machine/SiteReset.lean ====
section
/-! DEFINITION. The site reset (R434 to R438): what an FLR ends at once, and what returns to its reset state when the site's lanes are
DISCONNECTED. -/

namespace Sys2Proof.Machine

/-- The lanes that site `fn` owns, as tile and slot (R26). -/
def State.siteLanes (m : State) (fn : Nat) : List (Nat × Nat) :=
  (List.range 16).flatMap fun t => ((List.range 9).filter fun s => m.laneOwner t s == fn).map fun s => (t, s)

/-- The home tiles of site `fn`. -/
def State.homeTiles (m : State) (fn : Nat) : List Nat := (List.range 16).filter fun t => m.home t == fn

/-- The context runs of the site end without packets (R161, R435); a run's reason the spec does not give is free (log entry 20).
-/
def State.flrRuns (m : State) (fn e : Nat) : State :=
  let ids := (m.ctxs.filter fun (_, c) => c.fn == fn && c.st.live).map (·.1)
  let m := ids.foldl (fun m id =>
    (m.abortRun id 10 0 e).drawn.modCtx id fun c => { c with reason := Config.freeTick m.freeCtr % 256 }) m
  { m with ctxs := m.ctxs.map fun (id, c) => (id, if c.fn == fn then { c with pkts := [], owed := [] } else c) }

/-- Sequences and acquisitions of the home tiles, calibration runs and Archive DMA end (R435). -/
def State.flrOps (m : State) (fn e : Nat) : State :=
  let m := (m.homeTiles fn).foldl (fun m t =>
    let m := if m.seqLive t then m.abortSeq t 10 0 e else m
    if m.acqLive t then m.abortAcq t 4 e else m) m
  let m := (m.cals.filter fun c => c.fn == fn && !c.ended).foldl (fun m c => m.abortCal c) m
  let m := (m.dmas.filter fun d => d.fn == fn).foldl (fun m d => m.dmaUndef d) m
  { m with dmas := m.dmas.filter fun d => d.fn != fn }

/-- A lane of the site ends a Curator hold and what runs on it, and disconnects (R435). -/
def State.flrLane (m : State) (e : Nat) (k : Nat × Nat) : State :=
  let (t, s) := k
  if !m.tileOn t then m
  else
    let m := if m.calHold t s then m.calCut t s 10 else m
    (if (m.lane t s).owner = some .curator then m else m.abortOwner t s 4 5 e).discOne t s e .site

/-- Outcomes that are not written yet are discarded (R435). -/
def State.flrDrop (m : State) (fn : Nat) : State :=
  let m := (List.range 8).foldl (fun m q => m.setCq fn q { m.cq fn q with blocked := [], stalled := [] }) m
  (List.range 16).foldl (fun m r => m.setRq fn r {}) m

/-- FLR: T_f is the first tick after it lands; one that lands during the same site's reset, or a reset of the module, is absorbed
(R387, R438). -/
def State.flrOp (m : State) (fn : Nat) : State :=
  if fn = 0 ∨ 16 < fn ∨ m.cur.rst.isSome ∨ !m.cfgOk fn then m
  else
    let e := m.pace + 1
    let m := m.setFn fn { m.fn fn with flr := some e }
    ((((m.flrRuns fn e).flrOps fn e).flrDrop fn)) |> fun m => (m.siteLanes fn).foldl (fun m k => m.flrLane e k) m

def execFlr (fn : Nat) (m : State) : Out := .next (if m.linked fn && m.waits then m.hold (.flr fn) else m.flrOp fn)

/-- Every lane of the site is DISCONNECTED. -/
def State.siteOpen (m : State) (fn : Nat) : Bool :=
  (m.siteLanes fn).all fun (t, s) => !m.tileOn t || (m.sw t s == .disconnected && !m.underXfer t s)

/-- A page returns to its reset values but for the fields `keep`. -/
def State.resetKeep (m : State) (p : Page) (keep : List Fld) (skip : Option Nat) : State :=
  let old := keep.map fun f => (f, m.r p f)
  (m.resetPage p skip).ws p old

/-- The fields of a tile page that a site reset leaves: TILE_BPROF, the gangs of other sites' lanes, and what shows the thermal
state, the substitute, the calibration and the microcode (R436, R437; log entry 14). -/
def State.tileKeep (m : State) (fn t : Nat) : List Fld :=
  [.tileBprofVfs, .tileBprofIfs, .tileBprofCompMin, .tileTfold, .tileTemp, .tileSubstState, .tileSubstSlot, .tileSubstQdepth,
   .tileSubstRetired, .tileExtrapolated, .tileAutoT, .tileUcodeVer] ++
  ((List.range 4).filter fun g => m.laneOwner t (m.r (.tile t) (.tileGangLeader g)) != fn).flatMap fun g =>
    [.tileGangMembers g, .tileGangLeader g]

/-- The local baton of a home tile (R436): its route fields are reloaded from the board profile, its counters are zeroed, and its
flags and captures stay. -/
def State.flrBat (m : State) (t : Nat) : State :=
  let fs := ((Page.bat t).blockFields 0).filter fun f => routeReg (.bat t) f.off || f.cls == .cnt
  (fs.foldl (fun m f => m.rstFld (.bat t) f) m).loadProfile (.bat t)

/-- A home tile of the site (R436): tile page, sequencer, acquisition unit and local baton; the booster port is unbound and BEN
released. -/
def State.flrTile (m : State) (fn t : Nat) : State :=
  if !m.tileOn t then m
  else
    let sk := some fn
    let m := m.resetKeep (.tile t) (m.tileKeep fn t) sk
    let m := (List.range 9).foldl (fun m s => if (m.lane t s).ben then m.modLane t s fun d => { d with ben := false } else m) m
    let m := m.resetKeep (.seq t) [.seqOutcome, .seqReason, .seqStartRefuse, .seqRefuseCode, .seqBadIndex] sk
    let m := m.resetKeep (.acq t) [.acqOutcome, .acqReason, .acqArmRefuse, .acqRecords] sk
    ({ m with seqs := tabDel m.seqs t, acqs := tabDel m.acqs t, segTab := m.segTab.filter (fun e => e.1 / 32768 != t) } : State).flrBat t

/-- A lane of the site: its page, and a gang that holds it (R436). -/
def State.flrLaneReset (m : State) (fn e : Nat) (k : Nat × Nat) : State :=
  let (t, s) := k
  if !m.tileOn t then m
  else
    let m := match m.gangOf t s with
      | some g => m.ws (.tile t) [(.tileGangMembers g, 0), (.tileGangLeader g, 0)]
      | none => m
    m.resetLanePage t s e (some fn)

/-- The trunk and Walul channels of the site (R436): fields reloaded from the profile, flags zeroed. -/
def State.flrTrunk (m : State) (fn : Nat) : State :=
  let own := (List.range 16).filter fun k => m.ownsWl fn k
  let fs := own.flatMap fun k => [Fld.wlRxCh k, .wlRxEn k, .wlTxCh k, .wlTxEn k]
  let m := fs.foldl (fun m f => m.rstFld .trk f) m
  let m := ((m.profileOf .trk).filter fun c => fs.contains c.fld).foldl (fun m c => m.w .trk c.fld c.val) m
  let m := (List.range 4).foldl (fun m i =>
    let v := m.r .trk (.trkSeen i)
    m.w .trk (.trkSeen i) (v - (v &&& m.r .site (.siteTrk fn i)))) m
  if m.ownsTrk fn (m.r .trk .trkLoopCh) then m.ws .trk [(.trkLoop, 0), (.trkLoopCh, 0), (.trkLoopWl, 0)] else m

/-- Contexts, copies of registers, queues and the function's configuration (R436): MSI-X disabled, every entry masked. -/
def State.flrFunction (m : State) (fn : Nat) : State :=
  let m := m.rstPage (.q fn)
  let m : State := { m with
    ctxs := m.ctxs.filter (fun (_, c) => c.fn != fn), regs := m.regs.filter (fun c => c.fld.fn != fn),
    cqs := m.cqs.filter (fun e => e.1 / 8 != fn), rqs := m.rqs.filter (fun e => e.1 / 16 != fn), 
    fns := tabSet m.fns fn { aer := (m.fn fn).aer }, msix := tabSet m.msix fn (m.msi fn).off }
  m.ws (.q fn) [(.qNvec, min 128 (m.r .site (.siteNvec fn))), (.qCompat, m.r .site (.siteCompat fn))]

/-- FLR_COMPLETE. -/
def State.flrDoneOp (m : State) (fn : Nat) : State :=
  match (m.fn fn).flr with
  | some e =>
    if !m.siteOpen fn then m
    else
      let z := max e m.pace
      let m := (m.siteLanes fn).foldl (fun m k => m.flrLaneReset fn z k) (m.due e)
      let m := (m.homeTiles fn).foldl (fun m t => m.flrTile fn t) m
      let m := (m.flrTrunk fn).arcClear (m.r .site (.siteArcBase fn)) (m.r .site (.siteArcPages fn))
      m.flrFunction fn
  | none => m

def execFlrComplete (fn : Nat) (m : State) : Out := done (m.flrDoneOp fn)

end Sys2Proof.Machine
end

