-- ==== Sys2Proof/Machine/Mailbox.lean ====
section
/-! DEFINITION. The mailbox (R453 to R458) and its items (R485 to R487). Each page holds a copy of the mailbox registers per
function; a snapshot and a commit are in progress while BUSY reads 1, and MBX_CMD.OP tells which. -/

namespace Sys2Proof.Machine

/-! Layouts of wide values (R455). -/

/-- A timestamp: NO_REFIN shows where REFIN was missing at the stamp or is missing now (R279; log entry 31). -/
def State.stampWords (m : State) (st : Stamp) : List Nat :=
  [st.tick % 2 ^ 32, st.tick / 2 ^ 32, st.sub % 128 + 128 * bit (st.noRefin || m.r .pace .paceRefinOk == 0)]

/-- A 48-bit or 64-bit value. -/
def wide (v : Nat) : List Nat := [v % 2 ^ 32, v / 2 ^ 32]

/-- A byte list held at `n` bytes. -/
def padTo (n : Nat) (l : List Byte) : List Byte := (l ++ List.replicate n 0).take n

/-- The `k`-th 32-byte window of a byte list, as eight words. -/
def window (bs : List Byte) (k : Nat) : List Nat := (List.range 8).map fun i => leNat ((bs.drop (32 * k + 4 * i)).take 4)

/-- A LANES entry of the power-fail record (R398). -/
def PfLane.bytes (l : PfLane) : List Byte :=
  leBytes l.sw 1 ++ leBytes (l.mode + 16 * l.pers) 1 ++ leBytes (l.vr + 16 * l.ir) 1 ++ leBytes l.owner 1 ++
  leBytes (enc 32 l.level) 4 ++ leBytes l.ctx 2 ++ leBytes l.flags 1 ++ List.replicate 5 0

/-- The record's bytes 0 to 4,091 (R398). -/
def PfRec.body (r : PfRec) : List Byte :=
  leBytes 1 1 ++ leBytes r.cause 1 ++ leBytes r.flags 1 ++ leBytes r.index 1 ++ leBytes r.boot 4 ++ leBytes r.decl 8 ++
  leBytes (r.safe.getD 0) 8 ++ leBytes r.est 4 ++ leBytes r.allow 4 ++ padTo 64 (r.trace.map fun v => leBytes v 2).flatten ++
  padTo 32 (r.temps.map fun v => leBytes (enc 16 v) 2).flatten ++ leBytes r.domains 4 ++ List.replicate 124 0 ++
  padTo 2560 (r.lanes.map PfLane.bytes).flatten ++
  padTo 1024 (r.ops.map fun (k, t, id, site) =>
    leBytes k 1 ++ leBytes t 1 ++ leBytes id 2 ++ leBytes site 1 ++ List.replicate 3 0).flatten ++ List.replicate 252 0

/-- The record with its CRC (R398; log entry 9). -/
def PfRec.bytes (r : PfRec) : List Byte := r.body ++ leBytes (Config.crc32 r.body).toNat 4

/-! Items (R485). -/

/-- The item is known on the page, fitted, and visible to the function (R457); BAT_TRIG_TS are PF0's (R297). -/
def State.itemHere (m : State) (fn : Nat) (p : Page) (item : Nat) : Bool :=
  match p with
  | .dev => fn == 0 && (item == 0x0101 || (item == 0x050A && m.r .dev .devStatBootFail == 1))
  | .pace => item == 0x0201 || item == 0x0202
  | .pwr => item == 0x0301 || item == 0x0302
  | .cat => item == 0x0401 || item == 0x0402 || item == 0x0403
  | .cur => decide (0x0501 ≤ item) && decide (item ≤ 0x050A)
  | .trk => fn == 0 && decide (0x0601 ≤ item) && decide (item ≤ 0x0608)
  | .wl => item == 0x0701 || item == 0x0702
  | .arc => item == 0x0901
  | .tile _ => item == 0x1001
  | .lane _ _ => item == 0x1101 || item == 0x1102 || item == 0x1104 || (item == 0x1103 && m.hasDds)
  | .seq _ => decide (0x1201 ≤ item) && decide (item ≤ 0x1204)
  | .acq _ => item == 0x1301
  | .bat _ => decide (0x1401 ≤ item) && decide (item ≤ 0x1404)
  | .eng _ _ => item == 0x1501
  | .q _ | .site | .ctxHdr _ => false

/-- The item can be committed (R485): the requests and LANE_DDS_FREQ. -/
def itemCommits (item : Nat) : Bool := (decide (0x0501 ≤ item) && decide (item ≤ 0x050A) && item != 0x0504) || item == 0x1103

/-- DEV_FAULT_LOG: entry `k`, the newest first. -/
def State.faultItem (m : State) (k : Nat) : Nat × List Nat :=
  match m.faultLog[k]? with
  | some e => (0, m.stampWords e.ts ++ [e.index % 8 + 2 ^ 8 * (e.tile % 16) + 2 ^ 12 * (e.slot % 16) + 2 ^ 16 * (e.code % 16), enc 32 e.value])
  | none => (5, [])

/-- PWR_LAST_REFUSE (R286). -/
def State.refuseItem (m : State) : List Nat :=
  let r := m.cur.refuse
  [r.fn % 32 + 2 ^ 8 * (r.tile % 16) + 2 ^ 12 * (r.slot % 16) + 2 ^ 16 * (r.limit % 4) + 2 ^ 20 * bit r.dom + 2 ^ 24 * (r.domain % 32),
   r.present % 2 ^ 32, r.requested % 2 ^ 32, r.sum % 2 ^ 32, r.tileSum % 2 ^ 32, r.allow % 2 ^ 32]

/-- PWR_PFAIL_REC: the window that DATA0 selects (R398); of a record that was cut off the words are free (log entry 48). -/
def State.pfailItem (m : State) (sel : Nat) : Nat × List Nat :=
  match m.pfRecs[bits sel 0 3]? with
  | some r =>
    if bits sel 8 16 < 128 then
      (0, if r.cut then (List.range 8).map fun i => Config.cutWord r.boot (8 * bits sel 8 16 + i) % 2 ^ 32
          else window r.bytes (bits sel 8 16))
    else (5, [])
  | none => (5, [])

/-- What WL_ALIGN_LOG records (R357, R362): the links' delays, the residuals, and the count steps with their ticks. -/
def WlDyn.alignLog (x : WlDyn) : List Int :=
  listCode (x.alignDelays.map Int.ofNat) ++ listCode (x.alignResid.map Int.ofNat) ++
    listCode (x.alignSteps.flatMap fun (t, a, b) => [Int.ofNat t, Int.ofNat a, Int.ofNat b])

/-- What WL_LINK_LOG records (R357): the last 32 port events with timestamp, port, old and new state, and cause. -/
def WlDyn.linkLog (x : WlDyn) : List Int :=
  x.log.flatMap fun (ts, n, a, b, c) => [Int.ofNat ts.tick, Int.ofNat ts.sub, (bit ts.noRefin : Int), Int.ofNat n,
      Int.ofNat a, Int.ofNat b, Int.ofNat c]

/-- A window of WL_ALIGN_LOG or WL_LINK_LOG, DATA0 its place in units of 32 bytes (R485); the byte layout of what is recorded is
not given (log entry 30). -/
def State.wlItem (m : State) (item sel : Nat) : List Nat :=
  let code := if item = 0x0701 then m.wl.alignLog else m.wl.linkLog
  (List.range 8).map fun i => Config.itemWord code (8 * sel + i) % 2 ^ 32

/-- CAT_ENTRY (R316): a selection outside its ranges is BAD_SELECT; else the 32 bytes of the entry, or of the tile part, from
the working copy, or from the bank that is not the active one. The entry's byte layout is not given (log entry 30). -/
def State.entryItem (m : State) (d : Nat → Nat) : Nat × List Nat :=
  let t := bits (d 0) 0 4
  let s := bits (d 0) 8 4
  let set := bits (d 0) 16 3
  let b := if d 2 = 0 then m.catalogue else if m.nv.activeIsB then m.nv.bankA else m.nv.bankB
  if (9 < s ∧ s ≠ 15) ∨ d 1 % 32 ≠ 0 ∨ 4096 ≤ d 1 ∨ 1 < d 2 then (5, [])
  else
    let code := if s = 15 then ((List.range 8).map fun k => (tabGet ({} : TilePart) b.parts (partKey t k)).code).flatten
                else (tabGet ({} : SetEntry) b.entries (setKey t s set)).code
    (0, (List.range 8).map fun i => Config.entryWord code (d 1 + 4 * i) % 2 ^ 32)

/-- OFFS_RES of CAT_QUAL (R327): the offset that comes nearest to its limit, in µV or, on a current range, in pA. -/
def offsRes (q : Quality) : Int :=
  ((q.offsPa.zip decadeFs).foldl (fun (b : Int × Nat × Nat) (x, fs) =>
    if b.2.1 * fs < x.natAbs * 10000 * b.2.2 then (x, x.natAbs * 10000, fs) else b) (q.offsUv, q.offsUv.natAbs, 20)).1

/-- CAT_QUAL (R327): the figures of a lane's set entry. -/
def State.qualItem (m : State) (sel : Nat) : Nat × List Nat :=
  let s := bits sel 8 4
  if 9 < s then (5, [])
  else
    let q := (tabGet ({} : SetEntry) m.catalogue.entries (setKey (bits sel 0 4) s (bits sel 16 3))).q
    (0, [enc 32 q.inlAdc, enc 32 q.inlDac, enc 32 q.gainRes, enc 32 (offsRes q), enc 32 q.edgeRes,
         q.sparesDac % 256 + 256 * (q.sparesAdc % 256), q.mon0 % 256 + 256 * (q.mon1 % 256)])

/-- CAT_RUN_STAT (R328): a lane of a run, all ones until it has its outcome. -/
def State.runItem (m : State) (sel : Nat) : Nat × List Nat :=
  let k := bits sel 16 4 * 10 + bits sel 24 4
  match m.cals.reverse.find? fun c => c.id == bits sel 0 16 with
  | some c =>
    if 9 < bits sel 24 4 || !(calAll c.p).contains k then (5, [])
    else match c.outcomes.find? fun e => e.1 == k with
      | some e => (0, [e.2 % 16 + 256 * bit (c.monSkip.contains k)])
      | none => (0, [0xFFFFFFFF])
  | none => (5, [])

/-- SVC_STAT (R345): a ticket's outcome, all ones until it is reached. -/
def State.ticketItem (m : State) (sel : Nat) : Nat × List Nat :=
  match m.cur.svcOut.find? fun e => e.1 == sel % 65536 with
  | some e => (0, [e.2])
  | none => (5, [])

/-- TILE_HO_LOG (R341). -/
def State.hoItem (m : State) (t : Nat) : List Nat :=
  let q := m.subst t
  (q.logSlot % 16 + 16 * bit q.logBack + 2 ^ 8 * (q.logOutcome % 4) + 2 ^ 12 * (q.logReason % 16)) ::
    (m.stampWords q.logH0 ++ m.stampWords q.logEnd)

/-- SEQ_FIRST_FAIL (R193): all zero while no failure is recorded. -/
def State.failItem (m : State) (t : Nat) : List Nat :=
  match (m.seq t).firstFail with
  | some (seg, rep, idx, slots, ts) => [seg % 2 ^ 12 + 2 ^ 16 * (slots % 512), rep, idx] ++ m.stampWords ts
  | none => []

/-- A request item of the Curator mailbox: its last commit's status and what was assigned (R486). -/
def State.requestItem (m : State) (item : Nat) : List Nat :=
  let c := m.cur
  match item with
  | 0x0501 => [c.catReqSt, c.catReqId]
  | 0x0502 => [c.catCmdSt]
  | 0x0503 => [c.svcSt, c.svcId % 65536]
  | 0x0505 => [c.tileSt, 0, c.tileMask]
  | 0x0506 => [c.domSt]
  | 0x0507 => [c.ucStageSt]
  | 0x0508 =>
    let ran := c.ucApplySt == 0 || c.ucApplySt == 12 || c.ucApplySt == 0xFFFFFFFF
    [c.ucApplySt, 0, if ran then c.applyOk else 0, if ran then c.applyTo else 0]
  | 0x0509 => [c.ucCommitSt]
  | _ => [c.fwSt]

/-- What a snapshot of an item that is here returns: RESULT and the data words; `d` gives the selection words (R453, R485). -/
def State.itemRead (m : State) (p : Page) (item : Nat) (d : Nat → Nat) : Nat × List Nat :=
  match p with
  | .dev => if item = 0x0101 then m.faultItem (bits (d 0) 0 8) else (0, m.requestItem item)
  | .pace =>
    (0, if item = 0x0201 then m.stampWords (m.stamp m.pace) else m.stampWords m.cur.refinLoss ++ m.stampWords m.cur.refinLock)
  | .pwr => if item = 0x0301 then (0, m.refuseItem) else m.pfailItem (d 0)
  | .cat => if item = 0x0401 then m.entryItem d else if item = 0x0402 then m.qualItem (d 0) else m.runItem (d 0)
  | .cur => if item = 0x0504 then m.ticketItem (d 0) else (0, m.requestItem item)
  | .trk => (0, m.stampWords (tabGet {} m.cur.trigTs (item - 0x0601)))
  | .wl => (0, m.wlItem item (d 0))
  | .arc =>
    (0, match m.cur.ueLog with | some (pg, off, site, unit) => [pg, off, site % 32 + 256 * (unit % 256)] | none => [])
  | .tile t => (0, m.hoItem t)
  | .lane t s =>
    let l := m.lane t s
    (0, match item with
      | 0x1101 => wide l.complTicks
      | 0x1102 => m.stampWords l.cutTs
      | 0x1103 => wide l.ddsFreq
      | _ => m.stampWords l.tripTs)
  | .seq t =>
    (0, match item with
      | 0x1201 => m.stampWords (m.seq t).jumpTs
      | 0x1202 => m.stampWords (m.seq t).endTs
      | 0x1203 => wide ((m.seq t).slipTotal % 2 ^ 48)
      | _ => m.failItem t)
  | .acq t => (0, m.stampWords (m.acq t).endTs)
  | .bat t =>
    let (ts, hop, pos) := tabGet ({}, 0, 0) m.tscap (t * 4 + (item - 0x1401))
    (0, m.stampWords ts ++ [hop % 16 + 256 * (pos % 64)])
  | .eng t k => (0, wide (tabGet 0 m.engOps (t * 64 + k) % 2 ^ 48))
  | .q _ | .site | .ctxHdr _ => (1, [])

/-- The data words of the mailbox copy of `fn` on page `p`. -/
def State.mbxWord (m : State) (fn : Nat) (p : Page) (n : Nat) : Nat := m.r p (.mbxData fn n)

/-- The mailbox copy reaches an outcome: RESULT and ITEM are loaded and BUSY clears (R453, R454). -/
def State.mbxOutcome (m : State) (fn : Nat) (p : Page) (item res : Nat) : State :=
  m.ws p [(.mbxResult fn, res), (.mbxItem fn, item), (.mbxBusy fn, 0), (.mbxOp fn, 0)]

/-- The snapshot (R453): the data words are loaded and VALID sets; ARC_UE_LOG is cleared by its read (R485). -/
def State.snapOp (m : State) (fn : Nat) (p : Page) : State :=
  let item := m.r p (.mbxSelItem fn)
  let (res, ws) := if m.itemHere fn p item then m.itemRead p item (m.mbxWord fn p) else (1, [])
  let cut := (m.pfRecs[bits (m.mbxWord fn p 0) 0 3]?).any (·.cut)
  let m := if p == .arc && item == 0x0901 then { m with cur := { m.cur with ueLog := none } } else m
  let m := if p == .pwr && item == 0x0302 && res == 0 then m.w .pwr .pwrPfailRecBad (bit cut) else m
  let m := m.ws p ((List.range 8).map fun i => (.mbxData fn i, if res = 0 then ws.getD i 0 else 0))
  (m.mbxOutcome fn p item res).w p (.mbxValid fn) 1

/-! Commits (R454, R486). -/

/-- The parameters of CAT_REQ from the data words. -/
def catParams (d : Nat → Nat) : CalParams :=
  let ls := d 0 + 2 ^ 32 * d 1 + 2 ^ 64 * d 2 + 2 ^ 96 * d 3 + 2 ^ 128 * d 4
  { lanes := (List.range 16).map fun t => bits ls (9 * t) 9, subst := d 5 % 65536, kinds := bits (d 6) 0 5, set := bits (d 6) 8 4,
    handover := bits (d 6) 12 1 == 1, waitMs := d 7 % 65536, doneEv := bits (d 6) 16 4 }

/-- CAT_CMD from the data words. -/
def State.catCmd (m : State) (fn : Nat) (d : Nat → Nat) : State :=
  match bits (d 0) 0 3 with
  | 1 => m.invalidateOp fn (bits (d 1) 4 2) (bits (d 1) 0 3) (bits (d 1) 8 4) (bits (d 1) 12 4)
  | 2 => m.catAbortOp fn (d 1 % 65536)
  | _ => ({ m with cur := { m.cur with catCmdSt := 13 } } : State).answer fn 13

/-- SVC_REQ from the data words. -/
def State.svcCmd (m : State) (fn : Nat) (d : Nat → Nat) : State :=
  let op := bits (d 0) 0 3
  if 1 ≤ op ∧ op ≤ 5 then m.svcAsk fn op (bits (d 0) 8 4) (bits (d 0) 12 4) (d 1) (bits (d 0) 16 4)
  else if op = 6 then m.svcAbortAsk fn (d 2)
  else ({ m with cur := { m.cur with svcSt := 13, svcId := 65536 } } : State).answer fn 13

/-- TILE_SVC from the data words. -/
def State.tileCmd (m : State) (fn : Nat) (d : Nat → Nat) : State :=
  match bits (d 0) 0 3 with
  | 1 => m.tileDownOp fn (bits (d 0) 8 4) false
  | 2 => m.tileUpOp fn (bits (d 0) 8 4)
  | 3 => m.tileDownOp fn (bits (d 0) 8 4) true
  | _ => m.tileRefuse fn 13

/-- DOM_SVC from the data words. -/
def State.domCmd (m : State) (fn : Nat) (d : Nat → Nat) : State :=
  match bits (d 0) 0 3 with
  | 1 => m.archDownOp fn
  | 2 => m.archUpOp fn
  | _ => m.domAnswer fn 13

/-- The 24 image bytes of UCODE_STAGE and FW_STAGE. -/
def imageBytes (d : Nat → Nat) : List Byte := ((List.range 6).map fun i => leBytes (d (i + 2)) 4).flatten

/-- A request item is applied; its status is the function's. -/
def State.applyRequest (m : State) (fn item : Nat) (d : Nat → Nat) (sigOk : Bool) (ver : Nat) : State :=
  match item with
  | 0x0501 => m.catReqOp fn (catParams d)
  | 0x0502 => m.catCmd fn d
  | 0x0503 => m.svcCmd fn d
  | 0x0505 => m.tileCmd fn d
  | 0x0506 => m.domCmd fn d
  | 0x0507 => m.ucodeStageOp fn (d 0) ((d 1).testBit 0) (imageBytes d) sigOk ver
  | 0x0508 => m.ucodeApplyOp fn (d 0) (d 1)
  | 0x0509 => m.ucodeCommitOp fn
  | _ => m.fwStageOp fn (d 0) ((d 1).testBit 0) (imageBytes d) sigOk

/-- A commit of LANE_DDS_FREQ (R56, R89, R98): the refusal, or the new code. -/
def State.ddsCommit (m : State) (t s code : Nat) : State × Nat :=
  if m.follower t s then (m.refuse t s .gangMember, 3)
  else if m.locked t s then (m.refuse t s .locked, 3)
  else if !ddsFreqOk code (m.r (.lane t s) .laneDacDiv) then (m.refuse t s .outOfWindow, 3)
  else (m.modLane t s fun l => { l with ddsFreq := code }, 0)

/-- A committed item is applied, with RESULT (R457). -/
def State.itemApply (m : State) (fn : Nat) (p : Page) (item : Nat) (d : Nat → Nat) (sigOk : Bool) (ver : Nat) : State × Nat :=
  if !m.itemHere fn p item then (m, 1)
  else if !itemCommits item then (m, 2)
  else match p with
    | .lane t s => m.ddsCommit t s (d 0 + 2 ^ 32 * (d 1 % 65536))
    | _ =>
      let m := m.applyRequest fn item d sigOk ver
      (m, if (m.fn fn).status = 0 then 0 else 3)

/-- The commit is decided (R454, R458): RESULT and ITEM are loaded, BUSY clears and DONE sets. -/
def State.commitOp (m : State) (fn : Nat) (p : Page) (sigOk : Bool) (ver : Nat) : State :=
  let item := m.r p (.mbxCmdItem fn)
  let (m, res) := m.itemApply fn p item (m.mbxWord fn p) sigOk ver
  (m.mbxOutcome fn p item res).flag p (.mbxDone fn)

/-! Host writes to the mailbox registers (R453, R454, R456). -/

/-- A mailbox register takes fields and VALID clears, or the write is ignored while BUSY reads 1. -/
def State.mbxStore (m : State) (fn : Nat) (p : Page) (off : Nat) (fs : List (Fld × Nat)) : State :=
  if m.r p (.mbxBusy fn) = 1 then m.ignore fn p off else m.ws p ((.mbxValid fn, 0) :: fs)

/-- MBX_SEL: the write starts the snapshot. -/
def State.mbxSelOp (m : State) (fn : Nat) (p : Page) (item : Nat) : State :=
  m.mbxStore fn p 0x030 [(.mbxSelItem fn, item), (.mbxBusy fn, 1)]

/-- MBX_CMD with OP = COMMIT requests that the item be applied. -/
def State.mbxCommitOp (m : State) (fn : Nat) (p : Page) (item : Nat) : State :=
  m.mbxStore fn p 0x038 [(.mbxCmdItem fn, item), (.mbxBusy fn, 1), (.mbxOp fn, 1)]

/-- A write of word `w` to MBX_CMD: OP codes other than COMMIT have no effect. -/
def State.mbxCmdOp (m : State) (fn : Nat) (p : Page) (w : Word) : State :=
  if wbits w 0 2 = 1 then m.mbxCommitOp fn p (wbits w 16 16) else m.mbxStore fn p 0x038 [(.mbxCmdItem fn, wbits w 16 16)]

/-- MBX_SEL_WRITE, where the access addresses MBX_SEL of a page that takes it. -/
def execMbxSelWrite (a : Acc) (item : Nat) (m : State) : Out :=
  match accTarget a with
  | .reg p off => byHost (.mbxSelWrite a item) a.fn (m.hostAt a.fn p && off == 0x030) m (m.mbxSelOp a.fn p item)
  | _ => done m

/-- MBX_SNAPSHOT: a snapshot is in progress on the page that the access addresses. -/
def execMbxSnapshot (a : Acc) (m : State) : Out :=
  match accTarget a with
  | .reg p _ => onlyIf (m.r p (.mbxBusy a.fn) == 1 && m.r p (.mbxOp a.fn) == 0) m (m.snapOp a.fn p)
  | _ => done m

/-- COMMIT, where the access addresses MBX_CMD of a page that takes it. -/
def execCommit (a : Acc) (item : Nat) (m : State) : Out :=
  match accTarget a with
  | .reg p off => byHost (.commit a item) a.fn (m.hostAt a.fn p && off == 0x038) m (m.mbxCommitOp a.fn p item)
  | _ => done m

/-- MBX_COMMIT_APPLY: a commit is in progress on the page; the verification of an image and its version come with the
command. -/
def execMbxCommitApply (a : Acc) (sigOk : Bool) (ver : Nat) (m : State) : Out :=
  match accTarget a with
  | .reg p _ => onlyIf (m.r p (.mbxBusy a.fn) == 1 && m.r p (.mbxOp a.fn) == 1) m (m.commitOp a.fn p sigOk ver)
  | _ => done m

end Sys2Proof.Machine
end

