-- ==== Sys2Proof/Machine/Registers.lean ====
section
/-! DEFINITION. Host accesses to register space (R439 to R452, R459 to R465): a write to any register, the malformed access,
and PAGE_CTRL. A register whose write is a command of its own is written through the same operation as that command. -/

namespace Sys2Proof.Machine

/-- PAGE_CTRL.EN is written (R446): clearing it aborts a live sequence (R163) or acquisition (R210). That of a lane is refused while its
site's reset runs (R434). -/
def State.pageCtrlOp (m : State) (p : Page) (en : Bool) : State :=
  let on := m.w p .pageEn (bit en)
  match p with
  | .lane t s => if m.flrShut t s then m.refuse t s .locked else on
  | .seq t => if !en && m.seqLive t then on.abortSeq t 1 0 (m.pace + 1) else on
  | .acq t => if !en && m.acqLive t then on.abortAcq t 1 (m.pace + 1) else on
  | _ => on

/-- A write to a header register at `off` below 0x100 (R444). -/
def State.headerWrite (m : State) (fn : Nat) (p : Page) (off : Nat) (w : Word) : State :=
  if off = 0x00C then m.pageCtrlOp p (wbits w 0 1 == 1)
  else if off = 0x030 then m.mbxSelOp fn p (wbits w 0 16)
  else if off = 0x038 then m.mbxCmdOp fn p w
  else if 0x040 ≤ off ∧ off < 0x060 then m.mbxStore fn p off [(.mbxData fn ((off - 0x040) / 4), w.toNat)]
  else signal m (m.classWrite fn p off w) p

/-- A site's write reaches only its mailbox on the device page (R466). -/
def siteDrops (fn : Nat) (p : Page) (off : Nat) : Bool := fn != 0 && p == .dev && !(decide (0x030 ≤ off) && decide (off < 0x060))

/-- The trunk page outside its route registers (R297): a site clears the flags of its own channels only. -/
def State.trkWrite (m : State) (fn off : Nat) (w : Word) : State :=
  if off = 0x1C0 then m.trkFireOp fn (wbits w 0 8)
  else if fn = 0 then m.classWrite fn .trk off w
  else if 0x1C4 ≤ off ∧ off ≤ 0x1D0 then
    m.classWrite fn .trk off (w &&& BitVec.ofNat 32 (m.r .site (.siteTrk fn ((off - 0x1C4) / 4))))
  else if off = 0x1D4 then m.classWrite fn .trk off (if m.ownsTrk fn (m.r .trk .trkLoopCh) then w else w &&& 1)
  else m.classWrite fn .trk off w

/-- The Catalogue page: CAT_REFV outside its window is refused (R309), and so is CAT_AUTO with TDELTA outside 10 to 200 (R330;
log entry 32). -/
def State.catWrite (m : State) (fn off : Nat) (w : Word) : State :=
  let uv := Fld.catRefv.of w
  let td := Fld.catAutoTdelta.of w
  if off = 0x100 ∧ (uv < 4900000 ∨ 5100000 < uv) then m
  else if off = 0x104 ∧ (td < 10 ∨ 200 < td) then m
  else m.classWrite fn .cat off w

/-- Q_CQn_CTL (R413, R422): clearing EN acts as a FLUSH, and so does FLUSH. -/
def State.cqCtl (m : State) (fn q : Nat) (w : Word) : State :=
  let p := Page.q fn
  let en := wbits w 0 1
  let cut := m.r p (.cqEn q) == 1 && en == 0
  let m := m.w p (.cqEn q) en
  if cut || wbits w 1 1 == 1 then m.flushOp fn q else m

/-- Q_RQr_CTL (R413): EN always acts; the other fields only while the queue is disabled, VEC only below NVEC. -/
def State.rqCtl (m : State) (fn r off : Nat) (w : Word) : State :=
  let p := Page.q fn
  let old := m.r p (.rqEn r)
  let en := wbits w 0 1
  let vec := wbits w 8 7
  let vecOk := decide (vec < m.r p .qNvec)
  let m1 := if old = 1 then m else
    let m := m.ws p [(.rqWbEn r, wbits w 1 1), (.rqModCnt r, wbits w 16 8)]
    if vecOk then m.w p (.rqVec r) vec else m
  let m2 := m1.w p (.rqEn r) en
  let m3 := if old ≠ en then m2.ringEnable fn r (en == 1) else m2
  if old = 1 || !vecOk then m3.ignore fn p off else m3

/-- The queue page (R413, R474): the fields of a result queue that a host may write are closed while it is enabled (R448). -/
def State.qWrite (m : State) (fn off : Nat) (w : Word) : State :=
  let p := Page.q fn
  if off = 0x100 then
    if Fld.qEvtVec.of w < m.r p .qNvec then m.classWrite fn p off w
    else (m.w p .qStale (Fld.qStale.of w)).ignore fn p off
  else if 0x200 ≤ off ∧ off < 0x300 ∧ off % 0x20 = 0 then m.cqCtl fn ((off - 0x200) / 0x20) w
  else if 0x400 ≤ off ∧ off < 0x800 then
    let r := (off - 0x400) / 0x40
    let o := off % 0x40
    if o = 0x18 then m.rqCtl fn r off w
    else if [0x00, 0x04, 0x08, 0x0C, 0x10, 0x14, 0x1C, 0x28, 0x2C, 0x30].contains o && m.r p (.rqEn r) == 1 then m.ignore fn p off
    else m.classWrite fn p off w
  else m.classWrite fn p off w

/-- SEQ_CMD and SEQ_JUMP, and the rest of the sequencer page (R164, R178, R207). Commands of one word act in the order of their
bits (log entry 33). -/
def State.seqWrite (m : State) (fn t off : Nat) (w : Word) : State :=
  if off = 0x120 then
    let m := if w.getLsbD 0 then m.seqStartOp t else m
    if w.getLsbD 1 then m.seqAbortHost t else m
  else if off = 0x124 ∧ w.getLsbD 16 then m.seqJumpWrite t (wbits w 0 12)
  else m.classWrite fn (.seq t) off w

/-- ACQ_CMD, and the rest of the acquisition page (R216, R219, R239). -/
def State.acqWrite (m : State) (fn t off : Nat) (w : Word) : State :=
  if off = 0x12C then
    let m := if w.getLsbD 0 then m.acqArmOp t else m
    let m := if w.getLsbD 1 then m.acqSoftTrig t else m
    if w.getLsbD 2 then m.acqAbortHost t else m
  else m.classWrite fn (.acq t) off w

/-- The tile page: TILE_GANG and TILE_BOOST have checks of their own (R87, R92). -/
def State.tileWrite (m : State) (fn t off : Nat) (w : Word) : State :=
  if 0x114 ≤ off ∧ off < 0x124 then m.gangWrite fn t ((off - 0x114) / 4) w
  else if off = 0x124 then m.boostWrite fn t w
  else m.classWrite fn (.tile t) off w

/-- A host write of word `w` to the register at `off` of a present page (R447). -/
def State.regOp (m : State) (fn : Nat) (p : Page) (off : Nat) (w : Word) : State :=
  if siteDrops fn p off || m.absentAt p off then m
  else if off < 0x100 then m.headerWrite fn p off w
  else if routeReg p off then m.routeOp fn p off w
  else match p with
    | .dev => if off = 0x10C then (if wbits w 0 1 = 1 then m.warmOp fn else m) else m.classWrite fn p off w
    | .trk => m.trkWrite fn off w
    | .wl => if off = 0x124 then m.alignWrite fn (wbits w 0 2) else m.classWrite fn p off w
    | .cat => m.catWrite fn off w
    | .q f => m.qWrite f off w
    | .tile t => m.tileWrite fn t off w
    | .lane t s => m.laneWrite fn t s off w
    | .seq t => m.seqWrite fn t off w
    | .acq t => m.acqWrite fn t off w
    | .bat t => if off = 0x2C0 then m.batFireOp t (wbits w 0 8) else m.classWrite fn p off w
    | _ => m.classWrite fn p off w

/-- A write of a word of the segment table (R163, R463). -/
def State.segOp (m : State) (fn t word : Nat) (w : Word) : State :=
  if m.cfgOpen (.seq t) then { m with segTab := tabSet m.segTab (t * 32768 + word) w }
  else m.ignore fn (.seq t) (word * 4 % 0x1000)

/-- REGISTER_WRITE: an aligned doubleword write; a window of the context table and the Pending Bit Array are read only, and a
doubleword is no whole word of a command queue window (R416). -/
def execRegisterWrite (a : Acc) (w : Word) (m : State) : Out :=
  if a.off % 4 ≠ 0 then done m
  else match accTarget a with
    | .reg p off => byHost (.registerWrite a w) a.fn (m.hostAt a.fn p) m (m.regOp a.fn p off w)
    | .segWord t word => byHost (.registerWrite a w) a.fn (m.hostAt a.fn (.seq t)) m (m.segOp a.fn t word w)
    | .queueWin q => byHost (.registerWrite a w) a.fn (m.winOk a.fn) m (m.cqWriteOp a.fn q (a.off % 0x10000) [] false false)
    | .doorbell r => byHost (.registerWrite a w) a.fn (m.winOk a.fn) m (m.doorbellOp a.fn r w.toNat)
    | .msixEnt v k => byHost (.registerWrite a w) a.fn (m.winOk a.fn) m (m.msixWrite a.fn v k w)
    | .ctxWord _ _ | .msixPba _ | .none => done m

/-- The page and offset at which a malformed access is recorded (R439, R463). -/
def badTarget (a : Acc) : Option (Page × Nat) :=
  match accTarget a with
  | .reg p off => some (p, off)
  | .segWord t _ => some (.seq t, a.off % 0x1000)
  | .ctxWord t _ => some (.ctxHdr t, a.off % 0x1000)
  | .queueWin _ | .doorbell _ | .msixEnt _ _ | .msixPba _ | .none => none

/-- MALFORMED_ACCESS (R439, R441). -/
def execMalformedAccess (a : Acc) (isWrite : Bool) (m : State) : Out :=
  match badTarget a with
  | some (p, off) => byHost (.malformedAccess a isWrite) a.fn (m.hostAt a.fn p && !m.absentAt p (off / 4 * 4)) m (m.malformed a.fn p off isWrite)
  | none => done m

/-- PAGE_CTRL_WRITE, where the access addresses PAGE_CTRL of a page that takes it. -/
def execPageCtrlWrite (a : Acc) (en : Bool) (m : State) : Out :=
  match accTarget a with
  | .reg p off => byHost (.pageCtrlWrite a en) a.fn (m.hostAt a.fn p && off == 0x00C && !siteDrops a.fn p off) m (m.pageCtrlOp p en)
  | _ => done m

end Sys2Proof.Machine
end

