-- ==== Sys2Proof/Machine/Dispatch.lean ====
section
/-! DEFINITION. The dispatch: one arm per command, each a direct call of its meaning. -/

namespace Sys2Proof.Machine

/-- The effect of a command on everything but the queue of commands. -/
def exec (i : Instr) (s : State) : Host.Outcome State Fault Refusal :=
  match i with
  | .registerWrite a w => Sys2Proof.Machine.execRegisterWrite a w s
  | .malformedAccess a isWrite => Sys2Proof.Machine.execMalformedAccess a isWrite s
  | .pageCtrlWrite a en => Sys2Proof.Machine.execPageCtrlWrite a en s
  | .mbxSelWrite a item => Sys2Proof.Machine.execMbxSelWrite a item s
  | .mbxSnapshot a => Sys2Proof.Machine.execMbxSnapshot a s
  | .commit a item => Sys2Proof.Machine.execCommit a item s
  | .mbxCommitApply a sigOk ver => Sys2Proof.Machine.execMbxCommitApply a sigOk ver s
  | .connect fn t sl => Sys2Proof.Machine.execConnect fn t sl s
  | .disconnect fn t sl => Sys2Proof.Machine.execDisconnect fn t sl s
  | .laneForceWrite fn t sl w => Sys2Proof.Machine.execLaneForceWrite fn t sl w s
  | .latchTick t sl => Sys2Proof.Machine.execLatchTick t sl s
  | .dacSample t sl => Sys2Proof.Machine.execDacSample t sl s
  | .loadStrobe g hop => Sys2Proof.Machine.execLoadStrobe g hop s
  | .adcSample t sl x => Sys2Proof.Machine.execAdcSample t sl x s
  | .apertureEnd t sl => Sys2Proof.Machine.execApertureEnd t sl s
  | .oldElementOpen t sl => Sys2Proof.Machine.execOldElementOpen t sl s
  | .rangingWindowEnd t sl => Sys2Proof.Machine.execRangingWindowEnd t sl s
  | .railMoveDown t sl => Sys2Proof.Machine.execRailMoveDown t sl s
  | .openLoad t sl => Sys2Proof.Machine.execOpenLoad t sl s
  | .complLong t sl => Sys2Proof.Machine.execComplLong t sl s
  | .pulseStartCmd fn t sl => Sys2Proof.Machine.execPulseStartCmd fn t sl s
  | .pulseStopCmd fn t sl => Sys2Proof.Machine.execPulseStopCmd fn t sl s
  | .lanePulseGo t sl hop => Sys2Proof.Machine.execLanePulseGo t sl hop s
  | .pulseStart t sl => Sys2Proof.Machine.execPulseStart t sl s
  | .pulseEnd t sl => Sys2Proof.Machine.execPulseEnd t sl s
  | .pulseMeas t sl => Sys2Proof.Machine.execPulseMeas t sl s
  | .preconnectEnd t sl => Sys2Proof.Machine.execPreconnectEnd t sl s
  | .forceSwitchClose t sl => Sys2Proof.Machine.execForceSwitchClose t sl s
  | .swap t sl => Sys2Proof.Machine.execSwap t sl s
  | .connected t sl => Sys2Proof.Machine.execConnected t sl s
  | .disconnectRampStep t sl => Sys2Proof.Machine.execDisconnectRampStep t sl s
  | .disconnectSwitchOpen t sl => Sys2Proof.Machine.execDisconnectSwitchOpen t sl s
  | .lanePersWrite fn t sl w => Sys2Proof.Machine.execLanePersWrite fn t sl w s
  | .ddsZeroCrossExit t sl => Sys2Proof.Machine.execDdsZeroCrossExit t sl s
  | .toPinStep t sl => Sys2Proof.Machine.execToPinStep t sl s
  | .toSmuStep t sl => Sys2Proof.Machine.execToSmuStep t sl s
  | .tileGangWrite fn t g w => Sys2Proof.Machine.execTileGangWrite fn t g w s
  | .tileBoostWrite fn t w => Sys2Proof.Machine.execTileBoostWrite fn t w s
  | .boostFault t lowNs => Sys2Proof.Machine.execBoostFault t lowNs s
  | .boostSenseOverdrive t bsvMv bsiMv => Sys2Proof.Machine.execBoostSenseOverdrive t bsvMv bsiMv s
  | .laneRst fn t sl => Sys2Proof.Machine.execLaneRst fn t sl s
  | .trip t sl n x sub => Sys2Proof.Machine.execTrip t sl n x sub s
  | .tripClampRelease t sl inp => Sys2Proof.Machine.execTripClampRelease t sl inp s
  | .tripClear fn t sl n => Sys2Proof.Machine.execTripClear fn t sl n s
  | .wmFilteredChange t sl n => Sys2Proof.Machine.execWmFilteredChange t sl n s
  | .wmchkRun fn t sl n => Sys2Proof.Machine.execWmchkRun fn t sl n s
  | .wmchkDone t sl r => Sys2Proof.Machine.execWmchkDone t sl r s
  | .foldback t sl => Sys2Proof.Machine.execFoldback t sl s
  | .foldbackRestore t sl => Sys2Proof.Machine.execFoldbackRestore t sl s
  | .fclr fn t sl => Sys2Proof.Machine.execFclr fn t sl s
  | .overdrive t sl uv => Sys2Proof.Machine.execOverdrive t sl uv s
  | .probePhase t sl => Sys2Proof.Machine.execProbePhase t sl s
  | .openCheckEval t sl restOn restOff => Sys2Proof.Machine.execOpenCheckEval t sl restOn restOff s
  | .vinReversed mv => Sys2Proof.Machine.execVinReversed mv s
  | .refinLost offFreq => Sys2Proof.Machine.execRefinLost offFreq s
  | .refinRestored => Sys2Proof.Machine.execRefinRestored s
  | .refinLocked => Sys2Proof.Machine.execRefinLocked s
  | .tempReading tiles ctl arc => Sys2Proof.Machine.execTempReading tiles ctl arc s
  | .tfoldRelease t => Sys2Proof.Machine.execTfoldRelease t s
  | .budgetEval vinMv => Sys2Proof.Machine.execBudgetEval vinMv s
  | .ctxOpen fn p => Sys2Proof.Machine.execCtxOpen fn p s
  | .ctxStart fn id go => Sys2Proof.Machine.execCtxStart fn id go s
  | .ctxAbort fn id => Sys2Proof.Machine.execCtxAbort fn id s
  | .ctxClose fn id => Sys2Proof.Machine.execCtxClose fn id s
  | .ctxPrio fn id prio => Sys2Proof.Machine.execCtxPrio fn id prio s
  | .lockGrant t => Sys2Proof.Machine.execLockGrant t s
  | .dispatch t => Sys2Proof.Machine.execDispatch t s
  | .descPrefetch id r errs => Sys2Proof.Machine.execDescPrefetch id r errs s
  | .nop id => Sys2Proof.Machine.execNop id s
  | .config id => Sys2Proof.Machine.execConfig id s
  | .lin id => Sys2Proof.Machine.execLin id s
  | .list id => Sys2Proof.Machine.execList id s
  | .meas id => Sys2Proof.Machine.execMeas id s
  | .limit id => Sys2Proof.Machine.execLimit id s
  | .wait id => Sys2Proof.Machine.execWait id s
  | .fire id => Sys2Proof.Machine.execFire id s
  | .jump id => Sys2Proof.Machine.execJump id s
  | .endList id => Sys2Proof.Machine.execEndList id s
  | .apertureResultRead id => Sys2Proof.Machine.execApertureResultRead id s
  | .resultPacket id => Sys2Proof.Machine.execResultPacket id s
  | .ctxGo t ch hop => Sys2Proof.Machine.execCtxGo t ch hop s
  | .waitEnd id => Sys2Proof.Machine.execWaitEnd id s
  | .waitTimeout id => Sys2Proof.Machine.execWaitTimeout id s
  | .runComplete id => Sys2Proof.Machine.execRunComplete id s
  | .seqStart fn t => Sys2Proof.Machine.execSeqStart fn t s
  | .seqAbort fn t => Sys2Proof.Machine.execSeqAbort fn t s
  | .seqLockGrant t => Sys2Proof.Machine.execSeqLockGrant t s
  | .stagingComplete t errs => Sys2Proof.Machine.execStagingComplete t errs s
  | .seqGo t hop => Sys2Proof.Machine.execSeqGo t hop s
  | .lockInPoint t => Sys2Proof.Machine.execLockInPoint t s
  | .granuleBoundary t => Sys2Proof.Machine.execGranuleBoundary t s
  | .segmentBoundary t => Sys2Proof.Machine.execSegmentBoundary t s
  | .seqJumpReq fn t target => Sys2Proof.Machine.execSeqJumpReq fn t target s
  | .seqJreq t j hop => Sys2Proof.Machine.execSeqJreq t j hop s
  | .vectorCycle t pins drained => Sys2Proof.Machine.execVectorCycle t pins drained s
  | .ddsListStep t => Sys2Proof.Machine.execDdsListStep t s
  | .granuleRefill t errs => Sys2Proof.Machine.execGranuleRefill t errs s
  | .holdResume t => Sys2Proof.Machine.execHoldResume t s
  | .acqArm fn t => Sys2Proof.Machine.execAcqArm fn t s
  | .acqTrig fn t => Sys2Proof.Machine.execAcqTrig fn t s
  | .acqAbort fn t => Sys2Proof.Machine.execAcqAbort fn t s
  | .acqArmIn t hop => Sys2Proof.Machine.execAcqArmIn t hop s
  | .acqTrigIn t hop => Sys2Proof.Machine.execAcqTrigIn t hop s
  | .acqFireIn t hop => Sys2Proof.Machine.execAcqFireIn t hop s
  | .acqFrame t drained => Sys2Proof.Machine.execAcqFrame t drained s
  | .recordEnd t => Sys2Proof.Machine.execRecordEnd t s
  | .rearmDone t => Sys2Proof.Machine.execRearmDone t s
  | .rateReduction t share port => Sys2Proof.Machine.execRateReduction t share port s
  | .recordCommit t => Sys2Proof.Machine.execRecordCommit t s
  | .accountingWindow => Sys2Proof.Machine.execAccountingWindow s
  | .patrolScrub word e => Sys2Proof.Machine.execPatrolScrub word e s
  | .bar2Read fn off len errs => Sys2Proof.Machine.execBar2Read fn off len errs s
  | .bar2Write fn off bytes ep errs => Sys2Proof.Machine.execBar2Write fn off bytes ep errs s
  | .batonDelivery => Sys2Proof.Machine.execBatonDelivery s
  | .batFire fn t v => Sys2Proof.Machine.execBatFire fn t v s
  | .batTrkFire fn v => Sys2Proof.Machine.execBatTrkFire fn v s
  | .routeWrite a w => Sys2Proof.Machine.execRouteWrite a w s
  | .trigInput n sub => Sys2Proof.Machine.execTrigInput n sub s
  | .trigoutEnd n => Sys2Proof.Machine.execTrigoutEnd n s
  | .catReq fn p => Sys2Proof.Machine.execCatReq fn p s
  | .calReq fn q tag rq p => Sys2Proof.Machine.execCalReq fn q tag rq p s
  | .invalidate fn scope set t sl => Sys2Proof.Machine.execInvalidate fn scope set t sl s
  | .catAbort fn run => Sys2Proof.Machine.execCatAbort fn run s
  | .calAbort fn tag => Sys2Proof.Machine.execCalAbort fn tag s
  | .calLaneTurn t => Sys2Proof.Machine.execCalLaneTurn t s
  | .pendingTimeout t sl => Sys2Proof.Machine.execPendingTimeout t sl s
  | .calLaneEnd t m => Sys2Proof.Machine.execCalLaneEnd t m s
  | .catCommit run => Sys2Proof.Machine.execCatCommit run s
  | .interpolation t sl => Sys2Proof.Machine.execInterpolation t sl s
  | .autoRecal t => Sys2Proof.Machine.execAutoRecal t s
  | .autoSwap t => Sys2Proof.Machine.execAutoSwap t s
  | .handOut fn t sl waitMs doneEv => Sys2Proof.Machine.execHandOut fn t sl waitMs doneEv s
  | .handBack fn t sl waitMs doneEv => Sys2Proof.Machine.execHandBack fn t sl waitMs doneEv s
  | .test fn t sl waitMs doneEv => Sys2Proof.Machine.execTest fn t sl waitMs doneEv s
  | .retire fn t sl waitMs doneEv => Sys2Proof.Machine.execRetire fn t sl waitMs doneEv s
  | .unretire fn t sl waitMs doneEv => Sys2Proof.Machine.execUnretire fn t sl waitMs doneEv s
  | .svcAbort fn ticket => Sys2Proof.Machine.execSvcAbort fn ticket s
  | .svcWaitTimeout t => Sys2Proof.Machine.execSvcWaitTimeout t s
  | .transferStart t => Sys2Proof.Machine.execTransferStart t s
  | .transferMatch t meanUv => Sys2Proof.Machine.execTransferMatch t meanUv s
  | .share t => Sys2Proof.Machine.execShare t s
  | .shareStep t => Sys2Proof.Machine.execShareStep t s
  | .transferSwap t => Sys2Proof.Machine.execTransferSwap t s
  | .transferComplete t => Sys2Proof.Machine.execTransferComplete t s
  | .oldSenseOpen t => Sys2Proof.Machine.execOldSenseOpen t s
  | .transferAbort t => Sys2Proof.Machine.execTransferAbort t s
  | .leaveEnd t => Sys2Proof.Machine.execLeaveEnd t s
  | .tileSvcDown fn t => Sys2Proof.Machine.execTileSvcDown fn t s
  | .tileSvcUp fn t => Sys2Proof.Machine.execTileSvcUp fn t s
  | .tileSvcReset fn t => Sys2Proof.Machine.execTileSvcReset fn t s
  | .archDown fn => Sys2Proof.Machine.execArchDown fn s
  | .archUp fn => Sys2Proof.Machine.execArchUp fn s
  | .ucodeStage fn off last bytes sigOk ver => Sys2Proof.Machine.execUcodeStage fn off last bytes sigOk ver s
  | .ucodeApply fn mask drainMs => Sys2Proof.Machine.execUcodeApply fn mask drainMs s
  | .ucodeLoad t => Sys2Proof.Machine.execUcodeLoad t s
  | .drainTimeout t => Sys2Proof.Machine.execDrainTimeout t s
  | .ucodeCommit fn => Sys2Proof.Machine.execUcodeCommit fn s
  | .fwStage fn off last bytes sigOk => Sys2Proof.Machine.execFwStage fn off last bytes sigOk s
  | .watchdog => Sys2Proof.Machine.execWatchdog s
  | .linkTraining port width peer => Sys2Proof.Machine.execLinkTraining port width peer s
  | .linkLoss port cause queued n reach0 => Sys2Proof.Machine.execLinkLoss port cause queued n reach0 s
  | .walulFrame port f crcOk => Sys2Proof.Machine.execWalulFrame port f crcOk s
  | .walulDelivery => Sys2Proof.Machine.execWalulDelivery s
  | .align fn m => Sys2Proof.Machine.execAlign fn m s
  | .alignAuto m => Sys2Proof.Machine.execAlignAuto m s
  | .alignLoad x count trim meas => Sys2Proof.Machine.execAlignLoad x count trim meas s
  | .vinValid mv st fwA fwB => Sys2Proof.Machine.execVinValid mv st fwA fwB s
  | .perst st fwA fwB => Sys2Proof.Machine.execPerst st fwA fwB s
  | .warm fn => Sys2Proof.Machine.execWarm fn s
  | .hotReset => Sys2Proof.Machine.execHotReset s
  | .devReady failed => Sys2Proof.Machine.execDevReady failed s
  | .powerFail slope trace => Sys2Proof.Machine.execPowerFail slope trace s
  | .pfailRecord => Sys2Proof.Machine.execPfailRecord s
  | .aonOff => Sys2Proof.Machine.execAonOff s
  | .pfailRestart st fwA fwB => Sys2Proof.Machine.execPfailRestart st fwA fwB s
  | .cqWrite fn q off words whole ep => Sys2Proof.Machine.execCqWrite fn q off words whole ep s
  | .commandTake fn q => Sys2Proof.Machine.execCommandTake fn q s
  | .fence fn q tag rq => Sys2Proof.Machine.execFence fn q tag rq s
  | .staleTail fn q => Sys2Proof.Machine.execStaleTail fn q s
  | .compatStallTimeout fn q => Sys2Proof.Machine.execCompatStallTimeout fn q s
  | .flush fn q => Sys2Proof.Machine.execFlush fn q s
  | .arcDmaRd fn q tag rq iova off len => Sys2Proof.Machine.execArcDmaRd fn q tag rq iova off len s
  | .arcDmaWr fn q tag rq iova off len => Sys2Proof.Machine.execArcDmaWr fn q tag rq iova off len s
  | .dmaAbort fn tag => Sys2Proof.Machine.execDmaAbort fn tag s
  | .dmaComplete fn tag ws err ep errs => Sys2Proof.Machine.execDmaComplete fn tag ws err ep errs s
  | .resultWrite fn r => Sys2Proof.Machine.execResultWrite fn r s
  | .resultDoorbell fn r v => Sys2Proof.Machine.execResultDoorbell fn r v s
  | .moderationTimer fn r => Sys2Proof.Machine.execModerationTimer fn r s
  | .flr fn => Sys2Proof.Machine.execFlr fn s
  | .flrComplete fn => Sys2Proof.Machine.execFlrComplete fn s
  | .perstRelease => Sys2Proof.Machine.execPerstRelease s
  | .powerStateChange fn d3 => Sys2Proof.Machine.execPowerStateChange fn d3 s
  | .busMasterEnable fn en => Sys2Proof.Machine.execBusMasterEnable fn en s
  | .phaseTracking errPs refin0 => Sys2Proof.Machine.execPhaseTracking errPs refin0 s
  | .frontEndTestEnd t pass => Sys2Proof.Machine.execFrontEndTestEnd t pass s
  | .autoRecalEnd t refvUv ref1 ref2 lines => Sys2Proof.Machine.execAutoRecalEnd t refvUv ref1 ref2 lines s
  | .blockHeadersRead t errs => Sys2Proof.Machine.execBlockHeadersRead t errs s

end Sys2Proof.Machine
end

