-- ==== Sys2Proof/Machine/Idle.lean ====
section
/-! DEFINITION. What a step does when no command waits (log entry 1). -/

namespace Sys2Proof.Machine

/-- With no command waiting the pace counts one tick while AON is powered (R17, R35); without AON nothing moves. -/
def State.idle (m : State) : State := if m.cur.aon then { m with pace := m.pace + 1 } else m

/-- The host access that has waited longest behind a stalled write, once the stall is over, and those behind it (R420). -/
def State.heldNext (m : State) : Option (Instr × List Instr) :=
  match m.held with
  | i :: l => if m.linkStalled then none else some (i, l)
  | [] => none

/-- The accesses `l` wait on, behind what an outcome has put off itself. -/
def rejoin (l : List Instr) : Out → Out
  | .next m => .next { m with held := m.held ++ l }
  | o => o

end Sys2Proof.Machine
end

