-- ==== Sys2Proof/Machine/Lands.lean ====
section
/-! DEFINITION. What the module does to its lands (R392, R395 to R397): each in the module's present condition, computed from the
state. Impedances, currents and levels of analog lands lie outside (log entry 41). -/

namespace Sys2Proof.Machine

/-- What the module does to an open-drain land. -/
inductive Drain where
  | released | low
deriving DecidableEq, Repr

/-- A tile's lands are connected to nothing: VIN is absent, the module is in reset, or the tile domain is off (R392). -/
def State.tileDead (m : State) (t : Nat) : Bool := !m.cur.aon || !m.tileOn t

/-- PFAIL_OUT# (R395 to R397): low from the declaration of a power failure until VIN falls below 4.0 V or the module starts again. -/
def State.pfailOut (m : State) : Drain := if m.cur.aon && m.cur.pfail.isSome then .low else .released

/-- ALERT# (R265, R392): low while the module is powered, not in reset, and DEV_STAT.ALERT reads 1. -/
def State.alertOut (m : State) : Drain :=
  if m.cur.aon && m.dom 1 && m.r .dev .devStatAlert == 1 then .low else .released

/-- What is connected to a FORCE land: nothing, or the SMU's force switch, or the fast pin stage with its driver on or off. -/
inductive Force where
  | open_ | smu | pin (on : Bool)
deriving DecidableEq, Repr

/-- FORCE of slot `s`. -/
def State.forceLand (m : State) (t s : Nat) : Force :=
  let d := m.lane t s
  if m.tileDead t then .open_ else if d.pinSw then .pin d.drv.on else if d.forceSw then .smu else .open_

/-- SENSE of slot `s` is connected. -/
def State.senseLand (m : State) (t s : Nat) : Bool := !m.tileDead t && (m.lane t s).senseSw

/-- The slot that is bound to the booster port of tile `t`. -/
def State.boostSlot (m : State) (t : Nat) : Option Nat := (List.range 9).find? fun s => m.boosted t s

/-- What the module does to BDRV: high impedance, 0 V, or the output of the loop of a slot (R93). -/
inductive Bdrv where
  | highZ | zero | loop (s : Nat)
deriving DecidableEq, Repr

/-- BDRV of tile `t`: 0 V while the port is unbound, and while the bound lane does not force through it (R92, R94). -/
def State.bdrvLand (m : State) (t : Nat) : Bdrv :=
  if m.tileDead t then .highZ
  else match m.boostSlot t with
    | some s => if (m.lane t s).ben then .loop s else .zero
    | none => .zero

/-- BEN of tile `t` is asserted; else it is released to the board's pull. -/
def State.benLand (m : State) (t : Nat) : Bool := !m.tileDead t && (List.range 9).any fun s => (m.lane t s).ben

/-- TRIG land `n` (R292): driven low while a pulse runs, and released in reset. -/
def State.trigLand (m : State) (n : Nat) : Drain :=
  if m.cur.aon && m.dom 1 && m.cur.trigUntil.any (fun e => e.1 == n && decide (n < 8)) then .low else .released

/-- The Walul transmitter of port `n` is driven: LINK on, out of reset, the port in use (R356, R358, R392). -/
def State.wlLand (m : State) (n : Nat) : Bool :=
  m.cur.aon && m.dom 2 && m.hasWalul && (m.r .wl (.wlPState n) == 1 || m.r .wl (.wlPState n) == 2)

end Sys2Proof.Machine
end

