-- ==== Sys2Proof/Safety.lean ====
section
/-! DEFINITION. The terms in which statements about the model are made: a command that completes, what a command leaves
unchanged, and the sound states, in which every byte store is in canonical form and every register value fits its field. -/

namespace Sys2Proof.Machine

/-- Command `c` completes from `m`: it answers a next state, and `P` holds of it. -/
def Completes (c : Instr) (m : State) (P : State → Prop) : Prop := ∃ m', exec c m = .next m' ∧ P m'

/-- No register field changes but those of `w`. -/
def RegsKept (m m' : State) (w : Page → Fld → Prop) : Prop := ∀ p f, ¬ w p f → m'.r p f = m.r p f

/-- No LIVE lane field as latched changes but those of `w` (R22). -/
def LatKept (m m' : State) (w : Page → Fld → Prop) : Prop := ∀ p f, ¬ w p f → m'.l p f = m.l p f

/-- No lane changes but those whose keys, tile × 10 + slot, are listed. -/
def LanesKept (m m' : State) (ks : List Nat) : Prop := ∀ k, k ∉ ks → tabGet {} m'.lanes k = tabGet {} m.lanes k

/-- The keys of the slots `ss` of tile `t`. -/
def laneKeys (t : Nat) (ss : List Nat) : List Nat := ss.map fun s => t * 10 + s

/-- Field `f` of page `p` is one of `fs` on the lane page of one of the slots `ss` of tile `t`. -/
def OfLanes (t : Nat) (ss : List Nat) (fs : List Fld) (p : Page) (f : Fld) : Prop := ∃ s ∈ ss, p = .lane t s ∧ f ∈ fs

/-- The gangs of tile `t` are apart: no slot is a member of two, and the leader of each is one of its members (R87). -/
def State.gangsApart (m : State) (t : Nat) : Bool :=
  (List.range 4).all fun g =>
    let mem := m.r (.tile t) (.tileGangMembers g)
    let lead := m.r (.tile t) (.tileGangLeader g)
    (decide (mem = 0) || (decide (lead < 9) && mem.testBit lead)) &&
      (List.range 4).all fun h => h == g || (List.range 9).all fun s =>
        !(mem.testBit s && (m.r (.tile t) (.tileGangMembers h)).testBit s)

/-- The slots of tile `t` whose DAC an operation on slot `s` may move: its own, its gang's, and in a transfer the substitute's and
those of the lane that the substitute forces for (R89, R338, R340). -/
def State.around (m : State) (t s : Nat) : List Nat :=
  9 :: s :: (m.unit t (m.leader t s) ++ m.unit t (m.leader t (m.actSlot t s)))

/-- The lane registers that a window monitor's transition may touch (R252, R257, R258): UNRESn, TRIPn and what a pulse cut
leaves. -/
def wmFields : List Fld :=
  [.laneWmUnres 0, .laneWmUnres 1, .laneWmTrip 0, .laneWmTrip 1, .lanePulseCmd, .lanePulseCut, .laneReachClip, .laneDdsClip]

/-- Every byte of the Archive and every byte written into host memory reads as before, but for the Archive bytes of `w`. -/
def BytesKept (m m' : State) (w : Nat → Prop) : Prop :=
  (∀ a, ¬ w a → memGet m'.arc a = memGet m.arc a) ∧ ∀ a, memGet m'.hostMem a = memGet m.hostMem a

/-- Every register value listed fits the width of its field (R444). -/
def State.regsFit (m : State) : Bool := m.regs.all fun c => decide (c.val < 2 ^ c.fld.w)

/-- A sound state: the Archive, the bytes written into host memory and the two staging buffers are in canonical form, and
every register value fits its field. -/
def State.sound (m : State) : Bool :=
  Memory.wf m.arc && Memory.wf m.hostMem && Memory.wf m.cur.stageBuf && Memory.wf m.cur.fwBuf && m.regsFit

/-- Nothing waits for lanes to open: no power failure, no reset, no tile going down (R349, R384, R395). -/
def State.calm (m : State) (t : Nat) : Bool := m.cur.pfail.isNone && m.cur.rst.isNone && !(m.tile t).goingDown

/-- A register that a host write of function `fn` changes by the class of its fields and in no other way: it has no command, no route
and no check of its own (R464 to R484). -/
def plainReg (fn : Nat) (p : Page) (off : Nat) : Bool :=
  decide (0x100 ≤ off) && !routeReg p off && !siteDrops fn p off &&
  match p with
  | .dev => off != 0x10C
  | .trk => fn == 0 && off != 0x1C0
  | .wl => off != 0x124
  | .cat => off != 0x100 && off != 0x104
  | .q _ => off == 0x104 || (decide (0x200 ≤ off) && decide (off < 0x300) && off % 0x20 != 0)
  | .tile _ => decide (off < 0x114) || decide (0x128 ≤ off)
  | .lane _ _ => false
  | .seq _ => off != 0x120 && off != 0x124
  | .acq _ => off != 0x12C
  | .bat _ => off != 0x2C0
  | _ => true

/-- The registers of a lane page whose write takes no command with it (R447, R466). -/
def laneStores (off : Nat) : Bool :=
  decide (0x100 ≤ off) && !([0x100, 0x130, 0x134, 0x13C, 0x164, 0x17C, 0x184, 0x20C].contains off)

/-- What a host write of `w` leaves in field `f` of page `p` by the field's class (R447, R449). -/
def State.classed (m : State) (p : Page) (w : Word) (f : Fld) : Nat :=
  match f.cls with
  | .live | .cnt => f.of w
  | .evt => (m.r p f - (m.r p f &&& f.of w)) % 2 ^ f.w
  | .cfg => if m.cfgOpen p then f.of w else m.r p f
  | .stat | .cmd | .seal => if p.origin f.off = some f then 0 else m.r p f

/-- The engine of context `id` stands before descriptor `ws`, well formed and of OP `op`, and may decode it (R127, R134, R136):
the context runs, no step is being queued, no wait is being armed. -/
def State.atDesc (m : State) (id op : Nat) (ws : List Word) : Bool :=
  let c := m.ctx id
  c.decodes && c.gen.isNone && c.waitI.isNone && decide (c.desc < c.par.llen) && c.descAt c.desc == some ws &&
    descOk ws c.par.llen c.par.abortOn && wbits (dw ws 0) 0 4 == op

/-- A lane of the unit of (t, s) is held by nobody and is not under transfer (R24, R338). -/
def State.unheld (m : State) (t s : Nat) : Bool :=
  (m.lane t s).owner.isNone && (m.subst t).xfer.isNone && !(m.curatorHolds t s)

/-- Nothing runs in tile `t`: no transfer, request, calibration turn, live context, sequence or acquisition, and every lane is
DISCONNECTED (R349). -/
def State.tileQuiet (m : State) (t : Nat) : Bool :=
  !(m.tile t).draining && (m.subst t).xfer.isNone && (m.subst t).queue.isEmpty && (m.subst t).active.isNone &&
    (m.tile t).turn.isNone && ((List.range 256).all fun i => !(m.ctx (t * 256 + i)).st.live) && !m.seqLive t && !m.acqLive t &&
    (List.range 10).all fun s => m.sw t s == .disconnected && !(m.lane t s).rstPend

/-- Every lane of the module is open and no reset of one waits: nothing keeps a reset or a power failure waiting (R384, R396). -/
def State.moduleOpen (m : State) : Bool :=
  (List.range 16).all fun t => !m.tileOn t || ((m.subst t).xfer.isNone &&
    (List.range 10).all fun s => m.sw t s == .disconnected && !(m.lane t s).rstPend)

/-- What a change of the power domains may touch on the pages of the device and of power (R265, R285). -/
def domFields : List (Page × Fld) :=
  [(.pwr, .pwrDomStat), (.pwr, .pwrOverAllow), (.pwr, .pwrOverEvt), (.pwr, .pwrArcHot), (.dev, .devStatAlert)]

/-- Request `r` has its outcome, and with it its DONE_EV (R345, R487); no other request has. -/
def ReqEnds (m m' : State) (r : SvcReq) (code : Nat) : Prop :=
  tabGet 0 m'.cur.svcOut r.ticket = code ∧ (∀ k, k ≠ r.ticket → tabGet 0 m'.cur.svcOut k = tabGet 0 m.cur.svcOut k) ∧
  (m.cur.svcId = r.ticket → m'.cur.svcSt = code) ∧
  m'.flight = if r.doneEv < 15 then
      addFlight m.flight { tick := m'.pace + 1, stage := .chan (m.r .cat .catEvbase + r.doneEv), hop := 0 } else m.flight

end Sys2Proof.Machine
end

