-- ==== Sys2Proof/Certificates/Slice0/Obligations.lean ====
section
/-! DEFINITION. The statements for the provers. Each says, of one or more commands, that the command completes from every
state that meets the hypotheses, what it leaves in the state, and that it leaves everything else as it was; the rules that a
statement formalises stand in its docstring. Equations of the form `m' = { m with ... }` are frames: every field of the state
that is not named keeps its value, the byte stores among them. -/

open Sys2Proof Sys2Proof.Machine

/-! The block as a whole. -/

/-- A step runs the command at the front of the queue on the state with the queue's rest. -/
def Obligations.StepTakesFrontCommand : Prop :=
  ∀ (c : Instr) (q : List Instr) (m : State), m.pending = c :: q → step m = exec c { m with pending := q }

/-- On an empty queue, with no host access waiting for the end of a stall, a step is one tick of the pace while AON is powered,
and nothing else (R17; the model's choice, log entry 1); once the stall is over the accesses that wait are run in their order
(R420; log entry 1). At reset AON alone is powered, no command waits, the pace is 0, every register but PWR_DOM_STAT has its
reset value, every lane is UNPOWERED, and the state is sound (R35, R381, R389; the reset values that the spec does not give:
log entry 2). -/
def Obligations.IdleStepAndReset : Prop :=
  (
  (∀ m : State, m.pending = [] → (m.held = [] ∨ m.linkStalled = true) →
    step m = .next (if m.cur.aon then { m with pace := m.pace + 1 } else m)) ∧
  (∀ (m : State) (c : Instr) (l : List Instr), m.pending = [] → m.held = c :: l → m.linkStalled = false →
    step m = rejoin l (exec c { m with held := [] }))) ∧
  (
  State.reset.pending = [] ∧ State.reset.pace = 0 ∧ State.reset.dom 0 = true ∧
  (∀ n, 0 < n → State.reset.dom n = false) ∧
  (∀ p f, ¬ (p = .pwr ∧ f = .pwrDomStat) → State.reset.r p f = regReset p f) ∧
  (∀ t s, State.reset.sw t s = .unpowered) ∧ (∀ a, memGet State.reset.arc a = 0) ∧ State.reset.sound = true)

/-- Every step keeps a state sound: the byte stores canonical, every register value within its field (R444). -/
def Obligations.EveryStepKeepsSoundness : Prop :=
  ∀ m m' : State, m.sound = true → step m = .next m' → m'.sound = true

/-- No command touches the queue, the variant or the board profile in flash (R2, R26), and free values are never drawn twice
(log entry 4). -/
def Obligations.NoCommandTouchesQueueOrBuild : Prop :=
  ∀ (c : Instr) (m m' : State), exec c m = .next m' →
    m'.pending = m.pending ∧ m'.variant = m.variant ∧ m'.profile = m.profile ∧ m.freeCtr ≤ m'.freeCtr

/-- Beyond the absolute maximum ratings of R488 the four commands that present a voltage stop, and only there (log entry 10). A
reversed input within the ratings changes nothing (R278). -/
def Obligations.RatingsAndReversedInput : Prop :=
  (
  (∀ (m : State) (t s : Nat) (uv : Int), exec (.overdrive t s uv) m = .fault .beyondRatings ↔ 30000000 < uv.natAbs) ∧
  (∀ (m : State) (t : Nat) (v i : Int), exec (.boostSenseOverdrive t v i) m = .fault .beyondRatings ↔
    6000 < v.natAbs ∨ 6000 < i.natAbs) ∧
  (∀ (m : State) (mv : Nat), exec (.vinReversed mv) m = .fault .beyondRatings ↔ 40000 < mv) ∧
  (∀ (m : State) (mv : Nat) (st : Straps) (a b : Bool), exec (.vinValid mv st a b) m = .fault .beyondRatings ↔ 44000 < mv)) ∧
  (
  ∀ (mv : Nat) (m : State), mv ≤ 40000 → exec (.vinReversed mv) m = .next m)

/-! Registers and the mailbox. -/

/-- REGISTER_WRITE acts on each field of the register by its class (R447, R448), on every page whose register has no command or
check of its own (a site clears the flags of its own trunk channels only, R297); a write to a lane register without a command
is refused by the first of the lane's checks, else stored where the governor admits it (R55, R86); CAT_REFV and CAT_AUTO
outside their ranges are refused (R309, R330; log entry 32); the segment table takes whole words (R463). Nothing else changes
but the record of an ignored write. The queue page's own checks (R413, R422, R448): Q_RQr_CTL.EN set zeroes TAIL and HEAD,
with the fields of the same write taken; cleared, it discards what is not written yet; the other fields of an enabled result
queue are closed; clearing Q_CQn_CTL.EN flushes. MALFORMED_ACCESS sets ERR with the offset and direction of the first, and
counts to 255 (R439, R448), but not at a register of a function that is not fitted, where nothing changes (R4); a malformed
read gives all-ones in each byte (R439), and any read of a function in D3hot or under reset is Unsupported Request (R406,
R434) and waits behind a stalled write (R420); PAGE_CTRL.EN is written, and clearing it under a live sequence or acquisition
ends that with reason 1 (R163, R210, R446). -/
def Obligations.RegisterWritesActByClass : Prop :=
  (
  (∀ (a : Acc) (w : Word) (m : State) (p : Page) (off : Nat),
    accTarget a = .reg p off → a.off % 4 = 0 → m.hostAt a.fn p = true → m.absentAt p off = false →
    let ign : List Fld := [.ignIgn a.fn, .ignOff a.fn, .ignCnt a.fn]
    let byClass (w : Word) (m' : State) : Prop :=
      (∀ f ∈ fieldsAt p a.fn off, m'.r p f = m.classed p w f) ∧ RegsKept m m' (fun q f => q = p ∧ (f.off = off ∨ f ∈ ign)) ∧
      m' = { m with regs := m'.regs, msix := m'.msix }
    (plainReg a.fn p off = true → Completes (.registerWrite a w) m (byClass w)) ∧
    (p = .trk → a.fn ≠ 0 → 0x1C4 ≤ off → off ≤ 0x1D0 → Completes (.registerWrite a w) m
      (byClass (w &&& BitVec.ofNat 32 (m.r .site (.siteTrk a.fn ((off - 0x1C4) / 4)))))) ∧
    (p = .cat → (off = 0x100 ∧ (Fld.catRefv.of w < 4900000 ∨ 5100000 < Fld.catRefv.of w) ∨
        off = 0x104 ∧ (Fld.catAutoTdelta.of w < 10 ∨ 200 < Fld.catAutoTdelta.of w)) →
      Completes (.registerWrite a w) m fun m' => m' = m) ∧
    (∀ t s, p = .lane t s → laneStores off = true → m.flrShut t s = false →
      (∀ y, m.laneCheck t s off w false = some y → Completes (.registerWrite a w) m fun m' => m' = m.refuse t s y) ∧
      (m.laneCheck t s off w false = none → m.cur.pfail = none → governor m (m.classWrite a.fn p off w) t s = none →
        Completes (.registerWrite a w) m fun m' =>
          (∀ f ∈ fieldsAt p a.fn off, m'.r p f = m.classed p w f) ∧
          RegsKept m m' (fun q f => q = p ∧ (f.off = off ∨ f ∈ ign) ∨ q = .pwr ∧ f = .pwrOverAllow) ∧
          m' = { m with regs := m'.regs, msix := m'.msix }))) ∧
  (∀ (a : Acc) (w : Word) (m : State) (t word : Nat),
    accTarget a = .segWord t word → a.off % 4 = 0 → m.cfgOpen (.seq t) = true → m.hostAt a.fn (.seq t) = true →
    Completes (.registerWrite a w) m fun m' =>
      m'.segWord t word = w.toNat ∧
      (∀ u k, ¬ (u * 32768 + k = t * 32768 + word) → m'.segWord u k = m.segWord u k) ∧
      m' = { m with segTab := m'.segTab })) ∧
  (
  ∀ (a : Acc) (w : Word) (m : State) (off n : Nat),
    let p := Page.q a.fn
    let fn := a.fn
    accTarget a = .reg p off → a.off % 4 = 0 → m.hostAt fn p = true →
    (off = 0x418 + 0x40 * n → n < 16 →
      (m.r p (.rqEn n) = 0 → wbits w 0 1 = 1 → wbits w 8 7 < m.r p .qNvec → Completes (.registerWrite a w) m fun m' =>
        m'.r p (.rqEn n) = 1 ∧ m'.r p (.rqTail n) = 0 ∧ m'.r p (.rqHead n) = 0 ∧ m'.r p (.rqFull n) = 0 ∧
        m'.r p (.rqWbEn n) = wbits w 1 1 ∧ m'.r p (.rqModCnt n) = wbits w 16 8 ∧ m'.r p (.rqVec n) = wbits w 8 7 ∧
        m'.rq fn n = {} ∧ (∀ k, k ≠ fn * 16 + n → tabGet {} m'.rqs k = tabGet {} m.rqs k) ∧
        RegsKept m m' (fun q f => q = p ∧ f ∈ [.rqEn n, .rqTail n, .rqHead n, .rqFull n, .rqWbEn n, .rqModCnt n, .rqVec n]) ∧
        m' = { m with regs := m'.regs, rqs := m'.rqs }) ∧
      (m.r p (.rqEn n) = 1 → wbits w 0 1 = 0 → Completes (.registerWrite a w) m fun m' =>
        m'.r p (.rqEn n) = 0 ∧ m'.r p (.ignIgn fn) = 1 ∧ m'.rq fn n = {} ∧
        (∀ q, q < 8 → ∀ b ∈ (m'.cq fn q).blocked, b.1 ≠ n) ∧
        (∀ c ∈ m'.ctxs, c.2.fn = fn → c.2.par.rq = n → c.2.pkts = [] ∧ c.2.owed = []) ∧
        RegsKept m m' (fun q f => q = p ∧ f ∈ [.rqEn n, .ignIgn fn, .ignOff fn, .ignCnt fn]) ∧
        m' = { m with regs := m'.regs, rqs := m'.rqs, cqs := m'.cqs, ctxs := m'.ctxs, msix := m'.msix })) ∧
    (n < 16 → 0x400 + 0x40 * n ≤ off → off < 0x440 + 0x40 * n → m.r p (.rqEn n) = 1 →
      off % 0x40 ∈ [0x00, 0x04, 0x08, 0x0C, 0x10, 0x14, 0x1C, 0x28, 0x2C, 0x30] →
      Completes (.registerWrite a w) m fun m' => m' = m.ignore fn p off) ∧
    (off = 0x200 + 0x20 * n → n < 8 → m.r p (.cqEn n) = 1 → wbits w 0 1 = 0 → Completes (.registerWrite a w) m fun m' =>
      m'.r p (.cqEn n) = 0 ∧ (m'.cq fn n).words = [] ∧ m'.r p (.cqCredit n) = 8192 ∧ (m'.cq fn n).skip = false ∧
      m'.r p (.cqFlushed n) = (m.r p (.cqFlushed n) + ((m.cq fn n).words.filter (·.last)).length) % 2 ^ (Fld.cqFlushed n).w ∧
      (∀ k, k ≠ fn * 8 + n → tabGet {} m'.cqs k = tabGet {} m.cqs k) ∧
      RegsKept m m' (fun q f => q = p ∧ f ∈ [.cqEn n, .cqCredit n, .cqFlushed n]) ∧ m' = { m with regs := m'.regs, cqs := m'.cqs })) ∧
  (
  (∀ (a : Acc) (wr : Bool) (m : State) (p : Page) (off : Nat),
    badTarget a = some (p, off) → m.hostAt a.fn p = true →
    (m.absentAt p (off / 4 * 4) = true → Completes (.malformedAccess a wr) m fun m' => m' = m.barTouch a.fn) ∧
    (m.absentAt p (off / 4 * 4) = false → Completes (.malformedAccess a wr) m fun m' =>
      m'.r p (.ignErr a.fn) = 1 ∧
      (m.r p (.ignErr a.fn) = 0 → m'.r p (.errOff a.fn) = off % 4096 ∧ m'.r p (.errWr a.fn) = bit wr) ∧
      m'.r p (.errCnt a.fn) = min (m.r p (.errCnt a.fn) + 1) 255 ∧
      RegsKept m m' (fun q f => q = p ∧ f ∈ [.ignErr a.fn, .errOff a.fn, .errWr a.fn, .errCnt a.fn]) ∧
      m' = { m with regs := m'.regs, msix := m'.msix })) ∧
  (∀ (a : Acc) (m : State), m.linked a.fn = true →
    (m.waits = true → m.readReply a = .waits ∧ m.badReply a = .waits) ∧
    (m.waits = false → (m.fn a.fn).d3 = true ∨ (m.fn a.fn).flr.isSome = true →
      m.readReply a = .unsupported ∧ m.badReply a = .unsupported) ∧
    (m.reach a.fn = true → m.readReply a = .data (m.hostRead a) ∧
      ∀ p off, badTarget a = some (p, off) → m.present a.fn p = true → m.absentAt p (off / 4 * 4) = false →
        m.badReply a = .data 0xFF)) ∧
  (∀ (a : Acc) (en : Bool) (m : State) (p : Page),
    accTarget a = .reg p 0x00C → siteDrops a.fn p 0x00C = false → m.hostAt a.fn p = true →
    (en = true ∨ ∀ t, p ≠ .seq t ∧ p ≠ .acq t) → (match p with | .lane t s => m.flrShut t s | _ => false) = false →
    Completes (.pageCtrlWrite a en) m fun m' =>
      m'.r p .pageEn = bit en ∧ RegsKept m m' (fun q f => q = p ∧ f = .pageEn) ∧ m' = { m with regs := m'.regs }) ∧
  (∀ (a : Acc) (m : State) (t : Nat),
    accTarget a = .reg (.seq t) 0x00C → m.hostAt a.fn (.seq t) = true → m.seqLive t = true →
    Completes (.pageCtrlWrite a false) m fun m' =>
      m'.r (.seq t) .pageEn = 0 ∧ m'.r (.seq t) .seqState = 5 ∧ m'.r (.seq t) .seqOutcome = 2 ∧ m'.r (.seq t) .seqReason = 1) ∧
  (∀ (a : Acc) (m : State) (t : Nat),
    accTarget a = .reg (.acq t) 0x00C → m.hostAt a.fn (.acq t) = true → m.acqLive t = true →
    Completes (.pageCtrlWrite a false) m fun m' =>
      m'.r (.acq t) .pageEn = 0 ∧ m'.r (.acq t) .acqState = 6 ∧ m'.r (.acq t) .acqOutcome = 2 ∧ m'.r (.acq t) .acqReason = 1 ∧
      (m'.acq t).cap = none ∧ (∀ u, u ≠ t → m'.acq u = m.acq u) ∧
      RegsKept m m' (fun b f => b = .acq t ∧ f ∈ [.pageEn, .acqState, .acqOutcome, .acqReason, .acqUnresolved, .acqDone]) ∧
      m' = { m with regs := m'.regs, acqs := m'.acqs, flight := m'.flight, msix := m'.msix, freeCtr := m'.freeCtr }))

/-- MBX_SEL starts a snapshot and MBX_CMD a commit, each with BUSY set and VALID clear (R453, R454); a snapshot loads the eight
data words with RESULT, ITEM and VALID and clears BUSY, an unknown item giving RESULT 1 and zeros (R457); an applied commit clears
BUSY and sets DONE; PFAIL_REC_BAD tells of the record read last whether its CRC holds (R398; log entry 48). -/
def Obligations.MailboxSnapshotAndCommit : Prop :=
  (∀ (a : Acc) (item : Nat) (m : State) (p : Page),
    accTarget a = .reg p 0x030 → m.hostAt a.fn p = true → m.r p (.mbxBusy a.fn) ≠ 1 →
    Completes (.mbxSelWrite a item) m fun m' =>
      m'.r p (.mbxBusy a.fn) = 1 ∧ m'.r p (.mbxValid a.fn) = 0 ∧ m'.r p (.mbxSelItem a.fn) = item % 65536 ∧
      RegsKept m m' (fun q f => q = p ∧ f ∈ [.mbxBusy a.fn, .mbxValid a.fn, .mbxSelItem a.fn]) ∧
      m' = { m with regs := m'.regs }) ∧
  (∀ (a : Acc) (item : Nat) (m : State) (p : Page),
    accTarget a = .reg p 0x038 → m.hostAt a.fn p = true → m.r p (.mbxBusy a.fn) ≠ 1 →
    Completes (.commit a item) m fun m' =>
      m'.r p (.mbxBusy a.fn) = 1 ∧ m'.r p (.mbxOp a.fn) = 1 ∧ m'.r p (.mbxValid a.fn) = 0 ∧
      m'.r p (.mbxCmdItem a.fn) = item % 65536 ∧
      RegsKept m m' (fun q f => q = p ∧ f ∈ [.mbxBusy a.fn, .mbxOp a.fn, .mbxValid a.fn, .mbxCmdItem a.fn]) ∧
      m' = { m with regs := m'.regs }) ∧
  (∀ (a : Acc) (m : State) (p : Page) (off : Nat),
    accTarget a = .reg p off → m.r p (.mbxBusy a.fn) = 1 → m.r p (.mbxOp a.fn) = 0 →
    Completes (.mbxSnapshot a) m fun m' =>
      let item := m.r p (.mbxSelItem a.fn)
      m'.r p (.mbxBusy a.fn) = 0 ∧ m'.r p (.mbxValid a.fn) = 1 ∧ m'.r p (.mbxItem a.fn) = item % 65536 ∧
      (m.itemHere a.fn p item = false →
        m'.r p (.mbxResult a.fn) = 1 ∧ ∀ i, i < 8 → m'.r p (.mbxData a.fn i) = 0) ∧
      (p = .pace → item = 0x0201 → m'.r p (.mbxResult a.fn) = 0 ∧
        m'.r p (.mbxData a.fn 0) = m.pace % 2 ^ 32 ∧ m'.r p (.mbxData a.fn 1) = m.pace / 2 ^ 32 % 2 ^ 32) ∧
      (p = .pwr → item = 0x0302 → m'.r p (.mbxResult a.fn) = 0 → ∀ r, m.pfRecs[m.r p (.mbxData a.fn 0) % 8]? = some r →
        m'.r .pwr .pwrPfailRecBad = bit r.cut) ∧
      RegsKept m m' (fun q f => q = p ∧
        (f ∈ [.mbxBusy a.fn, .mbxOp a.fn, .mbxValid a.fn, .mbxItem a.fn, .mbxResult a.fn] ∨ (∃ i, i < 8 ∧ f = .mbxData a.fn i) ∨
          (p = .pwr ∧ item = 0x0302 ∧ f = .pwrPfailRecBad))) ∧
      m' = { m with regs := m'.regs, cur := m'.cur } ∧ (p ≠ .arc → m'.cur = m.cur)) ∧
  (∀ (a : Acc) (sig : Bool) (ver : Nat) (m : State) (p : Page) (off : Nat),
    accTarget a = .reg p off → m.r p (.mbxBusy a.fn) = 1 → m.r p (.mbxOp a.fn) = 1 →
    m.itemHere a.fn p (m.r p (.mbxCmdItem a.fn)) = false →
    Completes (.mbxCommitApply a sig ver) m fun m' =>
      m'.r p (.mbxBusy a.fn) = 0 ∧ m'.r p (.mbxDone a.fn) = 1 ∧ m'.r p (.mbxResult a.fn) = 1 ∧
      RegsKept m m' (fun q f => q = p ∧
        f ∈ [.mbxBusy a.fn, .mbxOp a.fn, .mbxItem a.fn, .mbxResult a.fn, .mbxDone a.fn]) ∧
      m' = { m with regs := m'.regs, msix := m'.msix }) ∧
  (∀ (a : Acc) (sig : Bool) (ver : Nat) (m : State) (t s off : Nat),
    let p := Page.lane t s
    let code := m.r p (.mbxData a.fn 0) + 2 ^ 32 * (m.r p (.mbxData a.fn 1) % 65536)
    accTarget a = .reg p off → m.r p (.mbxBusy a.fn) = 1 → m.r p (.mbxOp a.fn) = 1 → m.r p (.mbxCmdItem a.fn) = 0x1103 →
    m.hasDds = true → m.follower t s = false → m.locked t s = false → ddsFreqOk code (m.r p .laneDacDiv) = true →
    Completes (.mbxCommitApply a sig ver) m fun m' =>
      (m'.lane t s).ddsFreq = code ∧ m'.r p (.mbxBusy a.fn) = 0 ∧ m'.r p (.mbxDone a.fn) = 1 ∧ m'.r p (.mbxResult a.fn) = 0 ∧
      LanesKept m m' [t * 10 + s] ∧
      m' = { m with regs := m'.regs, msix := m'.msix, lanes := m'.lanes })

/-! Connection (R90, R108, R109). -/

/-- CONNECT of a DISCONNECTED unit that nobody holds, admitted by the governor, puts every lane of it into PRECONNECT on the first
tick after, with the connect defaults in force on a lane that is not the booster's (R56, R86, R90, R108); DISCONNECT of a unit of
connected lanes starts the disconnect of each, always accepted (R57) but while the reset of the lane's site runs, which refuses it
with LOCKED (R434; log entry 13). -/
def Obligations.ConnectAndDisconnectUnit : Prop :=
  (∀ (fn t s : Nat) (m : State),
    m.hostAt fn (.lane t s) = true → m.follower t s = false → m.locked t s = false →
    (m.unit t s).all (fun k => m.sw t k == .disconnected) = true → m.r (.lane t s) .pageEn ≠ 0 → s < 9 →
    m.gangsApart t = true → m.unheld t s = true → m.tfold t = false → (m.tile t).goingDown = false → m.cur.pfail = none →
    governor m ((m.unit t s).foldl (fun m k => m.preconnect t k (m.pace + 1) true) m) t s = none →
    Completes (.connect fn t s) m fun m' =>
      (∀ k ∈ m.unit t s, m'.r (.lane t k) .laneSwState = Sw.preconnect.code ∧ (m'.lane t k).since = m.pace + 1 ∧
        (m'.lane t k).forceSw = false ∧ (m'.lane t k).dacLevel = sext 20 (m.r (.lane t s) .laneConnectLevel) ∧
        m'.l (.lane t k) .laneForceLevel = m.r (.lane t k) .laneConnectLevel % 2 ^ 20 ∧ m'.l (.lane t k) .laneForceMode = 1 ∧
        (m.boosted t k = false →
          m'.l (.lane t k) .laneForceVrange = 1 ∧ m'.l (.lane t k) .laneForceIrange = 4 ∧ m'.l (.lane t k) .lanePersSel = 0 ∧
          m'.r (.lane t k) .laneClampHiMag = 6400 ∧ m'.r (.lane t k) .laneClampHiScale = 4)) ∧
      RegsKept m m' (fun p f => (∃ k ∈ m.unit t s, p = .lane t k) ∨ (p = .pwr ∧ f = .pwrOverAllow)) ∧
      LatKept m m' (fun p _ => ∃ k ∈ m.unit t s, p = .lane t k) ∧ LanesKept m m' (laneKeys t (m.unit t s)) ∧
      m' = { m with regs := m'.regs, lat := m'.lat, lanes := m'.lanes, msix := m'.msix }) ∧
  (∀ (fn t s : Nat) (m : State),
    m.hostAt fn (.lane t s) = true → m.follower t s = false → m.flrShut t s = true →
    Completes (.disconnect fn t s) m fun m' => m' = m.refuse t s .locked) ∧
  (∀ (fn t s : Nat) (m : State),
    m.hostAt fn (.lane t s) = true → m.follower t s = false → m.flrShut t s = false → m.gangsApart t = true →
    m.unheld t s = true → (∀ k ∈ m.unit t s, m.sw t k = .connected) →
    Completes (.disconnect fn t s) m fun m' =>
      (∀ k ∈ m.unit t s, m'.r (.lane t k) .laneSwState = Sw.disconnecting.code ∧ (m'.lane t k).since = m.pace + 1 ∧
        (m'.lane t k).rampStep = 0 ∧ (m'.lane t k).pulse = none ∧ m'.r (.lane t k) .laneFaultCode = 0) ∧
      ((∀ k ∈ m.unit t s, (m.lane t k).chk = none) →
        (∀ k ∈ m.unit t s, (m'.lane t k).rampFrom = m.rampTop t k ∧ (m'.lane t k).dacOut = m.rampTop t k) ∧
        RegsKept m m' (OfLanes t (m.unit t s) [.laneSwState, .laneFaultCode, .lanePulseCmd])) ∧
      RegsKept m m' (fun p _ => ∃ k ∈ m.unit t s, p = .lane t k) ∧
      LanesKept m m' (laneKeys t (m.unit t s)) ∧
      m' = { m with regs := m'.regs, lanes := m'.lanes, msix := m'.msix, substs := m'.substs, flight := m'.flight })

/-- The connection in time (R108): 8,000 ticks after PRECONNECT the lane is CONNECTING and SENSE closes; on its tick 400 FORCE
closes, or BEN asserts on the booster lane, and where the swap check runs the DAC drives its level (R275), the nearest code to
it (the model's choice, log entry 44), held to the ceiling with REACH_CLIP (R83); on its tick 1,200, without a swap, it is
CONNECTED. A gang goes through it together (R90). The disconnect in time (R108, R109): step k of the ramp, 160 × k ticks after
it began, leaves (64 − k) / 64 of the level, the nearest code to it (the model's choice, log entry 44); 400 ticks after the
ramp FORCE, PIN or BEN opens, and 400 ticks later SENSE opens and the lane is DISCONNECTED. The members of a gang that are
DISCONNECTING go through it together (R90). -/
def Obligations.ConnectionInTime : Prop :=
  (
  (∀ (t s : Nat) (m : State), m.sw t s = .preconnect →
    Completes (.preconnectEnd t s) m fun m' =>
      let e := (m.lane t s).since + 8000
      m'.pace = max m.pace e ∧
      (∀ k ∈ m.together t s, m'.r (.lane t k) .laneSwState = Sw.connecting.code ∧ (m'.lane t k).since = e ∧
        (m'.lane t k).senseSw = !m.boosted t k) ∧
      RegsKept m m' (OfLanes t (m.together t s) [.laneSwState]) ∧ LanesKept m m' (laneKeys t (m.together t s)) ∧
      m' = { m with pace := m'.pace, regs := m'.regs, lanes := m'.lanes }) ∧
  (∀ (t s : Nat) (m : State), m.sw t s = .connecting → (m.lane t s).forceSw = false → (m.lane t s).ben = false →
    m.shadowed t (m.leader t s) = false →
    Completes (.forceSwitchClose t s) m fun m' =>
      let ld := m.leader t s
      m'.pace = max m.pace ((m.lane t s).since + 400) ∧
      (∀ k ∈ m.together t s, (m'.lane t k).forceSw = (!m.boosted t k) ∧ (m'.lane t k).ben = m.boosted t k ∧
        (m'.lane t k).since = (m.lane t k).since ∧
        (m.swapRuns t ld = true → (m.lane t k).hold = false →
          (m'.lane t k).dacOut = (m.clipCodes t ld (m.gov t ld) (m.swapCode t ld)).2)) ∧
      (m.swapRuns t ld = true → (m.clipCodes t ld (m.gov t ld) (m.swapCode t ld)).1 ≠ (m.clipCodes t ld (m.gov t ld) (m.swapCode t ld)).2 →
        m'.r (.lane t ld) .laneReachClip = 1) ∧
      RegsKept m m' (fun p f => p = .lane t ld ∧ f = .laneReachClip) ∧
      LanesKept m m' (laneKeys t (m.together t s)) ∧
      m' = { m with pace := m'.pace, regs := m'.regs, lanes := m'.lanes, msix := m'.msix }) ∧
  (∀ (t s : Nat) (m : State), m.sw t s = .connecting → ((m.lane t s).forceSw = true ∨ (m.lane t s).ben = true) →
    (m.lane t (m.leader t s)).swapHits < 3 → m.shadowed t (m.leader t s) = false →
    Completes (.connected t s) m fun m' =>
      let e := (m.lane t s).since + 1200
      m'.pace = max m.pace e ∧
      (∀ k ∈ m.together t s, m'.r (.lane t k) .laneSwState = Sw.connected.code ∧ (m'.lane t k).since = e ∧
        (m'.lane t k).forceSw = (m.lane t k).forceSw) ∧
      RegsKept m m' (OfLanes t (m.together t s) [.laneSwState, .laneReachClip]) ∧
      LanesKept m m' (laneKeys t (m.together t s)) ∧
      m' = { m with pace := m'.pace, regs := m'.regs, lanes := m'.lanes, msix := m'.msix })) ∧
  (
  (∀ (t s : Nat) (m : State), m.sw t s = .disconnecting → (m.lane t s).rampStep < 64 →
    Completes (.disconnectRampStep t s) m fun m' =>
      let k := (m.lane t s).rampStep + 1
      m'.pace = max m.pace ((m.lane t s).since + 160 * k) ∧
      (∀ j ∈ m.leaving t s, (m'.lane t j).rampStep = k ∧
        (m'.lane t j).dacLevel = nearest ((m.lane t j).rampFrom * (64 - k)) 64 ∧ (m'.lane t j).dacOut = (m'.lane t j).dacLevel) ∧
      LanesKept m m' (laneKeys t (m.leaving t s)) ∧ m' = { m with pace := m'.pace, lanes := m'.lanes }) ∧
  (∀ (t s : Nat) (m : State), m.sw t s = .disconnecting → (m.lane t s).rampStep = 64 →
    Completes (.disconnectSwitchOpen t s) m fun m' =>
      m'.pace = max m.pace ((m.lane t s).since + (if (m.lane t s).noRamp then 0 else 10240) + 400) ∧
      (∀ j ∈ m.leaving t s, (m'.lane t j).forceSw = false ∧ (m'.lane t j).pinSw = false ∧ (m'.lane t j).ben = false ∧
        (m'.lane t j).senseSw = (m.lane t j).senseSw ∧ m'.sw t j = .disconnecting) ∧
      LanesKept m m' (laneKeys t (m.leaving t s)) ∧ m' = { m with pace := m'.pace, lanes := m'.lanes }) ∧
  (∀ (t s : Nat) (m : State), m.sw t s = .disconnecting → 64 < (m.lane t s).rampStep → m.calm t = true →
    (m.lane t (m.leader t s)).pulse = none →
    (∀ j ∈ m.leaving t s, (m.lane t j).owner = none ∧ (m.lane t j).rstPend = false) → (m.subst t).xfer = none →
    Completes (.disconnectSwitchOpen t s) m fun m' =>
      let e := (m.lane t s).since + (if (m.lane t s).noRamp then 0 else 10240) + 800
      m'.pace = max m.pace e ∧
      (∀ j ∈ m.leaving t s, m'.sw t j = .disconnected ∧ (m'.lane t j).since = e ∧ (m'.lane t j).senseSw = false ∧
        (m'.lane t j).forceSw = false ∧ (m'.lane t j).dacLevel = 0) ∧
      RegsKept m m' (fun p f => p = .lane t s ∨ (∃ k ∈ m.together t s, p = .lane t k) ∨ (p = .pwr ∧ f = .pwrOverAllow)) ∧
      LanesKept m m' (laneKeys t (s :: m.together t s)) ∧
      m' = { m with pace := m'.pace, regs := m'.regs, lanes := m'.lanes, msix := m'.msix, substs := m'.substs,
                    flight := m'.flight }))

/-- A swapped connection, an external source and a booster fault open every switch of the lane's gang or of the lane at once, and
each lane is FAULTED: the one concerned with its own code, another member with GANG (R94, R264, R266, R269, R270, R275, R277).
Here nobody holds the lane and nothing waits for it to open. -/
def Obligations.FaultsOpenTheUnit : Prop :=
  ∀ (t s : Nat) (m : State), m.calm t = true → (m.lane t (m.leader t s)).owner = none → (m.subst t).xfer = none →
    (∀ k ∈ m.together t s, m.calHold t k = false) →
    let faulted (code : Nat) (m' : State) : Prop :=
      (∀ k ∈ m.together t s, m'.r (.lane t k) .laneSwState = Sw.faulted.code ∧ m'.r (.lane t k) .laneFault = 1 ∧
        m'.r (.lane t k) .laneFaultCode = (if k = s then code else 8) ∧ (m'.lane t k).forceSw = false ∧
        (m'.lane t k).senseSw = false ∧ (m'.lane t k).pinSw = false ∧ (m'.lane t k).ben = false) ∧
      RegsKept m m' (fun p f => (∃ k ∈ m.together t s, p = .lane t k) ∨ (p = .dev ∧ f = .devStatAlert) ∨
        (p = .tile t ∧ f = .tileBoostFault)) ∧
      LanesKept m m' (laneKeys t (m.together t s)) ∧
      m' = { m with regs := m'.regs, lanes := m'.lanes, msix := m'.msix, substs := m'.substs, flight := m'.flight,
                    faultLog := m'.faultLog, freeCtr := m'.freeCtr }
    (m.sw t s = .connecting → 3 ≤ (m.lane t s).swapHits → Completes (.swap t s) m (faulted 5)) ∧
    (∀ uv : Int, m.laneOn t s = true → m.beyondReach t s uv = true → uv.natAbs ≤ 30000000 →
      Completes (.overdrive t s uv) m (faulted 2)) ∧
    (∀ lowNs : Nat, m.tileOn t = true → m.boosted t s = true → 100 ≤ lowNs →
      Completes (.boostFault t lowNs) m fun m' => faulted 6 m' ∧ m'.r (.tile t) .tileBoostFault = 1) ∧
    (∀ v i : Int, m.tileOn t = true → m.boosted t s = true → v.natAbs ≤ 6000 → i.natAbs ≤ 6000 →
      (5500 < v.natAbs ∨ 5500 < i.natAbs) →
      Completes (.boostSenseOverdrive t v i) m fun m' => faulted 6 m' ∧ m'.r (.tile t) .tileBoostFault = 1)

/-! Writes to the lane page, gangs and the booster port (R55, R86, R87, R92). -/

/-- A write of LANE_FORCE or LANE_PERS that some rule refuses only sets REFUSED with its code and counts (R55); one that no rule
refuses and that the governor admits stores its fields with ORIGIN 0 and puts none of them in force (R22, R86, R449). While
the reset of the lane's site runs every write is refused with LOCKED (R434). LANE_RST on a DISCONNECTED lane that nobody holds
returns its LIVE and CNT fields to their reset values and resets both monitors, unresolved until an input is known, while the
lane stays DISCONNECTED (R253, R385). -/
def Obligations.LaneWritesAndReset : Prop :=
  (
  ∀ (fn t s : Nat) (w : Word) (m : State), m.hostAt fn (.lane t s) = true →
    let p := Page.lane t s
    let refused (y : Why) (m' : State) : Prop :=
      m'.r p .laneRefused = 1 ∧ m'.r p .laneRefuseCode = y.code ∧
      m'.r p .laneRefuseCnt = (m.r p .laneRefuseCnt + 1) % 2 ^ (Fld.laneRefuseCnt).w ∧
      RegsKept m m' (fun q f => q = p ∧ f ∈ [.laneRefused, .laneRefuseCode, .laneRefuseCnt]) ∧
      m' = { m with regs := m'.regs, msix := m'.msix }
    (m.flrShut t s = true →
      Completes (.laneForceWrite fn t s w) m (refused .locked) ∧ Completes (.lanePersWrite fn t s w) m (refused .locked)) ∧
    (m.flrShut t s = false →
    let stored (off : Nat) (o : Fld) (m' : State) : Prop :=
      (∀ f ∈ fieldsAt p fn off, f.cls = .live → m'.r p f = f.of w) ∧ m'.r p o = 0 ∧
      RegsKept m m' (fun q f => (q = p ∧ f.off = off) ∨ (q = .pwr ∧ f = .pwrOverAllow)) ∧ m' = { m with regs := m'.regs }
    (∀ y, m.laneCheck t s 0x100 w false = some y → Completes (.laneForceWrite fn t s w) m (refused y)) ∧
    (∀ y, m.laneCheck t s 0x134 w false = some y → Completes (.lanePersWrite fn t s w) m (refused y)) ∧
    (m.laneCheck t s 0x100 w false = none → Fld.laneForceMode.of w ≠ 0 → m.cur.pfail = none →
      governor m (m.classWrite fn p 0x100 w) t s = none →
      Completes (.laneForceWrite fn t s w) m (stored 0x100 .laneForceOrigin)) ∧
    (m.laneCheck t s 0x134 w false = none → m.sw t s ≠ .pin → m.cur.pfail = none →
      governor m (m.classWrite fn p 0x134 w) t s = none →
      Completes (.lanePersWrite fn t s w) m (stored 0x134 .lanePersOrigin)))) ∧
  (
  ∀ (fn t s : Nat) (m : State), m.hostAt fn (.lane t s) = true → m.unit t s = [s] → m.follower t s = false →
    m.flrShut t s = false → m.r (.lane t s) .laneRstCmd ≠ 1 → m.unheld t s = true → m.sw t s = .disconnected →
    Completes (.laneRst fn t s) m fun m' =>
      (∀ f ∈ (Page.lane t s).fields fn, (f.cls = .live ∨ f.cls = .cnt) → m'.r (.lane t s) f = regReset (.lane t s) f) ∧
      (∀ n, n < 2 → ((m.lane t s).wm n).inp = none → m'.r (.lane t s) (.laneWmUnres n) = 1) ∧
      m'.r (.lane t s) .laneSwState = Sw.disconnected.code ∧ (m'.lane t s).rstPend = false ∧
      RegsKept m m' (fun p f => p = .lane t s ∨ (p = .pwr ∧ f = .pwrOverAllow)) ∧
      LatKept m m' (fun p _ => p = .lane t s) ∧ LanesKept m m' [t * 10 + s] ∧
      m' = { m with regs := m'.regs, lat := m'.lat, lanes := m'.lanes, msix := m'.msix, substs := m'.substs,
                    flight := m'.flight })

/-- TILE_GANG and TILE_BOOST are stored whole where their conditions hold, and else the tile refuses with WRONG_STATE and nothing
is stored (R55, R87, R92); a TILE_GANG write keeps the gangs of the tile apart (R87). -/
def Obligations.GangAndBoosterWrites : Prop :=
  ∀ (fn t : Nat) (w : Word) (m : State), m.hostAt fn (.tile t) = true →
    let p := Page.tile t
    let refused (m' : State) : Prop :=
      m'.r p .tileRefused = 1 ∧ m'.r p .tileRefuseCode = Why.wrongState.code ∧
      RegsKept m m' (fun q f => q = p ∧ f ∈ [.tileRefused, .tileRefuseCode, .tileRefuseCnt]) ∧
      m' = { m with regs := m'.regs, msix := m'.msix }
    (∀ g, g < 4 →
      (m.gangOk t g w = true → Completes (.tileGangWrite fn t g w) m fun m' =>
        m'.r p (.tileGangMembers g) = (Fld.tileGangMembers g).of w ∧ m'.r p (.tileGangLeader g) = (Fld.tileGangLeader g).of w ∧
        RegsKept m m' (fun q f => q = p ∧ f ∈ [.tileGangMembers g, .tileGangLeader g]) ∧
        (m.gangsApart t = true → m'.gangsApart t = true) ∧ m' = { m with regs := m'.regs }) ∧
      (m.gangOk t g w = false → Completes (.tileGangWrite fn t g w) m refused)) ∧
    (m.hasBoost = true → m.boostOk t w = true → Completes (.tileBoostWrite fn t w) m fun m' =>
      m'.r p .tileBoostEn = Fld.tileBoostEn.of w ∧ m'.r p .tileBoostSlot = Fld.tileBoostSlot.of w ∧
      RegsKept m m' (fun q f => q = p ∧ f ∈ [.tileBoostEn, .tileBoostSlot]) ∧ m' = { m with regs := m'.regs }) ∧
    (m.hasBoost = true → m.boostOk t w = false → Completes (.tileBoostWrite fn t w) m refused)

/-! Sample instants, apertures, ranges and supervisors (R22, R45 to R62, R75 to R82). -/

/-- One tick before an ADC sample instant the fields that follow the ADC samples come into force, the clamps among them unless a
fold-back caps them (R22, R43, R268); one tick before a DAC sample instant LANE_FORCE, LANE_DAC and LANE_PERS do (R22), here
where the write changes neither range nor mode nor personality. A calibration hold begins and ends there (R324), and the
corrections of the latest interpolation come into force (R317); the monitors compare against what has been latched (R251). A
change of AVG or QTY begins a new aperture on their grid, and one that ends on that very instant gives its result (R46; the
model's choice, log entry 44). The tile here is not in TFOLD, in which a limit that comes to exceed 10 mA is folded back at once
(R281). -/
def Obligations.LatchTakesStoredFields : Prop :=
  ∀ (t s : Nat) (m : State), m.laneOn t s = true → m.followsDac t s = true → m.tfold t = false →
    let p := Page.lane t s
    let latched (m m' : State) : Prop :=
      (m'.lane t s).hold = m.calHold t s ∧
      (∀ c, (m.lane t (m.front t s)).corrNext = some c → (m'.lane t (m.front t s)).corr = some c) ∧
      RegsKept m m' (OfLanes t (m.around t s) (wmFields ++ [.laneWmState 0, .laneWmState 1, .laneResult])) ∧
      LanesKept m m' (laneKeys t (m.front t s :: m.around t s)) ∧
      m' = { m with pace := m'.pace, regs := m'.regs, lat := m'.lat, lanes := m'.lanes, flight := m'.flight, msix := m'.msix }
    ((m.lane t s).latA < m.nextAdc t s →
     (m.nextDac t s ≤ (m.lane t s).latD ∨ m.nextAdc t s < m.nextDac t s) →
      Completes (.latchTick t s) m fun m' =>
        m'.pace = max m.pace (m.nextAdc t s - 1) ∧ (m'.lane t s).latA = m.nextAdc t s ∧
        (∀ f ∈ adcFields, m'.l p f = m.r p f) ∧
        (m.r p .laneFoldback ≠ 1 → ∀ f ∈ clampFields, m'.l p f = m.r p f) ∧
        (let changed := m.r p .laneMeasQty ≠ m.l p .laneMeasQty ∨ m.r p .laneMeasAvg ≠ m.l p .laneMeasAvg
         (changed → (m'.lane t s).accV = {} ∧ (m'.lane t s).accI = {} ∧
          (m'.lane t s).apStart = ceilMul (apTicks (m.r p .laneMeasAvg) (m.r p .laneMeasQty)) (m.nextAdc t s)) ∧
         (¬ changed ∨ m.nextAdc t s < m.apEnd t s → m'.r p .laneResult = m.r p .laneResult)) ∧
        LatKept m m' (fun q f => q = p ∧ f ∈ adcFields ++ clampFields) ∧
        latched m m') ∧
    ((m.lane t s).latD < m.nextDac t s →
     (m.nextAdc t s ≤ (m.lane t s).latA ∨ m.nextDac t s < m.nextAdc t s) →
     m.sw t s = .connected → m.r p .laneForceVrange = m.l p .laneForceVrange →
     m.r p .laneForceIrange = m.l p .laneForceIrange → m.r p .laneForceMode ≠ 4 →
     m.r p .lanePersSel = 0 → (m.lane t s).dds = false →
      Completes (.latchTick t s) m fun m' =>
        m'.pace = max m.pace (m.nextDac t s - 1) ∧ (m'.lane t s).latD = m.nextDac t s ∧ m'.sw t s = .connected ∧
        m'.r p .laneResult = m.r p .laneResult ∧
        (∀ f ∈ [.laneForceLevel, .laneForceMode, .laneForceVrange, .laneForceIrange, .lanePersSel] ++ dacFields,
          m'.l p f = m.r p f) ∧
        LatKept m m' (fun q f => q = p ∧
          f ∈ [.laneForceLevel, .laneForceMode, .laneForceVrange, .laneForceIrange, .lanePersSel] ++ dacFields) ∧
        latched m m')

/-- A DAC sample with SRC = DIRECT takes LEVEL as latched, held to FS and to the reach of the rail ceiling, the next one follows
DIV ticks later (R49, R50, R83), the members of a gang force their share (R89), and each DAC converts the code that its
corrections give (R317). A load strobe plays the front entry of the queue of a lane of its group: LEVEL is written and in
force, the entry leaves the queue (R49, R51, R53); an entry of MEAS leaves the level that stands (R139). The lane here is the
only one of its group, the entry is its step's first and has no range part, and no bad descriptor and no timed wait is
pending. -/
def Obligations.DacSamplesTakeTheirSource : Prop :=
  (
  ∀ (t s : Nat) (m : State), m.laneOn t s = true → m.sw t s = .connected → m.follower t s = false → (m.lane t s).owner = none →
    m.nextDac t s ≤ (m.lane t s).latD → (m.lane t s).hold = false → (m.lane t s).rngPend = none →
    (m.lane t s).dds = false → (m.lane t s).pulse = none → (m.lane t s).step = none →
    Completes (.dacSample t s) m fun m' =>
      let e := m.nextDac t s
      let lv := sext 20 (m.l (.lane t s) .laneForceLevel)
      let out := (m.clipCodes t s (m.gov t s) lv).2
      m'.pace = max m.pace e ∧ (m'.lane t s).dacLevel = lv ∧ (m'.lane t s).dacOut = out ∧
      (∀ k ∈ m.unit t s, (m.lane t k).hold = false → (m'.lane t k).dacOut = out ∧ (m'.lane t k).conv = m.driving t k out) ∧
      (m'.lane t s).dacLast = e ∧ (m'.lane t s).dacNext = e + m.l (.lane t s) .laneDacDiv ∧
      RegsKept m m' (OfLanes t [s] [.laneReachClip]) ∧ LanesKept m m' (laneKeys t (m.around t s)) ∧
      m' = { m with pace := m'.pace, regs := m'.regs, lanes := m'.lanes, msix := m'.msix }) ∧
  (
  ∀ (g hop t s id : Nat) (q : QEntry) (rest : List QEntry) (m : State), t < 16 → s < 10 → hop < 14 →
    (∀ u k, u < 16 → k < 10 → (u = t ∧ k = s) ∨ m.l (.lane u k) .laneDacGroup ≠ g) →
    m.laneOn t s = true → m.srcOf t s = 2 → m.l (.lane t s) .laneDacGroup = g →
    (m.lane t s).owner = some (.ctx id) → (m.ctx id).badDesc = none → (∀ c ∈ m.ctxs, c.2.waitI = none) → (m.lane t s).qGate = true →
    (m.lane t s).qFrom < m.pace → ((m.lane t s).lastUpdate = 0 ∨ (m.lane t s).lastUpdate + 80 ≤ m.pace) →
    (m.lane t s).step = none → (m.lane t s).dwellEnd = 0 → (m.lane t s).dacQ = q :: rest → q.rep = 0 → q.fin = false →
    q.cfg.strobe = true → q.w.getLsbD 27 = false → (m.lane t s).latch.length < 8 →
    (q.keep = true → m.r (.lane t s) .laneForceLevel < 2 ^ 20 ∧ wbits q.w 0 20 = 0) →
    Completes (.loadStrobe g hop) m fun m' =>
      let lv := if q.keep then m.r (.lane t s) .laneForceLevel else wbits q.w 0 20
      (m'.lane t s).dacQ = rest ∧ m'.r (.lane t s) .laneForceLevel = lv ∧
      m'.l (.lane t s) .laneForceLevel = lv ∧ (m'.lane t s).dacLast = m.pace ∧
      (m'.lane t s).dacLevel = sext 20 lv ∧ ((m'.lane t s).step.map (·.u)) = some m.pace ∧
      (m'.ctx id).steps = (m.ctx id).steps + 1 ∧
      RegsKept m m' (OfLanes t [s] [.laneForceLevel, .laneForceOrigin, .laneDacGroup, .laneDacOrigin, .laneReachClip,
        .laneDdsClip]) ∧
      LatKept m m' (OfLanes t [s] [.laneForceLevel, .laneDacGroup]) ∧ LanesKept m m' (laneKeys t (m.around t s)) ∧
      m' = { m with regs := m'.regs, lat := m'.lat, lanes := m'.lanes, ctxs := m'.ctxs, flight := m'.flight, msix := m'.msix })

/-- An ADC sample of a lane that nobody holds enters its histories and, with QTY = V, its aperture, valued on the range on which
it was taken, as its element's corrections read it (R45, R46, R47, R317); the current word of the aperture only takes the
flags. AUTO ranging is off here, no pulse is measured, no range change waits and no transfer runs. The end of a lane aperture
of voltage samples puts the result word of R47 into LANE_RESULT and the next aperture begins there (R46). -/
def Obligations.AdcSamplesGiveResults : Prop :=
  (
  ∀ (t s : Nat) (x : AdcIn) (m : State), m.laneOn t s = true → m.frameDue t s (m.nextAdc t s) = false →
    m.nextAdc t s ≤ (m.lane t s).latA → (m.lane t s).owner = none → (m.lane t s).step = none → (m.lane t s).pm = [] →
    (m.lane t s).rngPend = none → (m.lane t s).hold = false → m.l (.lane t s) .laneRangeAuto = 0 → (m.subst t).xfer = none →
    m.l (.lane t s) .laneMeasQty = 1 → (m.lane t s).apStart ≤ m.nextAdc t s → m.nextAdc t s < m.apEnd t s →
    Completes (.adcSample t s x) m fun m' =>
      let e := m.nextAdc t s
      m'.pace = max m.pace e ∧ (m'.lane t s).adcLast = some e ∧
      (m'.lane t s).accV.n = (m.lane t s).accV.n + 1 ∧
      (m'.lane t s).accV.sum = (m.lane t s).accV.sum + m.reading t s false x.rawV * (m.adcFs t s).1 ∧
      (m'.lane t s).accI.n = (m.lane t s).accI.n ∧ (m'.lane t s).accI.sum = (m.lane t s).accI.sum ∧
      (m'.lane t s).histV = (x.vMeas :: (m.lane t s).histV).take 4 ∧
      (m'.lane t s).histI = (x.cur :: (m.lane t s).histI).take 4 ∧
      RegsKept m m' (OfLanes t [s] [.laneCompl, .laneComplIn, .laneComplOut, .laneComplCnt, .laneRail]) ∧
      LanesKept m m' [t * 10 + s] ∧
      m' = { m with pace := m'.pace, regs := m'.regs, lanes := m'.lanes, acqs := m'.acqs, flight := m'.flight, msix := m'.msix }) ∧
  (
  ∀ (t s z : Nat) (m : State), m.laneOn t s = true → (m.lane t s).step = none → (m.lane t s).hold = false →
    (m.lane t s).adcLast = some z → m.apEnd t s ≤ z + 50 → (m.lane t s).accV.n ≠ 0 →
    Completes (.apertureEnd t s) m fun m' =>
      m'.pace = max m.pace (m.apEnd t s) ∧
      m'.r (.lane t s) .laneResult = resultWord (m.lane t s).accV false % 2 ^ 32 ∧
      (m'.lane t s).apStart = m.apEnd t s ∧ (m'.lane t s).accV = {} ∧ (m'.lane t s).accI = {} ∧
      RegsKept m m' (OfLanes t [s] [.laneResult]) ∧ LanesKept m m' [t * 10 + s] ∧
      m' = { m with pace := m'.pace, regs := m'.regs, lanes := m'.lanes })

/-- The ranging window (R75): 160 ticks after its start the old element opens, 1,600 ticks after it the window ends and a blanked
monitor compares again (R255); the rail moves one step down after 64 samples that allow it, not below its floor (R82) and not
in PIN (R84). The supervisors (R61, R62, R63): OPEN_LOAD after DWELL microseconds, COMPL_LONG once compliance has lasted
longer than CLIM microseconds, on the first tick after that time (the model's choice, log entry 3), each once, a gang by its
leader's (R89), and ACT = 1 writes LEVEL = 0 with ORIGIN 1. -/
def Obligations.RangingRailAndSupervisors : Prop :=
  (
  (∀ (t s z : Nat) (m : State), (m.lane t s).rangeS = some z → (m.lane t s).oldElem = true →
    Completes (.oldElementOpen t s) m fun m' =>
      m'.pace = max m.pace (z + 160) ∧ (m'.lane t s).oldElem = false ∧ (m'.lane t s).rangeS = some z ∧
      LanesKept m m' [t * 10 + s] ∧ m' = { m with pace := m'.pace, lanes := m'.lanes }) ∧
  (∀ (t s z : Nat) (m : State), (m.lane t s).rangeS = some z →
    Completes (.rangingWindowEnd t s) m fun m' =>
      m'.pace = max m.pace (z + 1600) ∧ (m'.lane t s).oldElem = false ∧ (m'.lane t s).rangeS = none ∧
      RegsKept m m' (OfLanes t (m.around t s) wmFields) ∧ LanesKept m m' (laneKeys t (m.around t s)) ∧
      m' = { m with pace := m'.pace, regs := m'.regs, lanes := m'.lanes, flight := m'.flight, msix := m'.msix }) ∧
  (∀ (t s : Nat) (m : State), m.laneOn t s = true → 64 ≤ (m.lane t s).railCnt →
    let g : Fld → Nat := fun f => if f = .laneForceVrange then m.gov t s f else m.inForce t s f
    (m.sw t s = .pin ∨ m.r (.lane t s) .laneRail ≤ railFloor g → Completes (.railMoveDown t s) m fun m' => m' = m) ∧
    (m.sw t s ≠ .pin → railFloor g < m.r (.lane t s) .laneRail → m.r (.lane t s) .laneRail < 4 →
    Completes (.railMoveDown t s) m fun m' =>
      m'.r (.lane t s) .laneRail = m.r (.lane t s) .laneRail - 1 ∧ (m'.lane t s).railCnt = 0 ∧
      RegsKept m m' (OfLanes t [s] [.laneRail]) ∧ LanesKept m m' [t * 10 + s] ∧
      m' = { m with regs := m'.regs, lanes := m'.lanes }))) ∧
  (
  ∀ (t s : Nat) (m : State), m.laneOn t s = true → m.l (.lane t s) .laneSupvAct < 2 →
    let p := Page.lane t s
    let acted (m' : State) : Prop :=
      (m.l p .laneSupvAct = 1 → m'.r p .laneForceLevel = 0 ∧ m'.r p .laneForceOrigin = 1) ∧
      (m.l p .laneSupvAct = 0 → m'.r p .laneForceLevel = m.r p .laneForceLevel) ∧
      LanesKept m m' [t * 10 + s] ∧
      m' = { m with pace := m'.pace, regs := m'.regs, lanes := m'.lanes, flight := m'.flight, msix := m'.msix }
    (∀ z, (m.lane t s).openSince = some z → (m.lane t s).openDone = false →
      z + 800 * m.l p .laneSupvDwell ≤ (m.lane t s).sampledTo →
      Completes (.openLoad t s) m fun m' =>
        m'.pace = max m.pace (z + 800 * m.l p .laneSupvDwell) ∧ m'.r p .laneOpenLoad = 1 ∧ (m'.lane t s).openDone = true ∧
        RegsKept m m' (OfLanes t [s] [.laneOpenLoad, .laneForceLevel, .laneForceOrigin]) ∧ acted m') ∧
    (let e := (m.lane t s).complSince + 800 * m.l p .laneSupvClim + 1
     m.l p .laneSupvClim ≠ 0 → m.r p .laneCompl = 1 → (m.lane t s).longDone = false → m.follower t s = false →
     e ≤ (m.lane t s).sampledTo →
      Completes (.complLong t s) m fun m' =>
        m'.pace = max m.pace e ∧ m'.r p .laneComplLong = 1 ∧ (m'.lane t s).longDone = true ∧
        RegsKept m m' (OfLanes t [s] [.laneComplLong, .laneForceLevel, .laneForceOrigin]) ∧ acted m'))

/-! Pulse trains and personalities (R69 to R74, R99, R105, R106). -/

/-- A pulse train starts by its command with the first pulse on the first tick after, or on the tick of a delivery on
LANE_PULSE_GO, of which several on one tick make one activation (R302); CMD reads START or STOP until the train ends (R447);
STOP lets a pulse on its top end and ends a train between pulses at once (R70, R71, R72, R289), and while CMD reads STOP a
further one is ignored (R448, R452). A pulse drives TOP, as the clips leave it, on every lane of the unit from its start for
WIDTH ticks (R70, R83, R89); the train ends after COUNT pulses, by a STOP or with PERIOD = 0, and else its next pulse starts
PERIOD ticks after this one (R72); a pulse's measurement gives LANE_PULSE_RESULT at its end (R74). -/
def Obligations.PulseTrains : Prop :=
  (
  (∀ (fn t s : Nat) (m : State), m.hostAt fn (.lane t s) = true → m.follower t s = false → m.locked t s = false →
    m.pulseOk t s = true → m.r (.lane t s) .lanePulseCount < 65536 →
    Completes (.pulseStartCmd fn t s) m fun m' =>
      (m'.lane t s).pulse = some { start := m.pace + 1 } ∧ m'.r (.lane t s) .lanePulseCmd = 1 ∧
      RegsKept m m' (OfLanes t [s] [.lanePulseCmd]) ∧ LanesKept m m' [t * 10 + s] ∧ m' = { m with regs := m'.regs, lanes := m'.lanes }) ∧
  (∀ (fn t s : Nat) (q : Pulse) (m : State), m.hostAt fn (.lane t s) = true → m.follower t s = false →
    m.locked t s = false → m.r (.lane t s) .lanePulseCount < 65536 → (m.lane t s).pulse = some q →
    (m.r (.lane t s) .lanePulseCmd = 2 → Completes (.pulseStopCmd fn t s) m fun m' =>
      m'.r (.lane t s) (.ignIgn fn) = 1 ∧ m'.r (.lane t s) .lanePulseCmd = 2 ∧ m'.lane t s = m.lane t s) ∧
    (m.r (.lane t s) .lanePulseCmd ≠ 2 → Completes (.pulseStopCmd fn t s) m fun m' =>
      (m'.lane t s).pulse = (if q.onTop then some { q with stopReq := true } else none) ∧
      m'.r (.lane t s) .lanePulseCmd = (if q.onTop then 2 else 0) ∧ RegsKept m m' (OfLanes t [s] [.lanePulseCmd]) ∧ LanesKept m m' [t * 10 + s] ∧
      m' = { m with regs := m'.regs, lanes := m'.lanes, flight := m'.flight })) ∧
  (∀ (t s hop : Nat) (m : State), m.laneOn t s = true → m.pulseOk t s = true → m.follower t s = false →
    tabGet 0 (m.tile t).deliv s ≠ m.pace + 1 →
    Completes (.lanePulseGo t s hop) m fun m' =>
      (m'.lane t s).pulse = some { start := m.pace, hop := hop + 1 } ∧
      m'.tile t = { m.tile t with deliv := tabSet (m.tile t).deliv s (m.pace + 1) } ∧
      LanesKept m m' [t * 10 + s] ∧ m' = { m with lanes := m'.lanes, tiles := m'.tiles }) ∧
  (∀ (t s hop : Nat) (m : State), m.laneOn t s = true → tabGet 0 (m.tile t).deliv s = m.pace + 1 →
    Completes (.lanePulseGo t s hop) m fun m' =>
      m'.r (.bat t) .batCoalesced = (m.r (.bat t) .batCoalesced + 1) % 2 ^ Fld.batCoalesced.w ∧
      m'.r (.bat t) .batCoalLast = s % 2 ^ Fld.batCoalLast.w ∧
      RegsKept m m' (fun p f => p = .bat t ∧ f ∈ [.batCoalesced, .batCoalLast]) ∧ m' = { m with regs := m'.regs })) ∧
  (
  (∀ (t s : Nat) (q : Pulse) (m : State), m.laneOn t s = true → (m.lane t s).pulse = some q → q.onTop = false →
    m.sw t s = .connected → q.hop < 15 →
    let top := (m.clipCodes t s (m.gov t s) (sext 20 (m.l (.lane t s) .lanePulseTop))).2
    Completes (.pulseStart t s) m fun m' =>
      m'.pace = max m.pace q.start ∧ (m'.lane t s).pulse = some { q with onTop := true } ∧
      (∀ k ∈ m.unit t s, (m.lane t k).hold = false → (m'.lane t k).dacOut = top) ∧
      (m'.lane t s).pm.length = (m.lane t s).pm.length + 1 ∧ RegsKept m m' (OfLanes t [s] [.laneReachClip]) ∧
      LanesKept m m' (laneKeys t (m.around t s)) ∧
      m' = { m with pace := m'.pace, regs := m'.regs, lanes := m'.lanes, flight := m'.flight, msix := m'.msix }) ∧
  (∀ (t s : Nat) (q : Pulse) (m : State), m.laneOn t s = true → (m.lane t s).pulse = some q → q.onTop = true →
    let p := Page.lane t s
    let last := q.stopReq = true ∨ m.l p .lanePulsePeriod = 0 ∨ (m.l p .lanePulseCount ≠ 0 ∧ m.l p .lanePulseCount ≤ q.done + 1)
    Completes (.pulseEnd t s) m fun m' =>
      m'.pace = max m.pace (q.start + m.l p .lanePulseWidth) ∧
      (last → (m'.lane t s).pulse = none ∧ m'.r p .lanePulseCmd = 0) ∧
      (¬ last → (m'.lane t s).pulse =
        some { q with onTop := false, done := q.done + 1, start := q.start + m.l p .lanePulsePeriod }) ∧
      RegsKept m m' (OfLanes t [s] [.laneReachClip, .laneDdsClip, .lanePulseCmd]) ∧ LanesKept m m' (laneKeys t (m.around t s)) ∧
      m' = { m with pace := m'.pace, regs := m'.regs, lanes := m'.lanes, flight := m'.flight, msix := m'.msix }) ∧
  (∀ (t s z : Nat) (q : PulseMeas) (m : State), m.laneOn t s = true → (m.lane t s).adcLast = some z → (m.lane t s).pm = [q] →
    q.stop ≤ z + 50 → q.v.n ≠ 0 →
    Completes (.pulseMeas t s) m fun m' =>
      m'.pace = max m.pace q.stop ∧ (m'.lane t s).pm = [] ∧
      m'.r (.lane t s) .lanePulseResult = resultWord q.v false % 2 ^ 32 ∧
      RegsKept m m' (OfLanes t [s] [.lanePulseResult]) ∧ LanesKept m m' [t * 10 + s] ∧
      m' = { m with pace := m'.pace, regs := m'.regs, lanes := m'.lanes, flight := m'.flight }))

/-- TO_PIN and TO_SMU in their steps, 8,000, 8,400 and 8,800 ticks after their start (R105, R106); TO_SMU ends CONNECTED with FV
on V8 written by hardware, on the code nearest to PARK (the model's choice, log entry 44). The lane belongs to no gang, as
R104 asks of every lane on its way to PIN; a disconnect that was held until then is another command's statement. With STOP =
ZERO_CROSS the DDS stimulus ends at the DAC sample at which the accumulator wraps, and the DAC then drives the level without
it (R99). The lane here is connected, unheld and latched. -/
def Obligations.PersonalityTransitions : Prop :=
  (
  ∀ (t s : Nat) (m : State),
    let d := m.lane t s
    (m.sw t s = .toPin →
      (d.toStep = 0 → Completes (.toPinStep t s) m fun m' =>
        m'.pace = max m.pace (d.since + 8000) ∧ (m'.lane t s).pinSw = true ∧ (m'.lane t s).forceSw = d.forceSw ∧
        (m'.lane t s).toStep = 1 ∧ LanesKept m m' [t * 10 + s] ∧ m' = { m with pace := m'.pace, lanes := m'.lanes }) ∧
      (d.toStep = 1 → Completes (.toPinStep t s) m fun m' =>
        m'.pace = max m.pace (d.since + 8400) ∧ (m'.lane t s).forceSw = false ∧ (m'.lane t s).senseSw = false ∧
        (m'.lane t s).pinSw = d.pinSw ∧ (m'.lane t s).toStep = 2 ∧ LanesKept m m' [t * 10 + s] ∧
        m' = { m with pace := m'.pace, lanes := m'.lanes }) ∧
      (d.toStep = 2 → d.dcPend = none → Completes (.toPinStep t s) m fun m' =>
        m'.pace = max m.pace (d.since + 8800) ∧ m'.sw t s = .pin ∧ (m'.lane t s).since = d.since + 8800 ∧
        RegsKept m m' (fun p f => OfLanes t (m.around t s) (wmFields ++ [.laneSwState, .laneWmState 0, .laneWmState 1]) p f ∨
          (p = .pwr ∧ f = .pwrOverAllow)) ∧
        LanesKept m m' (laneKeys t (m.around t s)) ∧
        m' = { m with pace := m'.pace, regs := m'.regs, lanes := m'.lanes, flight := m'.flight, msix := m'.msix })) ∧
    (m.sw t s = .toSmu →
      (d.toStep = 0 → Completes (.toSmuStep t s) m fun m' =>
        m'.pace = max m.pace (d.since + 8000) ∧ (m'.lane t s).forceSw = true ∧ (m'.lane t s).senseSw = true ∧
        (m'.lane t s).toStep = 1 ∧ LanesKept m m' [t * 10 + s] ∧ m' = { m with pace := m'.pace, lanes := m'.lanes }) ∧
      (d.toStep = 1 → Completes (.toSmuStep t s) m fun m' =>
        m'.pace = max m.pace (d.since + 8400) ∧ (m'.lane t s).pinSw = false ∧ (m'.lane t s).drv.powered = false ∧
        (m'.lane t s).toStep = 2 ∧ LanesKept m m' [t * 10 + s] ∧ m' = { m with pace := m'.pace, lanes := m'.lanes }) ∧
      (d.toStep = 2 → d.dcPend = none → m.follower t s = false → Completes (.toSmuStep t s) m fun m' =>
        m'.pace = max m.pace (d.since + 8800) ∧ m'.sw t s = .connected ∧ (m'.lane t s).since = d.since + 8800 ∧
        m'.l (.lane t s) .laneForceMode = 1 ∧ m'.l (.lane t s) .laneForceVrange = 1 ∧
        m'.r (.lane t s) .laneForceLevel = enc 20 (m.parkCode t s 8000000) % 2 ^ 20 ∧ m'.r (.lane t s) .laneForceOrigin = 1 ∧
        (m'.lane t s).dacLevel = m.parkCode t s 8000000 ∧
        RegsKept m m' (fun p f => (p = .lane t s ∧
          f ∈ [.laneSwState, .laneForceLevel, .laneForceMode, .laneForceVrange, .laneForceOrigin, .laneReachClip]) ∨
          (p = .pwr ∧ f = .pwrOverAllow)) ∧
        LatKept m m' (OfLanes t [s] [.laneForceLevel, .laneForceMode, .laneForceVrange, .laneForceIrange, .lanePersSel]) ∧
        LanesKept m m' (laneKeys t (m.around t s)) ∧
        m' = { m with pace := m'.pace, regs := m'.regs, lat := m'.lat, lanes := m'.lanes, msix := m'.msix }))) ∧
  (
  ∀ (t s : Nat) (m : State), m.laneOn t s = true → m.sw t s = .connected → m.follower t s = false → (m.lane t s).owner = none →
    (m.lane t s).dds = true → (m.lane t s).ddsExit = true → 2 ^ 48 ≤ (m.lane t s).ddsAcc + (m.lane t s).ddsFreqL →
    m.nextDac t s ≤ (m.lane t s).latD → (m.lane t s).hold = false → (m.lane t s).rngPend = none →
    (m.lane t s).pulse = none → (m.lane t s).step = none →
    Completes (.ddsZeroCrossExit t s) m fun m' =>
      let lv := sext 20 (m.l (.lane t s) .laneForceLevel)
      m'.pace = max m.pace (m.nextDac t s) ∧ (m'.lane t s).dds = false ∧ (m'.lane t s).ddsExit = false ∧
      (m'.lane t s).dacLevel = lv ∧ (m'.lane t s).dacOut = (m.clipCodes t s (m.gov t s) lv).2 ∧
      RegsKept m m' (OfLanes t [s] [.laneReachClip]) ∧ LanesKept m m' (laneKeys t (m.around t s)) ∧
      m' = { m with pace := m'.pace, regs := m'.regs, lanes := m'.lanes, msix := m'.msix })

/-! Window monitors (R250 to R263). -/

/-- An input that passes a threshold, by the comparison of R251 and R252 with the range reference in force, sets TRIPn with the
raw state, and with CLAMP = 1 its clamp engages, with PEND = 1 a pulse top of the gang, or of the lane under transfer that the
substitute forces for, ends (R257, R260, R340); a return to INSIDE releases the clamp unless LATCH = 1 (R258); a 1 written to
TRIPn clears it, with LATCH = 1 only while the raw state is INSIDE, and only there is the clamp released (R258). In
DISCONNECTED and MEASURE_ONLY no clamp engages (R256). After a clean crossing, the samples before it showing the state of the
output, the filtered output of a monitor takes the raw state 2 or, with FILT = 1, 4 ticks after it began: out of INSIDE it
sets OUTn and counts, back into INSIDE it sets INn (R254). LANE_WMCHK.CMD = RUNn starts a self-check of monitor n on the first
tick after (R261, R262); it ends 2,400 ticks after its start with the RESULT and STEP that the answers of its six steps give
and DONE, CMD reads 0 again and the monitor is in its reset state (R263), unresolved where its input is not known (R253). -/
def Obligations.WindowMonitors : Prop :=
  (
  ∀ (t s n : Nat) (m : State), n < 2 →
    let p := Page.lane t s
    let mon := (m.lane t s).wm n
    (∀ (x : Int) (sub : Nat), m.wmLive t s n m.pace = true → mon.raw = .inside → m.wmThen t s n x ≠ .inside →
      m.l p (.laneWmPend n) = 0 →
      Completes (.trip t s n x sub) m fun m' =>
        m'.r p (.laneWmTrip n) = 1 ∧ m'.r p (.laneWmUnres n) = 0 ∧
        ((m'.lane t s).wm n).raw = m.wmThen t s n x ∧ ((m'.lane t s).wm n).since = m.pace + 1 ∧
        ((m'.lane t s).wm n).clamp = (mon.clamp || (m.l p (.laneWmClamp n) == 1 && m.wmActs t s)) ∧
        (m'.lane t s).wm (1 - n) = (m.lane t s).wm (1 - n) ∧
        RegsKept m m' (OfLanes t [s] [.laneWmTrip n, .laneWmUnres n]) ∧ LanesKept m m' [t * 10 + s] ∧
        m' = { m with regs := m'.regs, lanes := m'.lanes, flight := m'.flight, msix := m'.msix }) ∧
    (∀ (x : Int) (sub : Nat) (q : Pulse), m.wmLive t s n m.pace = true → mon.raw = .inside → m.wmThen t s n x ≠ .inside →
      m.l p (.laneWmPend n) = 1 → (m.lane t (m.leader t (m.actSlot t s))).pulse = some q → q.onTop = true →
      Completes (.trip t s n x sub) m fun m' =>
        let ld := m.leader t (m.actSlot t s)
        m'.r p (.laneWmTrip n) = 1 ∧ m'.r (.lane t ld) .lanePulseCut = 1 ∧
        (m'.lane t ld).pulse = none ∧ RegsKept m m' (OfLanes t (m.around t s) wmFields) ∧
        LanesKept m m' (laneKeys t (ld :: m.around t s)) ∧
        m' = { m with regs := m'.regs, lanes := m'.lanes, flight := m'.flight, msix := m'.msix }) ∧
    (∀ x : Int, m.wmLive t s n m.pace = true → mon.raw ≠ .inside → m.wmThen t s n x = .inside →
      Completes (.tripClampRelease t s ⟨n, x⟩) m fun m' =>
        ((m'.lane t s).wm n).raw = .inside ∧ m'.r p (.laneWmUnres n) = 0 ∧
        ((m'.lane t s).wm n).clamp = (mon.clamp && m.l p (.laneWmLatch n) != 0) ∧
        m'.r p (.laneWmTrip n) = m.r p (.laneWmTrip n) ∧
        RegsKept m m' (OfLanes t [s] [.laneWmUnres n]) ∧ LanesKept m m' [t * 10 + s] ∧
        m' = { m with regs := m'.regs, lanes := m'.lanes }) ∧
    (∀ fn : Nat, m.hostAt fn p = true → m.flrShut t s = false → mon.raw = .inside →
      Completes (.tripClear fn t s n) m fun m' =>
        m'.r p (.laneWmTrip n) = 0 ∧ ((m'.lane t s).wm n).clamp = false ∧ LanesKept m m' [t * 10 + s] ∧
        RegsKept m m' (fun q f => q = p ∧ f.off = 0x20C) ∧ m' = { m with regs := m'.regs, lanes := m'.lanes }) ∧
    (∀ fn : Nat, m.hostAt fn p = true → m.flrShut t s = false → mon.raw ≠ .inside → m.l p (.laneWmLatch n) = 0 →
      Completes (.tripClear fn t s n) m fun m' =>
        m'.r p (.laneWmTrip n) = 0 ∧ m'.lane t s = m.lane t s ∧
        RegsKept m m' (fun q f => q = p ∧ f.off = 0x20C) ∧ m' = { m with regs := m'.regs }) ∧
    (∀ fn : Nat, m.hostAt fn p = true → m.flrShut t s = false → mon.raw ≠ .inside → m.l p (.laneWmLatch n) ≠ 0 →
      m.r p (.laneWmTrip n) < 2 →
      Completes (.tripClear fn t s n) m fun m' =>
        m'.r p (.laneWmTrip n) = m.r p (.laneWmTrip n) ∧ m'.lane t s = m.lane t s)) ∧
  (
  ∀ (t s n : Nat) (m : State),
    let p := Page.lane t s
    let d := (m.lane t s).wm n
    let e := max (d.since + (if m.l p (.laneWmFilt n) = 1 then 4 else 2)) m.pace
    m.wmLive t s n e = true → m.r p (.laneWmState n) ≠ d.raw.code →
    (∀ i : Nat, i < 8 → (d.sampleAt (d.since - 1 - i)).code = m.r p (.laneWmState n)) →
    Completes (.wmFilteredChange t s n) m fun m' =>
      m'.pace = max m.pace e ∧ m'.r p (.laneWmState n) = d.raw.code ∧
      (m.r p (.laneWmState n) = 0 →
        m'.r p (.laneWmOut n) = 1 ∧ m'.r p (.laneWmCnt n) = (m.r p (.laneWmCnt n) + 1) % 2 ^ (Fld.laneWmCnt n).w) ∧
      (m.r p (.laneWmState n) ≠ 0 → d.raw = .inside → m'.r p (.laneWmIn n) = 1) ∧
      RegsKept m m' (OfLanes t [s] [.laneWmState n, .laneWmOut n, .laneWmIn n, .laneWmCnt n]) ∧
      m' = { m with pace := m'.pace, regs := m'.regs, flight := m'.flight, msix := m'.msix }) ∧
  (
  (∀ (fn t s n : Nat) (m : State), m.hostAt fn (.lane t s) = true → m.flrShut t s = false → n < 2 → m.follower t s = false →
    m.sw t s = .disconnected →
    m.r (.lane t s) (.laneWmTrip n) = 0 → (m.lane t s).chk = none →
    Completes (.wmchkRun fn t s n) m fun m' =>
      (m'.lane t s).chk = some (n, m.pace + 1) ∧ m'.r (.lane t s) .laneWmchkCmd = n + 1 ∧
      RegsKept m m' (OfLanes t [s] [.laneWmchkCmd, .laneWmchkDone]) ∧ LanesKept m m' [t * 10 + s] ∧
      m' = { m with regs := m'.regs, lanes := m'.lanes }) ∧
  (∀ (t s n z : Nat) (r : List ChkStep) (m : State), (m.lane t s).chk = some (n, z) → n < 2 → s < 9 →
    (m.tile t).svcUp = false → m.r .dev .devSvcAutoRetire = 0 →
    Completes (.wmchkDone t s r) m fun m' =>
      m'.pace = max m.pace (z + 2400) ∧ m'.r (.lane t s) .laneWmchkResult = (chkJudge r).1 ∧ m'.r (.lane t s) .laneWmchkStep = (chkJudge r).2 ∧
      m'.r (.lane t s) .laneWmchkCmd = 0 ∧ m'.r (.lane t s) .laneWmchkDone = 1 ∧ (m'.lane t s).chk = none ∧
      m'.r (.lane t s) (.laneWmState n) = 0 ∧
      (((m.lane t s).wm n).inp = none →
        m'.r (.lane t s) (.laneWmUnres n) = 1 ∧ ((m'.lane t s).wm n).raw = .inside ∧ ((m'.lane t s).wm n).clamp = false) ∧
      RegsKept m m' (OfLanes t (m.around t s) (wmFields ++ [.laneWmchkResult, .laneWmchkStep, .laneWmchkCmd, .laneWmchkDone,
        .laneWmState n])) ∧
      LanesKept m m' (laneKeys t (m.leader t s :: m.around t s)) ∧
      m' = { m with pace := m'.pace, regs := m'.regs, lanes := m'.lanes, flight := m'.flight, msix := m'.msix }))

/-! Faults, the reference, temperatures and the budget (R264 to R286). -/

/-- Short compliance for 4,000,000 ticks folds the lane back and reports SHORT on each lane of its gang (R267, R277); the
fold-back is restored, outside TFOLD, after 800,000 ticks out of compliance or by FCLR, which the host asks for and the stored
clamps then apply (R268); while FCLR reads 1 a further one is ignored (R448, R452). The open check (R272, R273, R274): every
800 ticks a phase ends, and the mean of its last eight mismatches is M_on or M_off, which are then evaluated after an off
phase; the third consecutive finding reports FORCE_OPEN with code 3 or SENSE_OPEN with code 4 on the lane, the latter stops
the probe, and means within the limits clear the counts. M_on and M_off stand as sums of eight readings, of which the command
brings those that no ADC sample has presented. -/
def Obligations.FoldbackAndOpenCheck : Prop :=
  (
  (∀ (t s z : Nat) (m : State), m.laneOn t s = true → (m.lane t s).shortSince = some z → z + 4000000 ≤ m.nextAdc t s →
    (m.lane t s).foldShort = false → (m.subst t).xfer = none → s < 9 → (∀ k ∈ m.together t s, m.calHold t k = false) →
    Completes (.foldback t s) m fun m' =>
      m'.pace = max m.pace (m.nextAdc t s) ∧ m'.r (.lane t s) .laneFoldback = 1 ∧ (m'.lane t s).foldShort = true ∧
      (m'.lane t s).shortSince = none ∧
      (∀ k ∈ m.together t s, m'.r (.lane t k) .laneFault = 1 ∧ m'.r (.lane t k) .laneFaultCode = (if k = s then 1 else 8)) ∧
      RegsKept m m' (fun p f => (∃ k ∈ s :: m.together t s, p = .lane t k) ∨ (p = .dev ∧ f = .devStatAlert)) ∧
      LanesKept m m' [t * 10 + s] ∧
      m' = { m with pace := m'.pace, regs := m'.regs, lanes := m'.lanes, flight := m'.flight, msix := m'.msix,
                    faultLog := m'.faultLog, freeCtr := m'.freeCtr, substs := m'.substs }) ∧
  (∀ (t s : Nat) (m : State), m.laneOn t s = true → (m.lane t s).foldShort = true → (m.lane t s).foldThermal = false →
    m.tfold t = false →
    ((m.lane t s).foldClr = true ∨ ∃ z, (m.lane t s).exitSince = some z ∧ z + 800000 ≤ m.nextAdc t s) →
    Completes (.foldbackRestore t s) m fun m' =>
      m'.pace = max m.pace (m.nextAdc t s) ∧ m'.r (.lane t s) .laneFoldback = 0 ∧ (m'.lane t s).foldShort = false ∧
      (∀ f ∈ clampFields, m'.l (.lane t s) f = m.r (.lane t s) f) ∧
      RegsKept m m' (fun p f => (p = .lane t s ∧ f ∈ [.laneFoldback, .laneSupvFclr]) ∨ (p = .pwr ∧ f = .pwrOverAllow)) ∧
      LatKept m m' (OfLanes t [s] clampFields) ∧ LanesKept m m' [t * 10 + s] ∧
      m' = { m with pace := m'.pace, regs := m'.regs, lat := m'.lat, lanes := m'.lanes }) ∧
  (∀ (fn t s : Nat) (m : State), m.hostAt fn (.lane t s) = true → m.follower t s = false → m.locked t s = false →
    m.r (.lane t s) .laneSupvAct < 4 → m.r (.lane t s) .laneSupvProbe < 2 →
    (m.r (.lane t s) .laneSupvFclr = 1 → Completes (.fclr fn t s) m fun m' =>
      m'.r (.lane t s) (.ignIgn fn) = 1 ∧ m'.r (.lane t s) .laneSupvFclr = 1 ∧ m'.lane t s = m.lane t s) ∧
    (m.r (.lane t s) .laneSupvFclr ≠ 1 → (m.lane t s).foldShort = true →
    Completes (.fclr fn t s) m fun m' =>
      (m'.lane t s).foldClr = true ∧ m'.r (.lane t s) .laneSupvFclr = 1 ∧ LanesKept m m' [t * 10 + s] ∧
      RegsKept m m' (OfLanes t [s] [.laneSupvFclr]) ∧
      m' = { m with regs := m'.regs, lanes := m'.lanes }))) ∧
  (
  (∀ (t s : Nat) (m : State), m.laneOn t s = true → m.openCheck t s = true → (m.lane t s).rangeS = none →
    Completes (.probePhase t s) m fun m' =>
      let d := m.lane t s
      let e := max d.probeAt m.pace
      m'.pace = e ∧ (m'.lane t s).probePhase = (!d.probePhase) ∧ (m'.lane t s).mism = [] ∧
      (m'.lane t s).probeOn = (!d.probePhase && !d.probeStopped) ∧ (m'.lane t s).probeAt = e + 800 ∧
      (d.probePhase = true → (m'.lane t s).mOn = some d.mism ∧ (m'.lane t s).evalAt = none) ∧
      (d.probePhase = false → (m'.lane t s).mOff = some d.mism ∧ (m'.lane t s).mOn = d.mOn ∧
        (m'.lane t s).evalAt = if d.mOn.isSome then some e else none) ∧
      LanesKept m m' [t * 10 + s] ∧ m' = { m with pace := m'.pace, lanes := m'.lanes }) ∧
  (∀ (t s e : Nat) (on off restOn restOff : List Int) (m : State), m.laneOn t s = true → m.openCheck t s = true →
    (m.lane t s).evalAt = some e → (m.lane t s).mOn = some on → (m.lane t s).mOff = some off →
    restOn.length = 8 → restOff.length = 8 →
    (sumEight off restOff).natAbs ≤ 8 * 50000 → sumEight on restOn - sumEight off restOff ≤ 8 * 50000 →
    Completes (.openCheckEval t s restOn restOff) m fun m' =>
      m'.pace = max m.pace e ∧ (m'.lane t s).evalAt = none ∧
      (m'.lane t s).foCnt = 0 ∧ (m'.lane t s).soCnt = 0 ∧ (m'.lane t s).goodCnt = min ((m.lane t s).goodCnt + 1) 3 ∧
      (2 ≤ (m.lane t s).goodCnt → (m'.lane t s).foDecl = false ∧ (m'.lane t s).probeStopped = false) ∧
      LanesKept m m' [t * 10 + s] ∧ m' = { m with pace := m'.pace, lanes := m'.lanes }) ∧
  (∀ (t s e code : Nat) (on off restOn restOff : List Int) (m : State), m.laneOn t s = true → m.openCheck t s = true →
    (m.lane t s).evalAt = some e → (m.lane t s).mOn = some on → (m.lane t s).mOff = some off →
    restOn.length = 8 → restOff.length = 8 →
    ((code = 3 ∧ 8 * 50000 < (sumEight off restOff).natAbs ∧ 2 ≤ (m.lane t s).foCnt) ∨
     (code = 4 ∧ (sumEight off restOff).natAbs ≤ 8 * 50000 ∧ 8 * 50000 < sumEight on restOn - sumEight off restOff ∧
       2 ≤ (m.lane t s).soCnt)) →
    (m.lane t s).foDecl = false → (m.lane t s).probeStopped = false →
    (m.subst t).xfer = none → s < 9 → (∀ k ∈ m.together t s, m.calHold t k = false) → m.l (.lane t s) .laneSupvAct = 0 →
    Completes (.openCheckEval t s restOn restOff) m fun m' =>
      m'.pace = max m.pace e ∧ (m'.lane t s).foDecl = decide (code = 3) ∧ (m'.lane t s).probeStopped = decide (code = 4) ∧
      (code = 4 → (m'.lane t s).probeOn = false) ∧
      (∀ k ∈ m.together t s, m'.r (.lane t k) .laneFault = 1 ∧ m'.r (.lane t k) .laneFaultCode = (if k = s then code else 8)) ∧
      m'.r (.lane t s) .laneSwState = m.r (.lane t s) .laneSwState ∧
      RegsKept m m' (fun p f => (∃ k ∈ m.together t s, p = .lane t k) ∨ (p = .dev ∧ f = .devStatAlert)) ∧
      LanesKept m m' [t * 10 + s] ∧
      m' = { m with pace := m'.pace, regs := m'.regs, lanes := m'.lanes, flight := m'.flight, msix := m'.msix,
                    faultLog := m'.faultLog, freeCtr := m'.freeCtr, substs := m'.substs }))

/-- REFIN declared missing takes the pace to the internal oscillator, sets REFIN_LOST, clears ALIGNED and ends a sequence that has
not begun with reason 9 (R207, R279, R374); its return starts the slew, and the lock brings the pace back to REFIN with
REFIN_LOCKED (R280). A temperature reading falls on a multiple of 8,000 ticks and is shown (R281, R382), first where no
threshold is reached; then the second consecutive one of at least 120 °C puts the tile in TFOLD, and every lane whose limit
exceeds 10 mA is folded back and reports THERMAL (R264, R281), here in the one powered tile, with no transfer and no
calibration. TFOLD is released 8,000,000 ticks after the tile fell below 110 °C (R281). The budget is evaluated on a multiple
of 80,000 ticks and sets VIN, BUDGET and ALLOW, and OVER_ALLOW where the sum lies above (R282, R285). -/
def Obligations.ReferenceTemperatureAndBudget : Prop :=
  (
  (∀ (off : Bool) (m : State), m.dom 0 = true → m.r .pace .paceRefinOk ≠ 0 →
    Completes (.refinLost off) m fun m' =>
      m'.r .pace .paceRefinOk = 0 ∧ m'.r .pace .paceSrc = 1 ∧ m'.r .pace .paceRefinLost = 1 ∧ m'.r .wl .wlAligned = 0 ∧
      m'.pace = m.pace ∧ m'.cur.refinBack = false ∧ m'.cur.refinLoss.tick = m.pace ∧
      (∀ t, t < 16 → m.seqLive t = true → m.r (.seq t) .seqState ≠ 4 →
        m'.r (.seq t) .seqState = 5 ∧ m'.r (.seq t) .seqReason = 9) ∧
      (∀ t, t < 16 → m.r (.seq t) .seqState = 4 → m'.r (.seq t) .seqState = 4 ∧ (m'.seq t).noRefin = true) ∧
      m' = { m with regs := m'.regs, msix := m'.msix, cur := m'.cur, lanes := m'.lanes, locks := m'.locks, seqs := m'.seqs,
                    flight := m'.flight }) ∧
  (∀ m : State, m.dom 0 = true → m.r .pace .paceRefinOk = 0 →
    Completes .refinRestored m fun m' => m'.cur.refinBack = true ∧ m'.r .pace .paceRefinOk = 0 ∧
      m' = { m with cur := { m.cur with refinBack := true } }) ∧
  (∀ m : State, m.dom 0 = true → m.cur.refinBack = true →
    Completes .refinLocked m fun m' =>
      m'.r .pace .paceRefinOk = 1 ∧ m'.r .pace .paceSrc = 0 ∧ m'.r .pace .paceRefinLocked = 1 ∧ m'.cur.refinBack = false ∧
      m'.cur.refinLock.tick = m.pace ∧
      RegsKept m m' (fun p f => p = .pace ∧ f ∈ [.paceRefinOk, .paceSrc, .paceRefinLocked]) ∧
      m' = { m with regs := m'.regs, msix := m'.msix, cur := m'.cur })) ∧
  (
  (∀ (tiles : List Int) (ctl arc : Int) (m : State), m.dom 1 = true → (∀ x ∈ tiles, x < 1100) → ctl < 1050 → arc < 950 →
    Completes (.tempReading tiles ctl arc) m fun m' =>
      m'.pace = nextMul 8000 m.pace ∧ m'.r .pwr .pwrTempCtl = enc 16 ctl % 2 ^ 16 ∧ m'.r .pwr .pwrTempArc = enc 16 arc % 2 ^ 16 ∧
      (∀ t, t < 16 → (m'.tile t).temp = tiles.getD t 0 ∧
        (m.tileOn t = true → m'.r (.tile t) .tileTemp = enc 16 (tiles.getD t 0) % 2 ^ 16 ∧ (m'.tile t).hot110 = 0)) ∧
      RegsKept m m' (fun p f => (p = .pwr ∧ f ∈ [.pwrTempCtl, .pwrTempArc]) ∨ (∃ t, p = .tile t ∧ f = .tileTemp)) ∧
      m' = { m with pace := m'.pace, regs := m'.regs, tiles := m'.tiles, cur := m'.cur }) ∧
  (∀ (t : Nat) (x : Int) (tiles : List Int) (ctl arc : Int) (m : State), m.dom 1 = true → ctl < 1050 → arc < 950 →
    m.tileOn t = true → (∀ u, u < 16 → u = t ∨ m.tileOn u = false) → tiles.getD t 0 = x → 1200 ≤ x → x < 1350 →
    (m.tile t).hot120 = 1 → m.tfold t = false → (m.subst t).xfer = none → (m.tile t).turn = none →
    Completes (.tempReading tiles ctl arc) m fun m' =>
      m'.pace = nextMul 8000 m.pace ∧ m'.r (.tile t) .tileTfold = 1 ∧
      (∀ s, s < 10 → m.limitAbove t s = true →
        m'.r (.lane t s) .laneFoldback = 1 ∧ (m'.lane t s).foldThermal = true ∧ m'.r (.lane t s) .laneFault = 1 ∧
        m'.r (.lane t s) .laneFaultCode = 7) ∧
      (∀ s, m.limitAbove t s = false → m'.lane t s = m.lane t s) ∧
      RegsKept m m' (fun p f => (p = .pwr ∧ f ∈ [.pwrTempCtl, .pwrTempArc]) ∨ (p = .tile t ∧ f ∈ [.tileTemp, .tileTwarn, .tileTfold]) ∨
        (∃ s, m.limitAbove t s = true ∧ p = .lane t s ∧ f ∈ [.laneFoldback, .laneFault, .laneFaultCode, .laneFaultCnt]) ∨
        (p = .dev ∧ f = .devStatAlert)) ∧
      m' = { m with pace := m'.pace, regs := m'.regs, tiles := m'.tiles, cur := m'.cur, lanes := m'.lanes, flight := m'.flight,
                    msix := m'.msix, faultLog := m'.faultLog, substs := m'.substs }) ∧
  (∀ (t z : Nat) (m : State), (m.tile t).below110 = some z → m.tileOn t = true → m.tfold t = true →
    Completes (.tfoldRelease t) m fun m' =>
      m'.pace = max m.pace (z + 8000000) ∧ m'.r (.tile t) .tileTfold = 0 ∧
      (∀ s, s < 10 → (m'.lane t s).foldThermal = false ∧
        ((m.lane t s).foldThermal = true → (m.lane t s).foldShort = false → m'.r (.lane t s) .laneFoldback = 0)) ∧
      RegsKept m m' (fun p f => (p = .tile t ∧ f = .tileTfold) ∨ (∃ s, p = .lane t s ∧ f = .laneFoldback)) ∧
      m' = { m with pace := m'.pace, regs := m'.regs, lat := m'.lat, lanes := m'.lanes }) ∧
  (∀ (mv : Nat) (m : State), m.dom 1 = true → mv < 2 ^ (Fld.pwrVin).w →
    Completes (.budgetEval mv) m fun m' =>
      m'.pace = nextMul 80000 m.pace ∧ m'.r .pwr .pwrVin = mv ∧ m'.cur.allowUw = allowance mv (m.r .pwr .pwrDomStat) ∧
      m'.r .pwr .pwrBudget = budgetMw mv % 2 ^ (Fld.pwrBudget).w ∧
      (m'.cur.allowUw < m.sumEst → m.r .pwr .pwrOverAllow ≠ 1 → m'.r .pwr .pwrOverAllow = 1 ∧ m'.r .pwr .pwrOverEvt = 1) ∧
      (m.sumEst ≤ m'.cur.allowUw → m'.r .pwr .pwrOverAllow = 0) ∧
      RegsKept m m' (fun p f => (p = .pwr ∧ f ∈ [.pwrVin, .pwrBudget, .pwrAllow, .pwrOverAllow, .pwrOverEvt]) ∨
        (p = .dev ∧ f = .devStatAlert)) ∧
      m' = { m with pace := m'.pace, regs := m'.regs, msix := m'.msix, cur := m'.cur }))

/-! Contexts and descriptors (R117 to R161). -/

/-- CTX_OPEN that no check refuses gives the lowest FREE identifier of the lane's tile to an OPEN context with the parameters
given and the lanes that it stands for (R119, R120, R122); one that a check refuses opens nothing and answers its status
(R123). The other context commands of a function on a context of its own: CTX_START zeroes the run's counts and asks for the
locks (R125, R130); CTX_ABORT of a live run whose last action has not ended ends it ABORTED with reason 2 and a SUMMARY packet
(R126, R156, R159); CTX_CLOSE frees the context (R126); CTX_PRIO gives it its level (R126). -/
def Obligations.ContextCommands : Prop :=
  (
  ∀ (fn : Nat) (p : CtxParams) (m : State), m.cmdOk fn = true →
    (m.openStatus fn p = 0 →
      Completes (.ctxOpen fn p) m fun m' => ∃ id, id / 256 = p.lane / 9 ∧ (m.ctx id).st = .free ∧
        (∀ j, p.lane / 9 * 256 ≤ j → j < id → (m.ctx j).st ≠ .free) ∧
        (m'.ctx id).st = .openSt ∧ (m'.ctx id).fn = fn ∧ (m'.ctx id).par = p ∧
        (m'.ctx id).members = m.unit (p.lane / 9) (p.lane % 9) ∧ (m'.fn fn).status = 0 ∧ (m'.fn fn).result = id ∧
        (∀ j, j ≠ id → m'.ctx j = m.ctx j) ∧ (∀ g, g ≠ fn → m'.fn g = m.fn g) ∧ m' = { m with ctxs := m'.ctxs, fns := m'.fns }) ∧
    (m.openStatus fn p ≠ 0 →
      Completes (.ctxOpen fn p) m fun m' => (m'.fn fn).status = m.openStatus fn p ∧
        RegsKept m m' (fun q f => q = .ctxHdr (p.lane / 9) ∧ f ∈ [.ctxFullCnt 0, .ctxFullCnt fn]) ∧
        m' = { m with regs := m'.regs, fns := m'.fns })) ∧
  (
  ∀ (fn id : Nat) (m : State), m.cmdOk fn = true → m.owns fn id = true →
    let c := m.ctx id
    let others (m' : State) : Prop := ∀ j, j ≠ id → m'.ctx j = m.ctx j
    (∀ go : Nat, odd8to14 go = false → m.tileOn c.tile = true → (m.tile c.tile).goingDown = false →
      (c.st = .openSt ∨ c.st = .done) → ¬ (go < 8 ∧ go = c.par.abortOn) →
      Completes (.ctxStart fn id go) m fun m' =>
        (m'.ctx id).st = .lockWait ∧ (m'.ctx id).desc = 0 ∧ (m'.ctx id).steps = 0 ∧ (m'.ctx id).pass = 0 ∧
        (m'.ctx id).fail = 0 ∧ (m'.ctx id).slips = 0 ∧ (m'.ctx id).par = c.par ∧ (m'.ctx id).pkts = c.pkts ∧
        m'.locks = m.locks ++
          [(⟨.ctx id, c.tile, if c.members.length = 1 then m.unit c.tile c.slot else c.members, c.par.prio⟩ : LockReq)] ∧ (m'.fn fn).status = 0 ∧ others m' ∧
        m' = { m with ctxs := m'.ctxs, locks := m'.locks, fns := m'.fns }) ∧
    (c.st.live = true → m.runEnd id (min m.pace (m.lane c.tile c.slot).sampledTo) = none →
      Completes (.ctxAbort fn id) m fun m' =>
        (m'.ctx id).st = .done ∧ (m'.ctx id).outcome = 2 ∧ (m'.ctx id).reason = 2 ∧ (m'.ctx id).engine = none ∧
        (∃ x ∈ (m'.ctx id).pkts ++ (m'.ctx id).owed, wbits (dw x.2 0) 0 4 = 3) ∧ (m'.fn fn).status = 0 ∧ m'.pace = m.pace ∧ m'.arc = m.arc ∧
        m'.hostMem = m.hostMem) ∧
    ((c.st = .openSt ∨ c.st = .done) →
      Completes (.ctxClose fn id) m fun m' =>
        m'.ctx id = {} ∧ (m'.rq fn c.par.rq).waiting = (m.rq fn c.par.rq).waiting ++ c.pkts ∧
        (m'.rq fn c.par.rq).owed = (m.rq fn c.par.rq).owed ++ c.owed ∧ (m'.fn fn).status = 0 ∧
        others m' ∧ m' = { m with ctxs := m'.ctxs, rqs := m'.rqs, fns := m'.fns }) ∧
    (∀ prio : Nat, Completes (.ctxPrio fn id prio) m fun m' =>
      m'.ctx id = { c with par := { c.par with prio := prio } } ∧ (m'.fn fn).status = 0 ∧ others m' ∧
      m' = { m with ctxs := m'.ctxs, fns := m'.fns }))

/-- LOCK_GRANT gives every lane of the request in front to its context, which is READY with its DAC settings saved (R130, R131,
R132); DISPATCH gives the lowest IDLE engine to a READY context of the highest level, which is RUNNING (R128). A prefetch of a
running context brings up to 32 descriptors from the first one not fetched yet, from host memory in order, or ends the run
with FETCH_ERR (R114, R127, R157, R431). -/
def Obligations.GrantDispatchAndPrefetch : Prop :=
  (
  (∀ (t id : Nat) (q : LockReq) (rest : List LockReq) (m : State), m.locks = q :: rest → q.tile = t → q.who = .ctx id →
    m.grantable 0 q = true → m.grantOk id = true →
    Completes (.lockGrant t) m fun m' =>
      (∀ k ∈ q.slots, (m'.lane t k).owner = some (.ctx id)) ∧ (m'.ctx id).st = .ready ∧
      (m'.ctx id).savedSrc = m.r (.lane (m.ctx id).tile (m.ctx id).slot) .laneDacSrc ∧
      (m'.ctx id).savedDiv = m.r (.lane (m.ctx id).tile (m.ctx id).slot) .laneDacDiv ∧ q ∉ m'.locks ∧
      (∀ j, j ≠ id → m'.ctx j = m.ctx j) ∧ LanesKept m m' (((m.ctx id).tile * 10 + (m.ctx id).slot) :: laneKeys t q.slots) ∧
      m' = { m with locks := m'.locks, lanes := m'.lanes, ctxs := m'.ctxs }) ∧
  (∀ (t id k : Nat) (m : State), m.tileOn t = true → m.nextReady t = some id → m.idleEngine t = some k →
    Completes (.dispatch t) m fun m' =>
      (m.ctx id).st = .ready ∧
      (∀ j, j / 256 = t → (m.ctx j).st = .ready → (m.ctx id).par.prio ≤ (m.ctx j).par.prio) ∧
      (∀ j, j < k → m.r (.eng t j) .engState ≠ 0) ∧
      (m'.ctx id).st = .running ∧ (m'.ctx id).engine = some k ∧ m'.r (.eng (m.ctx id).tile k) .engState = 1 ∧
      RegsKept m m' (fun p f => p = .eng (m.ctx id).tile k ∧ f ∈ [.engState, .engCtx]) ∧
      (∀ j, j ≠ id → m'.ctx j = m.ctx j) ∧
      m' = { m with tiles := m'.tiles, ctxs := m'.ctxs, regs := m'.regs, engOps := m'.engOps, freeCtr := m'.freeCtr })) ∧
  (
  ∀ (id : Nat) (e : EccErrs) (m : State),
    let c := m.ctx id
    c.st = .running → c.engine ≠ none → c.fetchIdx < c.par.llen → c.par.archive = false →
    (m.fn c.fn).bme = true → (m.fn c.fn).d3 = false →
    (∀ ws : List Word, ws.length = 8 * min 32 (c.par.llen - c.fetchIdx) →
      Completes (.descPrefetch id (.data ws) e) m fun m' =>
        (∀ k, k < min 32 (c.par.llen - c.fetchIdx) → (c.fetchIdx + k, (ws.drop (8 * k)).take 8) ∈ (m'.ctx id).fetched) ∧
        (∀ x ∈ c.fetched, x ∈ (m'.ctx id).fetched) ∧ (m'.ctx id).desc = c.desc ∧ (m'.ctx id).st = .running ∧
        (∀ j, j ≠ id → m'.ctx j = m.ctx j) ∧ m' = { m with ctxs := m'.ctxs }) ∧
    (m.runEnd id (min m.pace (m.lane c.tile c.slot).sampledTo) = none →
    Completes (.descPrefetch id .error e) m fun m' =>
      (m'.ctx id).st = .done ∧ (m'.ctx id).outcome = 2 ∧ (m'.ctx id).reason = 8 ∧
      (m'.fn c.fn).aer = (m.fn c.fn).aer ||| 4))

/-- The descriptors that only change the run itself: NOP, LIMIT, FIRE and JUMP, each with the next descriptor or its target (R135,
R149, R150, R151). CONFIG on a lane that is left DISCONNECTED, with no write but LANE_FORCE, waits for the end of the last
dwell and stores mode, ranges and level with ORIGIN 1 (R146, R147, R449); the governor sees no change of an open lane (R85).
LIN, LIST and MEAS queue their entries behind those that wait, up to QAHEAD, each repeated REPS times: LIN's level rises by
its increment per step, LIST takes its DATA entries in order, and the entries of MEAS bring no level, so that each plays the
one that stands when it plays (R116, R134, R138, R139; of MEAS the model's reading, log entry 17). Here no wait is being
armed, the lane is not in DDS, no absent booster range is named (R6), and the governor admits. -/
def Obligations.DescriptorsDecode : Prop :=
  (
  ∀ (id : Nat) (ws : List Word) (m : State),
    let c := m.ctx id
    let own (m' : State) : Prop :=
      (∀ j, j ≠ id → m'.ctx j = m.ctx j) ∧ m' = { m with ctxs := m'.ctxs, engOps := m'.engOps, freeCtr := m'.freeCtr }
    (m.atDesc id 0 ws = true → Completes (.nop id) m fun m' => m'.ctx id = { c with desc := c.desc + 1 } ∧ own m') ∧
    (m.atDesc id 6 ws = true → Completes (.limit id) m fun m' =>
      (m'.ctx id).desc = c.desc + 1 ∧ ((m'.ctx id).limits.getLast?).map (·.lo) = some (sext 24 (wbits (dw ws 1) 0 24)) ∧
      ((m'.ctx id).limits.getLast?).map (·.hi) = some (sext 24 (wbits (dw ws 2) 0 24)) ∧
      (m'.ctx id).limits.length = c.limits.length + 1 ∧ own m') ∧
    (m.atDesc id 8 ws = true → Completes (.fire id) m fun m' =>
      m'.ctx id = { c with desc := c.desc + 1, fireEvs := c.fireEvs ++ [wbits (dw ws 1) 0 3] } ∧ own m') ∧
    (m.atDesc id 9 ws = true → wbits (dw ws 1) 16 2 = 0 → Completes (.jump id) m fun m' =>
      m'.ctx id = { c with desc := wbits (dw ws 1) 0 16 } ∧ own m') ∧
    (m.atDesc id 9 ws = true → wbits (dw ws 1) 16 2 = 3 → wbits (dw ws 1) 20 2 < c.loops.length → Completes (.jump id) m fun m' =>
      let k := wbits (dw ws 1) 20 2
      let old := c.loops.getD k 0
      let v := (if old = 0 then wbits (dw ws 2) 0 16 else old) - 1
      (m'.ctx id).loops.getD k 0 = v ∧ (m'.ctx id).desc = (if v = 0 then c.desc + 1 else wbits (dw ws 1) 0 16) ∧
      (∀ j, j ≠ k → (m'.ctx id).loops.getD j 0 = c.loops.getD j 0) ∧ own m')) ∧
  (
  ∀ (id : Nat) (ws : List Word) (m : State),
    let c := m.ctx id
    let p := Page.lane c.tile c.slot
    m.atDesc id 1 ws = true → m.quiet id = true → c.connWait = false → wbits (dw ws 1) 16 2 = 0 → wbits (dw ws 1) 24 4 = 0 →
    m.cur.pfail = none → m.unit c.tile c.slot = [c.slot] → m.sw c.tile c.slot = .disconnected →
    (m.lane c.tile c.slot).estHold = none → m.substFor c.tile c.slot = false →
    wbits (dw ws 1) 0 3 ≠ 0 → m.laneCheck c.tile c.slot 0x100 (configForce ws) true = none →
    Completes (.config id) m fun m' =>
      m'.pace = max m.pace (m.lane c.tile c.slot).dwellEnd ∧
      m'.r p .laneForceMode = wbits (dw ws 1) 0 3 ∧ m'.r p .laneForceVrange = wbits (dw ws 1) 4 2 ∧
      m'.r p .laneForceIrange = wbits (dw ws 1) 8 3 ∧ m'.r p .laneForceLevel = wbits (dw ws 2) 0 20 ∧
      m'.r p .laneForceOrigin = 1 ∧ (m'.ctx id).desc = c.desc + 1 ∧ (m'.ctx id).gridOpen = false ∧
      RegsKept m m' (fun q f => (q = p ∧ f.off = 0x100) ∨ (q = .pwr ∧ f = .pwrOverAllow)) ∧
      LanesKept m m' [c.tile * 10 + c.slot] ∧ (∀ j, j ≠ id → m'.ctx j = m.ctx j) ∧
      m' = { m with pace := m'.pace, regs := m'.regs, lanes := m'.lanes, ctxs := m'.ctxs, engOps := m'.engOps,
                    freeCtr := m'.freeCtr }) ∧
  (
  ∀ (id : Nat) (ws : List Word) (m : State),
    let c := m.ctx id
    let d := m.lane c.tile c.slot
    let room := c.ahead - d.dacQ.length
    let free (op : Nat) (g : Gen) : Prop :=
      m.atDesc id op ws = true ∧ d.dds = false ∧ m.namesIb g = false ∧ 8 ≤ c.goStart ∧ m.cur.pfail = none ∧
      (c.gridOpen = false ∨ c.gridStrobe = g.cfg.strobe) ∧
      governor (m.engOp c.tile c.engine 24) ((m.engOp c.tile c.engine 24).withDescEst c.tile c.slot g) c.tile c.slot = none
    let queued (g : Gen) (lv : Nat → Nat) (keep : Bool) (m' : State) : Prop :=
      (m'.lane c.tile c.slot).dacQ.length = d.dacQ.length + min room (g.cfg.count * g.cfg.reps) ∧
      (∀ i, i < d.dacQ.length → (m'.lane c.tile c.slot).dacQ[i]? = d.dacQ[i]?) ∧
      (∀ i, i < min room (g.cfg.count * g.cfg.reps) →
        ((m'.lane c.tile c.slot).dacQ[d.dacQ.length + i]?).map (fun q => (wbits q.w 0 20, q.k, q.rep, q.keep)) =
          some (lv (i / g.cfg.reps), i / g.cfg.reps, i % g.cfg.reps, keep)) ∧
      RegsKept m m' (fun p f => (p = .lane c.tile c.slot ∧ f.off = 0x114) ∨ (p = .pwr ∧ f = .pwrOverAllow)) ∧
      LatKept m m' (fun p f => p = .lane c.tile c.slot ∧ f.off = 0x114) ∧
      LanesKept m m' (laneKeys c.tile (c.slot :: m.unit c.tile c.slot)) ∧ (∀ j, j ≠ id → m'.ctx j = m.ctx j) ∧
      m' = { m with lanes := m'.lanes, ctxs := m'.ctxs, regs := m'.regs, lat := m'.lat, engOps := m'.engOps,
                    freeCtr := m'.freeCtr }
    let lin : Gen := { kind := 2, cfg := stepCfg ws c.desc (wbits (dw ws 3) 0 20), start := (linLevels ws).1,
                       inc := sext 21 (wbits (dw ws 2) 0 21),
                       rngWord := if (dw ws 1).getLsbD 27 then wbits (dw ws 1) 24 4 * 2 ^ 24 else 0 }
    let meas : Gen := { kind := 5, cfg := stepCfg ws c.desc (wbits (dw ws 3) 0 20) }
    (free 2 lin → Completes (.lin id) m
      (queued lin (fun k => enc 20 (sext 20 (wbits (dw ws 1) 0 20) + k * sext 21 (wbits (dw ws 2) 0 21))) false)) ∧
    (∀ es : List Word, c.dataAt c.desc (listLen ws) = some (es, none) →
      let list : Gen := { kind := 3, cfg := stepCfg ws c.desc (wbits (dw ws 1) 0 16), entries := es }
      free 3 list → Completes (.list id) m (queued list (fun k => wbits (es.getD k 0) 0 20) false)) ∧
    (free 5 meas → Completes (.meas id) m (queued meas (fun _ => 0) true)))

/-- WAIT without KEEP parks the context and frees its engine, with KEEP it waits on its engine (R125, R148); END with HOLD begins
the final action (R158). The ways out of a wait: a delivery on the channel that a context waits on, the end of a timed wait,
and a timeout, which with TO_ACT ends the run with reason 9 and which a GO of the same tick precedes (R125, R148, R159). A
delivery that nothing waits for counts in GO_UNUSED. -/
def Obligations.WaitsAndEnds : Prop :=
  (
  ∀ (id k : Nat) (ws : List Word) (m : State),
    let c := m.ctx id
    c.engine = some k → m.quiet id = true →
    (m.atDesc id 7 ws = true → (dw ws 1).getLsbD 4 = false → (m.tile c.tile).draining = false →
      (m.lane c.tile c.slot).latch = [] →
      Completes (.wait id) m fun m' =>
        m'.pace = max m.pace (m.lane c.tile c.slot).dwellEnd ∧ (m'.ctx id).st = .parked ∧ (m'.ctx id).engine = none ∧
        m'.r (.eng c.tile k) .engState = 0 ∧ (m'.ctx id).desc = c.desc + 1 ∧ (m'.ctx id).gridOpen = false ∧
        ((m'.ctx id).waitI.map (·.timed)) = some ((dw ws 1).getLsbD 5) ∧
        RegsKept m m' (fun p f => p = .eng c.tile k ∧ f ∈ [.engState, .engCtx]) ∧ LanesKept m m' [c.tile * 10 + c.slot] ∧
        (∀ j, j ≠ id → m'.ctx j = m.ctx j) ∧
        m' = { m with pace := m'.pace, regs := m'.regs, lanes := m'.lanes, ctxs := m'.ctxs, engOps := m'.engOps,
                      freeCtr := m'.freeCtr }) ∧
    (m.atDesc id 7 ws = true → (dw ws 1).getLsbD 4 = true →
      Completes (.wait id) m fun m' =>
        (m'.ctx id).st = .running ∧ (m'.ctx id).engine = some k ∧ (m'.ctx id).waitI.isSome = true ∧
        (m'.ctx id).desc = c.desc + 1 ∧ (∀ j, j ≠ id → m'.ctx j = m.ctx j) ∧
        m' = { m with pace := m'.pace, lanes := m'.lanes, ctxs := m'.ctxs, engOps := m'.engOps, freeCtr := m'.freeCtr }) ∧
    (m.atDesc id 10 ws = true → wbits (dw ws 1) 0 2 = 0 →
      Completes (.endList id) m fun m' =>
        m'.ctx id = { c with final := some (0, 0) } ∧ (∀ j, j ≠ id → m'.ctx j = m.ctx j) ∧
        m' = { m with ctxs := m'.ctxs, engOps := m'.engOps, freeCtr := m'.freeCtr })) ∧
  (
  (∀ (t ch hop id : Nat) (w : WaitInfo) (m : State), m.tileOn t = true → ch < 8 → id / 256 = t →
    tabGet 0 (m.tile t).deliv (10 + ch) ≠ m.pace + 1 →
    (∀ j, ((m.ctx j).st.live = true ∨ (m.ctx j).st = .done) → (m.ctx j).par.abortOn ≠ ch) →
    (m.ctx id).waitI = some w → w.timed = false → w.go = ch →
    ((m.ctx id).st = .parked → Completes (.ctxGo t ch hop) m fun m' =>
      (m'.ctx id).st = .ready ∧ (m'.ctx id).waitI = none ∧
      m' = { m with ctxs := m'.ctxs, regs := m'.regs, lat := m'.lat, lanes := m'.lanes, tiles := m'.tiles }) ∧
    ((m.ctx id).st = .armed → Completes (.ctxGo t ch hop) m fun m' =>
      (m'.ctx id).st = .running ∧ (m'.ctx id).waitI = none ∧
      m' = { m with ctxs := m'.ctxs, regs := m'.regs, lat := m'.lat, lanes := m'.lanes, tiles := m'.tiles })) ∧
  (∀ (t ch hop : Nat) (m : State), m.tileOn t = true → ch < 8 → m.ctxs = [] → m.home t = 0 →
    tabGet 0 (m.tile t).deliv (10 + ch) ≠ m.pace + 1 →
    Completes (.ctxGo t ch hop) m fun m' =>
      m'.r (.ctxHdr t) (.ctxGoUnused 0) = (m.r (.ctxHdr t) (.ctxGoUnused 0) + 1) % 2 ^ (Fld.ctxGoUnused 0).w ∧
      RegsKept m m' (fun p f => p = .ctxHdr t ∧ f = .ctxGoUnused 0) ∧
      m'.tile t = { m.tile t with deliv := tabSet (m.tile t).deliv (10 + ch) (m.pace + 1) } ∧
      m' = { m with regs := m'.regs, tiles := m'.tiles }) ∧
  (∀ (id e : Nat) (w : WaitInfo) (m : State), (m.ctx id).waitI = some w → w.endTick = some e → (m.ctx id).st = .parked →
    (w.timed = true → Completes (.waitEnd id) m fun m' =>
      m'.pace = max m.pace e ∧ (m'.ctx id).st = .ready ∧ (m'.ctx id).waitI = none ∧
      m' = { m with pace := m'.pace, ctxs := m'.ctxs, lanes := m'.lanes }) ∧
    (w.timed = false → w.toAct = false → (∀ f ∈ m.flight, e < f.tick) → Completes (.waitTimeout id) m fun m' =>
      m'.pace = max m.pace e ∧ (m'.ctx id).st = .ready ∧ (m'.ctx id).waitI = none ∧
      m' = { m with pace := m'.pace, ctxs := m'.ctxs }) ∧
    (w.timed = false → w.toAct = true → (∀ f ∈ m.flight, e < f.tick) → Completes (.waitTimeout id) m fun m' =>
      m'.pace = max m.pace e ∧ (m'.ctx id).st = .done ∧ (m'.ctx id).outcome = 2 ∧ (m'.ctx id).reason = 9)))

/-- The engine, which holds at most two packets and stalls at the third (R145), reads the oldest result: with RES = 1 and no
check the step's packet waits (R144, R154); a result below the lower limit counts as a fail (R151). A run whose HOLD is over
ends COMPLETED and its lanes are free (R158). -/
def Obligations.ResultsAreReadAndRunsComplete : Prop :=
  ∀ (id : Nat) (m : State),
    let c := m.ctx id
    let d := m.lane c.tile c.slot
    c.st = .running → m.repsLeft id = false →
    (∀ (r : StepResult) (rest : List StepResult), d.latch = r :: rest → c.packed = [] → r.step.cfg.pack = false →
      r.step.cfg.res = true → m.engStalled (c.engKey id) = false →
      (r.step.cfg.chk = false → c.engine ≠ none → m.engHeld (c.engKey id) = 2 → Completes (.apertureResultRead id) m fun m' =>
        (m'.lane c.tile c.slot).latch = rest ∧ (m'.ctx id).pkts = c.pkts ∧
        (m'.ctx id).owed = c.owed ++ [(c.engKey id, stepPacket id r none)] ∧ m'.engStalled (c.engKey id) = true ∧
        LanesKept m m' [c.tile * 10 + c.slot] ∧
        m' = { m with lanes := m'.lanes, ctxs := m'.ctxs, engOps := m'.engOps, freeCtr := m'.freeCtr }) ∧
      (m.engHeld (c.engKey id) ≤ 1 →
      (r.step.cfg.chk = false → Completes (.apertureResultRead id) m fun m' =>
        (m'.lane c.tile c.slot).latch = rest ∧ (m'.ctx id).pkts = c.pkts ++ [(c.engKey id, stepPacket id r none)] ∧
        (m'.ctx id).pass = c.pass ∧ (m'.ctx id).fail = c.fail ∧ LanesKept m m' [c.tile * 10 + c.slot] ∧
        m' = { m with lanes := m'.lanes, ctxs := m'.ctxs, engOps := m'.engOps, freeCtr := m'.freeCtr }) ∧
      (∀ l : Limits, c.limitOf r.step.cfg = some l → r.step.cfg.chk = true → r.step.cfg.qty ≠ 3 → l.word = 0 → l.action = 0 →
        r.r0.testBit 24 = false → r.r0.testBit 25 = false → r.r0.testBit 26 = false → r.r0.testBit 27 = false →
        sext 24 r.r0 < l.lo → Completes (.apertureResultRead id) m fun m' =>
          (m'.lane c.tile c.slot).latch = rest ∧ (m'.ctx id).pkts = c.pkts ++ [(c.engKey id, stepPacket id r (some .failLo))] ∧
          (m'.ctx id).fail = c.fail + 1 ∧ (m'.ctx id).pass = c.pass ∧ (m'.ctx id).anyFail = true ∧
          LanesKept m m' [c.tile * 10 + c.slot] ∧
          m' = { m with lanes := m'.lanes, ctxs := m'.ctxs, engOps := m'.engOps, freeCtr := m'.freeCtr }))) ∧
    (∀ x : Int, c.final = some (0, x) → c.limitStop = false → c.gen = none → d.dacQ = [] → d.step = none → d.latch = [] →
      c.owed = [] → m.engHeld (c.engKey id) + bit (c.packed != []) < 2 →
      Completes (.runComplete id) m fun m' =>
        (m'.ctx id).st = .done ∧ (m'.ctx id).outcome = 1 ∧ (m'.ctx id).reason = 0 ∧ (m'.ctx id).engine = none ∧
        m'.pace = max m.pace (if c.lastAp = 0 then m.pace + 1 else c.lastAp) ∧
        (∀ k, k < 9 → (m'.lane c.tile k).owner ≠ some (.ctx id)) ∧ (∀ q ∈ m'.locks, q.tile = c.tile → q.who ≠ .ctx id) ∧
        m' = { m with pace := m'.pace, regs := m'.regs, lanes := m'.lanes, locks := m'.locks, ctxs := m'.ctxs,
                      flight := m'.flight, tiles := m'.tiles })

/-! The Archive and the host's queues (R242 to R249, R411 to R433). -/

/-- A write through BAR2 stores its bytes in the function's region, and a read of the same bytes then answers them; every byte of
the Archive outside them keeps its value, so that a site cannot reach another's region (R242, R243, R411); the bytes count
against the function's share of the accounting window as far as there is room in it, and what exceeds it moves in later ones
(R246, R247; the model's choice, log entry 37). Here no bit error waits to be found. The accounting window moves on to the
next multiple of 8,000 ticks, with nothing used in the new one but what writes accepted before still have to move (R247; log
entry 37); the patrol scrub counts a corrected word, and poisons, counts and flags a word with a multi-bit error once (R244);
an error that has come up before waits for the access that reads its word (the model's own, log entry 47). -/
def Obligations.ArchiveAccesses : Prop :=
  (
  ∀ (fn off : Nat) (bytes : List Byte) (m : State), m.sound = true → m.reach fn = true → m.r .dev .devStatReady = 1 → m.archOn = true →
    off + bytes.length ≤ (m.region fn).2 → m.latent = [] →
    Completes (.bar2Write fn off bytes false []) m fun m' =>
      (∀ a, ¬ ((m.region fn).1 + off ≤ a ∧ a < (m.region fn).1 + off + bytes.length) → memGet m'.arc a = memGet m.arc a) ∧
      (∀ i, i < bytes.length → some (memGet m'.arc ((m.region fn).1 + off + i)) = bytes[i]?) ∧
      m'.arcUsed fn = m.arcUsed fn + min bytes.length (m.arcRoom fn) ∧
      tabGet 0 m'.acctNow.debt fn = tabGet 0 m.acctNow.debt fn + (bytes.length - m.arcRoom fn) ∧
      m' = { m with arc := m'.arc, written := m'.written, poison := m'.poison, cur := { m.cur with acct := m'.cur.acct } } ∧
      (bytes ≠ [] → m.poison = [] → m'.shareOut fn = false → Completes (.bar2Read fn off bytes.length []) m' fun m'' =>
        (m''.fn fn).result = leNat bytes ∧ (m''.fn fn).status = 0 ∧ (∀ g, g ≠ fn → m''.fn g = m'.fn g) ∧
        m'' = { m' with fns := m''.fns, cur := { m'.cur with acct := m''.cur.acct } })) ∧
  (
  (∀ m : State, m.archOn = true →
    Completes .accountingWindow m fun m' =>
      m'.pace = max m.pace (nextMul 8000 m.cur.acct.win) ∧ m'.cur.acct.win = m'.pace / 8000 * 8000 ∧
      (m.cur.acct.debt = [] → m'.cur.acct.use = []) ∧
      m' = { m with pace := m'.pace, cur := { m.cur with acct := m'.cur.acct } }) ∧
  (∀ (w k : Nat) (m : State), m.archOn = true → w * 8 < m.arcSize →
    (m.latent = [(w, false)] → Completes (.patrolScrub w .clean) m fun m' =>
      m'.latent = [] ∧ m'.r .arc .arcCeCnt = (m.r .arc .arcCeCnt + 1) % 2 ^ (Fld.arcCeCnt).w ∧
      RegsKept m m' (fun p f => p = .arc ∧ f = .arcCeCnt) ∧ m' = { m with regs := m'.regs, latent := m'.latent }) ∧
    ((∀ x ∈ m.latent, x.1 ≠ w) →
    (Completes (.patrolScrub w .single) m (fun m' =>
      m'.r .arc .arcCeCnt = (m.r .arc .arcCeCnt + 1) % 2 ^ (Fld.arcCeCnt).w ∧
      RegsKept m m' (fun p f => p = .arc ∧ f = .arcCeCnt) ∧ m' = { m with regs := m'.regs }) ∧
    (w ∉ m.poison → Completes (.patrolScrub w (.multi k)) m fun m' =>
      w ∈ m'.poison ∧ m'.r .arc .arcUe = 1 ∧ m'.r .arc .arcUeCnt = (m.r .arc .arcUeCnt + 1) % 2 ^ (Fld.arcUeCnt).w ∧
      m'.cur.ueLog.isSome = true ∧ RegsKept m m' (fun p f => p = .arc ∧ f ∈ [.arcUe, .arcUeCnt]) ∧
      m' = { m with regs := m'.regs, poison := m'.poison, msix := m'.msix, cur := { m.cur with ueLog := m'.cur.ueLog } }) ∧
    (w ∈ m.poison → exec (.patrolScrub w (.multi k)) m = .next m)))))

/-- Words written into the window of a command queue with room enter it in order with their end mark and parity bit, and CREDIT
follows (R416, R419); a flush empties the queue and counts its whole commands (R422); a stale tail is dropped, flagged and
counted, and where its header is intact and its result queue enabled it has a completion with status 19 (R418, R421, R426). In
compatible mode every access of the host waits while a write is stalled at a full queue; a stalled write whose time is out
loses its words, with OVERFLOW, one discard and, where its header is intact, a completion with status 20 for the command of
which it is a part (R418, R419, R420, R426), and the link goes on. -/
def Obligations.CommandQueues : Prop :=
  (
  ∀ (fn q : Nat) (m : State), q < 8 →
    let c := m.cq fn q
    (∀ (off : Nat) (ds : List QData) (ep : Bool), m.winOk fn = true → m.r (.q fn) (.cqEn q) ≠ 0 → c.skip = false →
      c.words.length + ds.length ≤ 8192 → ds ≠ [] →
      Completes (.cqWrite fn q off ds true ep) m fun m' =>
        (m'.cq fn q).words = c.words ++ ds.map (fun d =>
          { data := d, last := decide (0x8000 ≤ off % 0x10000), par := decide (off % 0x8000 ≥ 0x4000), ep := ep }) ∧
        (m'.cq fn q).latest = m.pace ∧ m'.r (.q fn) (.cqCredit q) = 8192 - (c.words.length + ds.length) ∧
        m'.fn fn = (if ep then { m.fn fn with aer := (m.fn fn).aer ||| 1 } else m.fn fn) ∧ (∀ g, g ≠ fn → m'.fn g = m.fn g) ∧
        RegsKept m m' (fun p f => p = .q fn ∧ f = .cqCredit q) ∧ m' = { m with regs := m'.regs, cqs := m'.cqs, fns := m'.fns }) ∧
    (m.hostAt fn (.q fn) = true → c.stalled = [] →
      Completes (.flush fn q) m fun m' =>
        (m'.cq fn q).words = [] ∧ (m'.cq fn q).skip = false ∧ (m'.cq fn q).blocked = c.blocked ∧
        m'.r (.q fn) (.cqCredit q) = 8192 ∧
        m'.r (.q fn) (.cqFlushed q) = (m.r (.q fn) (.cqFlushed q) + (c.words.filter (·.last)).length) % 2 ^ (Fld.cqFlushed q).w ∧
        RegsKept m m' (fun p f => p = .q fn ∧ f ∈ [.cqCredit q, .cqFlushed q]) ∧
        m' = { m with regs := m'.regs, cqs := m'.cqs }) ∧
    (∀ h l, fn < 17 → partialTail c.words = h :: l → c.stalled = [] →
      Completes (.staleTail fn q) m fun m' =>
        m'.pace = max m.pace (c.latest + m.staleTicks fn) ∧ (m'.cq fn q).words = wholePart c.words ∧
        m'.r (.q fn) (.cqStale q) = 1 ∧
        m'.r (.q fn) (.cqDiscard q) = (m.r (.q fn) (.cqDiscard q) + 1) % 2 ^ (Fld.cqDiscard q).w ∧
        (h.bad = true → (m'.cq fn q).blocked = c.blocked) ∧
        (h.bad = false → m.r (.q fn) (.rqEn (hdrRq h.data)) ≠ 0 → (m'.cq fn q).blocked =
          c.blocked ++ [(hdrRq h.data, completionPacket (hdrOp h.data) q (hdrTag h.data) 19 0 0 m'.pace [])]) ∧
        (h.bad = false → m.r (.q fn) (.rqEn (hdrRq h.data)) = 0 →
          (m'.cq fn q).blocked = c.blocked ∧ m'.r (.q fn) (.cqNoRq q) = 1) ∧
        RegsKept m m' (fun p f => p = .q fn ∧ f ∈ [.cqCredit q, .cqStale q, .cqDiscard q, .cqNoRq q]) ∧
        m' = { m with pace := m'.pace, regs := m'.regs, cqs := m'.cqs, msix := m'.msix })) ∧
  (
  (∀ (fn q off r v t s : Nat) (ds : List QData) (bs : List Byte) (es : EccErrs) (whole ep en : Bool) (c : Instr) (m : State),
    m.linked fn = true → m.linkStalled = true →
    c ∈ [.cqWrite fn q off ds whole ep, .resultDoorbell fn r v, .flush fn q, .bar2Read fn off r es, .bar2Write fn off bs ep es,
         .connect fn t s, .disconnect fn t s, .busMasterEnable fn en, .powerStateChange fn en] →
    Completes c m fun m' => m' = { m with held := m.held ++ [c] }) ∧
  (∀ (fn q : Nat) (w : QWord) (l : List QWord) (m : State), fn < 17 → q < 8 → (m.cq fn q).stalled = w :: l →
    Completes (.compatStallTimeout fn q) m fun m' =>
      let c := m.cq fn q
      let h := (partialTail c.words).headD w
      (m'.cq fn q).stalled = [] ∧ m'.pace = max m.pace (c.stallAt + m.staleTicks fn) ∧
      (c.skip = false → m'.r (.q fn) (.cqOverflow q) = 1 ∧ (m'.cq fn q).words = wholePart c.words ∧
        m'.r (.q fn) (.cqCredit q) = (8192 - (wholePart c.words).length) % 2 ^ (Fld.cqCredit q).w) ∧
      (c.skip = false → (∀ x ∈ (w :: l).dropLast, x.last = false) →
        m'.r (.q fn) (.cqDiscard q) = (m.r (.q fn) (.cqDiscard q) + 1) % 2 ^ (Fld.cqDiscard q).w ∧
        (h.bad = true → (m'.cq fn q).blocked = c.blocked) ∧
        (h.bad = false → m.r (.q fn) (.rqEn (hdrRq h.data)) ≠ 0 → (m'.cq fn q).blocked =
          c.blocked ++ [(hdrRq h.data, completionPacket (hdrOp h.data) q (hdrTag h.data) 20 0 0 m'.pace [])])) ∧
      (∀ k, k ≠ fn * 8 + q → tabGet {} m'.cqs k = tabGet {} m.cqs k) ∧
      RegsKept m m' (fun p f => p = .q fn ∧ f ∈ [.cqCredit q, .cqOverflow q, .cqDiscard q, .cqNoRq q]) ∧
      m' = { m with pace := m'.pace, regs := m'.regs, cqs := m'.cqs, msix := m'.msix }))

/-- COMMAND_TAKE takes the command in front of the queue whose turn it is through its end mark: a FENCE of a quiet queue is
counted in TAKEN, and its completion with status 0 waits for its ring (R418, R423, R427); a command with an unknown opcode is
discarded with status 16 and counted (R418, R426). The rest of the queue stays. On another queue's turn nothing happens (R423).
-/
def Obligations.CommandTakeServesTheHead : Prop :=
  ∀ (fn q : Nat) (h : QWord) (rest : List QWord) (m : State), fn < 17 → q < 8 → m.cmdOk fn = true →
    (m.cmdTurn fn q = false → exec (.commandTake fn q) m = .next m) ∧
    (m.cmdTurn fn q = true →
    (m.cq fn q).words = h :: rest → h.last = true → h.bad = false → (m.cq fn q).stalled = [] → (m.cq fn q).blocked = [] →
    m.r (.q fn) (.rqEn (hdrRq h.data)) ≠ 0 →
    let served (m' : State) : Prop := m'.fn fn = { m.fn fn with qLast := q } ∧ ∀ g, g ≠ fn → m'.fn g = m.fn g
    (h.data = BitVec.ofNat 64 (256 + 2 ^ 16 * hdrRq h.data + 2 ^ 32 * hdrTag h.data) → m.queueQuiet fn q = true →
      m.tagBusy fn (hdrTag h.data) = false →
      Completes (.commandTake fn q) m fun m' =>
        let n := (m.r (.q fn) (.cqTaken q) + 1) % 2 ^ (Fld.cqTaken q).w
        (m'.cq fn q).words = rest ∧ m'.r (.q fn) (.cqTaken q) = n ∧
        (m'.cq fn q).blocked = [(hdrRq h.data, completionPacket 0 q (hdrTag h.data) 0 0 n m.pace [])] ∧
        m'.r (.q fn) (.cqDiscard q) = m.r (.q fn) (.cqDiscard q) ∧ served m' ∧
        RegsKept m m' (fun p f => p = .q fn ∧ f ∈ [.cqCredit q, .cqTaken q]) ∧
        m' = { m with regs := m'.regs, cqs := m'.cqs, fns := m'.fns }) ∧
    (opcodeForm (hdrOp h.data) = none →
      Completes (.commandTake fn q) m fun m' =>
        (m'.cq fn q).words = rest ∧
        m'.r (.q fn) (.cqDiscard q) = (m.r (.q fn) (.cqDiscard q) + 1) % 2 ^ (Fld.cqDiscard q).w ∧
        (m'.cq fn q).blocked =
          [(hdrRq h.data, completionPacket (hdrOp h.data) q (hdrTag h.data) 16 0 0 m.pace [])] ∧
        m'.r (.q fn) (.cqTaken q) = m.r (.q fn) (.cqTaken q) ∧ served m' ∧
        RegsKept m m' (fun p f => p = .q fn ∧ f ∈ [.cqCredit q, .cqDiscard q]) ∧
        m' = { m with regs := m'.regs, cqs := m'.cqs, fns := m'.fns }))

/-- FENCE completes once its queue is quiet, with BAD_PARAM for the TAG of an outstanding CAL_REQ or DMA command (R423);
ARC_DMA_RD and ARC_DMA_WR within the region go into the list of outstanding commands (R432); DMA_ABORT ends one with status 24
and the bytes moved so far, and answers 0 (R426, R427, R433). On its function's turn a DMA read moves up to 4,096 more bytes
from the Archive into host memory, a DMA write the host's words into the Archive, and nothing else in either store; the turn
that moves the last byte of LENGTH ends the command with status 0 and the bytes moved (R426, R427, R431, R432, R433); out of
bandwidth it waits (R247). Which function is served first and what one DMA_COMPLETE moves are the model's choice, log entry 8.
Here no bit error and no poison is met. -/
def Obligations.FenceAndDma : Prop :=
  (
  (∀ (fn q tag rq : Nat) (m : State), m.cmdOk fn = true → m.queueQuiet fn q = true → m.r (.q fn) (.rqEn rq) ≠ 0 →
    Completes (.fence fn q tag rq) m fun m' =>
      let st := if m.tagBusy fn tag then 9 else 0
      let n := (m.r (.q fn) (.cqTaken q) + 1) % 2 ^ (Fld.cqTaken q).w
      m'.r (.q fn) (.cqTaken q) = n ∧
      (m'.cq fn q).blocked = (m.cq fn q).blocked ++ [(rq, completionPacket 0 q tag st 0 n m.pace [])] ∧ (m'.fn fn).status = st ∧
      RegsKept m m' (fun p f => p = .q fn ∧ f = .cqTaken q) ∧
      m' = { m with regs := m'.regs, cqs := m'.cqs, fns := m'.fns }) ∧
  (∀ (fn q tag rq iova off len : Nat) (m : State), m.cmdOk fn = true → m.dmaFull fn = false →
    m.dmaStatus fn tag iova off len = 0 →
    let put (wr : Bool) (m' : State) : Prop :=
      m'.dmas = m.dmas ++ [{ fn := fn, q := q, tag := tag, rq := rq, wr := wr, iova := iova, off := off, len := len,
                             seq := (m.r (.q fn) (.cqTaken q) + 1) % 2 ^ (Fld.cqTaken q).w }] ∧
      (m'.fn fn).status = 0 ∧ RegsKept m m' (fun p f => p = .q fn ∧ f = .cqTaken q) ∧
      m' = { m with regs := m'.regs, dmas := m'.dmas, fns := m'.fns }
    Completes (.arcDmaRd fn q tag rq iova off len) m (put false) ∧ Completes (.arcDmaWr fn q tag rq iova off len) m (put true)) ∧
  (∀ (fn tag : Nat) (d : Dma) (m : State), m.cmdOk fn = true → (∃ l, m.dmas = d :: l) → d.fn = fn → d.tag = tag →
    Completes (.dmaAbort fn tag) m fun m' =>
      (∀ x ∈ m'.dmas, ¬ (x.fn = fn ∧ x.tag = tag)) ∧ (m'.fn fn).status = 0 ∧ tag ∈ (m'.fn fn).dmaEnded ∧
      (m.r (.q fn) (.rqEn d.rq) ≠ 0 → (m'.cq fn d.q).blocked = (m.cq fn d.q).blocked ++
        [(d.rq, completionPacket (if d.wr then 0x21 else 0x20) d.q tag 24 0 d.seq m.pace [d.moved])]) ∧
      (m.r (.q fn) (.rqEn d.rq) = 0 → m'.r (.q fn) (.cqNoRq d.q) = 1) ∧
      RegsKept m m' (fun p f => p = .q fn ∧ f = .cqNoRq d.q) ∧
      m' = { m with regs := m'.regs, dmas := m'.dmas, fns := m'.fns, cqs := m'.cqs, msix := m'.msix })) ∧
  (
  ∀ (fn tag : Nat) (d : Dma) (l : List Dma) (m : State), m.sound = true → m.dmas = d :: l → d.fn = fn → d.tag = tag →
    m.dmaRuns fn = true → m.archOn = true → m.latent = [] → m.poison = [] → d.bad = none →
    let n := d.unit
    let a := (m.region fn).1 + d.off + d.moved
    let b := d.iova + d.moved
    let moved (m' : State) : Prop :=
      (d.moved + n < d.len → m'.dmas.head? = some { d with moved := d.moved + n } ∧ m'.fns = m.fns ∧ m'.cqs = m.cqs ∧
        m'.regs = m.regs ∧ m'.msix = m.msix) ∧
      (d.len ≤ d.moved + n → (∀ x ∈ m'.dmas, ¬ (x.fn = fn ∧ x.tag = tag)) ∧
        (d.silent = false → m.r (.q fn) (.rqEn d.rq) ≠ 0 → (m'.cq fn d.q).blocked = (m.cq fn d.q).blocked ++
          [(d.rq, completionPacket (if d.wr then 0x21 else 0x20) d.q tag 0 0 d.seq m.pace [d.len])]) ∧
        RegsKept m m' (fun p f => p = .q fn ∧ f = .cqNoRq d.q)) ∧
      m'.cur = { m.cur with acct := m'.cur.acct, dmaLast := fn }
    (m.shareOut fn = false → m.dmaTurn fn = true →
      (∀ (ws : List Word) (err : Bool) (ep : List Nat), d.wr = false →
        Completes (.dmaComplete fn tag ws err ep []) m fun m' =>
          (∀ i, i < n → memGet m'.hostMem (b + i) = memGet m.arc (a + i)) ∧
          (∀ x, ¬ (b ≤ x ∧ x < b + n) → memGet m'.hostMem x = memGet m.hostMem x) ∧ moved m' ∧
          m' = { m with hostMem := m'.hostMem, regs := m'.regs, dmas := m'.dmas, fns := m'.fns, cqs := m'.cqs, msix := m'.msix,
                        cur := m'.cur }) ∧
      (∀ ws : List Word, d.wr = true → 4 * ws.length = n →
        Completes (.dmaComplete fn tag ws false [] []) m fun m' =>
          (∀ i, i < n → some (memGet m'.arc (a + i)) = (wordBytes ws)[i]?) ∧
          (∀ x, ¬ (a ≤ x ∧ x < a + n) → memGet m'.arc x = memGet m.arc x) ∧ moved m' ∧
          m' = { m with arc := m'.arc, written := m'.written, poison := m'.poison, regs := m'.regs, dmas := m'.dmas,
                        fns := m'.fns, cqs := m'.cqs, msix := m'.msix, cur := m'.cur })) ∧
    (∀ (ws : List Word) (err : Bool) (ep : List Nat),
      (m.shareOut fn = true → Completes (.dmaComplete fn tag ws err ep []) m fun m' => m' = m.wantArc fn) ∧
      (m.shareOut fn = false → m.dmaTurn fn = false → exec (.dmaComplete fn tag ws err ep []) m = .next m)))

/-- A packet written into a ring, of a context or a completion, stores its 32 bytes and its four tags at TAIL, TAIL moves on by 4,
and no other byte of host memory changes (R428), and the engine that has written a packet has room for one that it owes
(R145); which of its words the device finds corrupt is free (log entry 12), and each of them counts in POISON; here the tail
write-back is off and the four places do not wrap. A doorbell between HEAD and TAIL moves HEAD, and one outside only flags
BAD_HEAD (R429); the moderation timer sends the queue's message US microseconds after its first packet (R430), or sets its
pending bit where its vector is masked, and unmasking the vector sends what is pending on it (R414). -/
def Obligations.ResultRings : Prop :=
  (
  ∀ (fn r : Nat) (m : State), m.sound = true → fn < 17 → r < 16 → m.cmdOk fn = true → m.dmaRuns fn = true →
    let p := Page.q fn
    let tail := m.r p (.rqTail r)
    let data := m.pair p (.rqBaseLo r) (.rqBaseHi r) + tail % 8192 * 8
    let tags := m.pair p (.rqTbaseLo r) (.rqTbaseHi r) + tail % 8192
    m.r p (.rqEn r) ≠ 0 → m.ringUsed fn r + 4 ≤ 8192 → m.r p (.rqWbEn r) = 0 → tail % 8192 + 4 ≤ 8192 →
    (data + 32 ≤ tags ∨ tags + 4 ≤ data) →
    let put (x : Packet) (m' : State) : Prop :=
      (∀ i, i < 8 → leNat (memLoad m'.hostMem (data + 4 * i) 4) = (x.getD i 0).toNat) ∧
      (∀ i, i < 4 → memGet m'.hostMem (tags + i) = tagByte (tail + i) ((packetData x).getD i 0) (i == 3) (Config.badWord m.freeCtr i)) ∧
      (∀ b, ¬ (data ≤ b ∧ b < data + 32) → ¬ (tags ≤ b ∧ b < tags + 4) → memGet m'.hostMem b = memGet m.hostMem b) ∧
      m'.r p (.rqTail r) = (tail + 4) % 2 ^ 32 ∧
      m'.r p (.rqPoison r) = (m.r p (.rqPoison r) + ((List.range 4).filter (Config.badWord m.freeCtr)).length) % 2 ^ (Fld.rqPoison r).w ∧
      RegsKept m m' (fun q f => q = p ∧ f ∈ [.rqTail r, .rqPkts r, .rqFull r, .rqPoison r]) ∧
      m' = { m with regs := m'.regs, hostMem := m'.hostMem, rqs := m'.rqs, cqs := m'.cqs, ctxs := m'.ctxs, msix := m'.msix,
                    freeCtr := m.freeCtr + 1 }
    (∀ (id key : Nat) (x : Packet) (l : List (Nat × Packet)), (m.ctx id).fn = fn → (m.ctx id).par.rq = r →
      (m.ctx id).pkts = (key, x) :: l → (∀ y ∈ m.ctxs, y.1 ≠ id → ∀ z ∈ y.2.owed, z.1 ≠ key) →
      ((∀ y ∈ m.ctxs, ∀ z ∈ y.2.owed, z.1 ≠ key) → (∀ y ∈ m.rqs, ∀ z ∈ y.2.owed, z.1 ≠ key) →
        Completes (.resultPacket id) m fun m' => put x m' ∧ (m'.ctx id).pkts = l) ∧
      (∀ (y : Packet) (o : List (Nat × Packet)), (m.ctx id).owed = (key, y) :: o →
        Completes (.resultPacket id) m fun m' => put x m' ∧ (m'.ctx id).pkts = l ++ [(key, y)] ∧ (m'.ctx id).owed = o)) ∧
    (∀ (q : Nat) (x : Packet) (l : List (Nat × Packet)), q < 8 → (m.rq fn r).waiting = [] → (m.cq fn q).blocked = (r, x) :: l →
      (∀ k, k < 8 → k ≠ q → (m.cq fn k).blocked = []) →
      Completes (.resultWrite fn r) m fun m' => put x m' ∧ (m'.cq fn q).blocked = l)) ∧
  (
  (∀ (fn r v : Nat) (m : State), m.winOk fn = true → r < 16 → m.r (.q fn) (.rqEn r) ≠ 0 → v < 2 ^ 32 →
    ((v + 2 ^ 32 - m.r (.q fn) (.rqHead r)) % 2 ^ 32 ≤ m.ringUsed fn r →
      Completes (.resultDoorbell fn r v) m fun m' =>
        m'.r (.q fn) (.rqHead r) = v ∧ RegsKept m m' (fun p f => p = .q fn ∧ f ∈ [.rqHead r, .rqFull r]) ∧
        m' = { m with regs := m'.regs }) ∧
    (m.ringUsed fn r < (v + 2 ^ 32 - m.r (.q fn) (.rqHead r)) % 2 ^ 32 →
      Completes (.resultDoorbell fn r v) m fun m' =>
        m'.r (.q fn) (.rqBadHead r) = 1 ∧ RegsKept m m' (fun p f => p = .q fn ∧ f = .rqBadHead r) ∧
        m' = { m with regs := m'.regs, msix := m'.msix })) ∧
  (∀ (fn r : Nat) (m : State), fn < 17 → r < 16 → (m.rq fn r).unsig ≠ 0 → m.r (.q fn) (.rqModUs r) ≠ 0 →
    Completes (.moderationTimer fn r) m fun m' =>
      let v := m.r (.q fn) (.rqVec r)
      m'.pace = max m.pace ((m.rq fn r).first + m.r (.q fn) (.rqModUs r) * 800) ∧ (m'.rq fn r).unsig = 0 ∧
      (m.tells fn v = true → tabGet 0 (m'.msi fn).sent v = tabGet 0 (m.msi fn).sent v + 1 ∧
        (∀ j, j ≠ v → tabGet 0 (m'.msi fn).sent j = tabGet 0 (m.msi fn).sent j) ∧ (m'.msi fn).pba = (m.msi fn).pba) ∧
      (m.tells fn v = false → (m.msi fn).en = true → v ∈ (m'.msi fn).pba ∧ (m'.msi fn).sent = (m.msi fn).sent) ∧
      ((m.msi fn).en = false → m'.msix = m.msix) ∧ (∀ g, g ≠ fn → m'.msi g = m.msi g) ∧
      m' = { m with pace := m'.pace, rqs := m'.rqs, msix := m'.msix }) ∧
  (∀ (a : Acc) (w : Word) (v : Nat) (m : State), m.winOk a.fn = true → accTarget a = .msixEnt v 3 → a.off % 4 = 0 →
    v < m.r (.q a.fn) .qNvec → (m.msi a.fn).en = true → (m.fn a.fn).bme = true → (m.msi a.fn).pba = [v] →
    Completes (.registerWrite a w) m fun m' =>
      (m'.msi a.fn).word v 3 = w.toNat % 2 ∧
      (w.toNat % 2 = 0 → tabGet 0 (m'.msi a.fn).sent v = tabGet 0 (m.msi a.fn).sent v + 1 ∧ (m'.msi a.fn).pba = []) ∧
      (w.toNat % 2 = 1 → (m'.msi a.fn).sent = (m.msi a.fn).sent ∧ (m'.msi a.fn).pba = [v]) ∧
      (∀ g, g ≠ a.fn → m'.msi g = m.msi g) ∧ m' = { m with msix := m'.msix }))

/-! The Stride sequencer (R162 to R209). -/

/-- SEQ_CMD.START that no check refuses clears the results of the last run and asks for the locks of the target lanes; a START
that check `c` refuses only stores `c` (R164, R165). SEQ_CMD.ABORT ends a live sequence ABORTED, restores SRC and DIV and frees
its lanes (R207, R208); in DONE it only counts in ABORT_LATE (R207). -/
def Obligations.SequenceStartsAndAborts : Prop :=
  ∀ (fn t : Nat) (m : State), m.hostAt fn (.seq t) = true →
    let p := Page.seq t
    let q := m.seq t
    (m.seqStartCheck t = 0 → Completes (.seqStart fn t) m fun m' =>
      m'.r p .seqState = 1 ∧ m'.r p .seqOutcome = 0 ∧ m'.r p .seqReason = 0 ∧ m'.r p .seqStartRefuse = 0 ∧
      m'.r p .seqRefuseCode = 0 ∧ m'.r p .seqBadIndex = 0 ∧ (∀ j, j < 4 → m'.r p (.seqLoop j) = 0) ∧
      m'.locks = m.locks ++ [⟨.seq, t, m.seqLanes t, 0⟩] ∧
      m'.seq t = { slipTotal := q.slipTotal, jumpTs := q.jumpTs, endTs := q.endTs } ∧ (∀ u, u ≠ t → m'.seq u = m.seq u) ∧
      RegsKept m m' (fun a f => a = p ∧ f ∈ [.seqState, .seqOutcome, .seqReason, .seqStartRefuse, .seqRefuseCode, .seqBadIndex,
        .seqLoop 0, .seqLoop 1, .seqLoop 2, .seqLoop 3]) ∧
      m' = { m with regs := m'.regs, seqs := m'.seqs, locks := m'.locks }) ∧
    (m.seqStartCheck t ≠ 0 → Completes (.seqStart fn t) m fun m' =>
      m'.r p .seqStartRefuse = m.seqStartCheck t ∧ RegsKept m m' (fun a f => a = p ∧ f ∈ [.seqStartRefuse, .seqBadIndex]) ∧
      m' = { m with regs := m'.regs }) ∧
    (m.seqLive t = true → Completes (.seqAbort fn t) m fun m' =>
      m'.r p .seqState = 5 ∧ m'.r p .seqOutcome = 2 ∧ m'.r p .seqReason = 1 ∧ m'.r p .seqDone = 1 ∧
      (∀ s ∈ m.seqLanes t, (m'.lane t s).owner ≠ some .seq) ∧ (∀ o ∈ m'.locks, o.tile = t → o.who ≠ .seq) ∧
      (∀ s src div, q.saved = [(s, src, div)] →
        m'.r (.lane t s) .laneDacSrc = src % 2 ^ (Fld.laneDacSrc).w ∧ m'.r (.lane t s) .laneDacDiv = div % 2 ^ (Fld.laneDacDiv).w) ∧
      (∀ u, u ≠ t → m'.seq u = m.seq u) ∧
      RegsKept m m' (fun a f => (a = p ∧ f ∈ [.seqState, .seqOutcome, .seqReason, .seqRefuseCode, .seqDone]) ∨
        (∃ x ∈ q.saved, a = .lane t x.1 ∧ (f.off = 0x114 ∨ f.off = 0x134 ∨ f = .laneReachClip))) ∧
      LanesKept m m' (laneKeys t (m.seqLanes t ++ q.saved.flatMap fun x => m.around t x.1)) ∧
      m' = { m with regs := m'.regs, lanes := m'.lanes, seqs := m'.seqs, locks := m'.locks, flight := m'.flight,
                    msix := m'.msix }) ∧
    (m.r p .seqState = 5 → Completes (.seqAbort fn t) m fun m' =>
      m'.r p .seqAbortLate = (m.r p .seqAbortLate + 1) % 2 ^ (Fld.seqAbortLate).w ∧
      RegsKept m m' (fun a f => a = p ∧ f = .seqAbortLate) ∧ m' = { m with regs := m'.regs })

/-- From the locks to the first boundary: the grant saves SRC and DIV and writes DIV, or ends the sequence REFUSED with the code
of a lane that may not take part (R166, R167); PRIMING reads as far as the home site's bandwidth allows (R247), checks every
block header (R199), and stages; staging ends in ARMED or RUNNING, with the first boundary 16 ticks later (R168); SEQ_GO starts
an armed sequence and is dropped and counted in every other state (R168, R289, R301). -/
def Obligations.SequenceIsGrantedPrimedAndStarted : Prop :=
  ∀ (t : Nat) (m : State),
    let p := Page.seq t
    let q := m.seq t
    let acct (m' : State) : CurDyn := { m.cur with acct := m'.cur.acct }
    let fed := (m.primeRead t (m.resBytes t true)).1
    (∀ (o : LockReq) (rest : List LockReq), m.tileOn t = true → m.locks = o :: rest → o.tile = t → o.who = .seq →
      m.grantable 0 o = true →
      let srcs := (List.range (m.seqLastSeg t + 1)).map fun n => (m.segOf t n).src
      (((m.grant o).seqGrantLanes t srcs o.slots).2 = none → Completes (.seqLockGrant t) m fun m' =>
        m'.r p .seqState = 2 ∧ (∀ s ∈ o.slots, (m'.lane t s).owner = some .seq) ∧ o ∉ m'.locks ∧
        (m'.seq t).saved = o.slots.map (fun s => (s, m.r (.lane t s) .laneDacSrc, m.r (.lane t s) .laneDacDiv)) ∧
        (∀ s ∈ o.slots, m'.r (.lane t s) .laneDacDiv = m.r p .seqDiv % 2 ^ (Fld.laneDacDiv).w) ∧
        RegsKept m m' (fun a f => (a = p ∧ f = .seqState) ∨ (a = .pwr ∧ f = .pwrOverAllow) ∨
          OfLanes t o.slots [.laneDacDiv, .laneDacOrigin] a f) ∧
        LanesKept m m' (laneKeys t o.slots) ∧ (∀ u, u ≠ t → m'.seq u = m.seq u) ∧
        m' = { m with regs := m'.regs, lanes := m'.lanes, seqs := m'.seqs, locks := m'.locks }) ∧
      (∀ y, ((m.grant o).seqGrantLanes t srcs o.slots).2 = some y → m.r p .seqState = 1 →
        Completes (.seqLockGrant t) m fun m' =>
          m'.r p .seqState = 5 ∧ m'.r p .seqOutcome = 2 ∧ m'.r p .seqReason = 6 ∧ m'.r p .seqRefuseCode = y.code ∧
          (∀ s ∈ m.seqLanes t, (m'.lane t s).owner ≠ some .seq))) ∧
    (m.r p .seqState = 2 → m.archOn = true → m.latent = [] →
      let left := 64 * (m.blockSegs t).length - q.moved
      let wait := m.resBytes t true - q.moved
      (q.headersOk = false → left ≤ m.arcRoom (m.home t) → (∀ n ∈ m.blockSegs t, m.poisoned (m.blockAt t (m.segOf t n)) 64 = false ∧
          m.headerOk t (m.segOf t n) = true) → m.resBytes t true ≤ 0x100000 →
        Completes (.blockHeadersRead t []) m fun m' =>
          m'.seq t = { q with headersOk := true, moved := 0 } ∧ (∀ u, u ≠ t → m'.seq u = m.seq u) ∧ m'.cur = acct m' ∧
          m' = { m with seqs := m'.seqs, cur := m'.cur }) ∧
      (q.headersOk = false → m.arcRoom (m.home t) < left → Completes (.blockHeadersRead t []) m fun m' =>
        m'.seq t = { q with moved := q.moved + m.arcRoom (m.home t) } ∧ (∀ u, u ≠ t → m'.seq u = m.seq u) ∧ m'.cur = acct m' ∧
        m' = { m with seqs := m'.seqs, cur := m'.cur }) ∧
      (∀ n l, q.headersOk = false → left ≤ m.arcRoom (m.home t) → m.blockSegs t = n :: l → m.poisoned (m.blockAt t (m.segOf t n)) 64 = false →
        m.headerOk t (m.segOf t n) = false →
        Completes (.blockHeadersRead t []) m fun m' =>
          m'.r p .seqState = 5 ∧ m'.r p .seqOutcome = 2 ∧ m'.r p .seqReason = 7 ∧
          m'.r p .seqBadIndex = n % 2 ^ (Fld.seqBadIndex).w) ∧
      (q.headersOk = true → q.staged = false → m.arcRoom (m.home t) < wait → Completes (.stagingComplete t []) m fun m' =>
        m'.seq t = { q with moved := q.moved + m.arcRoom (m.home t) } ∧ (∀ u, u ≠ t → m'.seq u = m.seq u) ∧ m'.cur = acct m' ∧
        m' = { m with seqs := m'.seqs, cur := m'.cur }) ∧
      (q.headersOk = true → q.staged = false → wait ≤ m.arcRoom (m.home t) → m.badDds t = none →
        let staged := (((fed.stageAll t).prefetchFrom t (m.r p .seqFirst)).modSeq t fun q => { q with staged := true }).prefetch t
          (m.r p .seqPrime)
        staged.badPrimed t = none →
        Completes (.stagingComplete t []) m fun m' =>
          m'.r p .seqState = (if staged.primed t = false then 2 else if m.r p .seqStartOn = 1 then 3 else 4) ∧
          (m'.seq t).ring = (staged.seq t).ring ∧
          (staged.primed t = true → m.r p .seqStartOn ≠ 1 → (m'.seq t).boundary = m.pace + 16) ∧
          RegsKept m m' (fun a f => a = p ∧ f = .seqState) ∧ (∀ u, u ≠ t → m'.seq u = m.seq u) ∧ m'.cur = acct m' ∧
          m' = { m with regs := m'.regs, seqs := m'.seqs, cur := m'.cur })) ∧
    (∀ hop : Nat, m.tileOn t = true → tabGet 0 (m.tile t).deliv 18 ≠ m.pace + 1 →
      let noted (m' : State) : Prop := m'.tile t = { m.tile t with deliv := tabSet (m.tile t).deliv 18 (m.pace + 1) } ∧
        ∀ u, u ≠ t → m'.tile u = m.tile u
      (m.r p .seqState = 3 → Completes (.seqGo t hop) m fun m' =>
        m'.r p .seqState = 4 ∧ m'.seq t = { q with boundary := m.pace + 16, goHop := some hop } ∧
        (∀ u, u ≠ t → m'.seq u = m.seq u) ∧ RegsKept m m' (fun a f => a = p ∧ f = .seqState) ∧ noted m' ∧
        m' = { m with regs := m'.regs, seqs := m'.seqs, tiles := m'.tiles }) ∧
      (m.r p .seqState ≠ 3 → Completes (.seqGo t hop) m fun m' =>
        m'.r (.bat t) .batDroppedBusy = (m.r (.bat t) .batDroppedBusy + 1) % 2 ^ (Fld.batDroppedBusy).w ∧
        m'.r (.bat t) .batDropLast = 18 ∧ RegsKept m m' (fun a f => a = .bat t ∧ f ∈ [.batDroppedBusy, .batDropLast]) ∧
        noted m' ∧ m' = { m with regs := m'.regs, tiles := m'.tiles }))

/-- What follows a boundary is decided 8 ticks before it: the next granule, the END of the sequence, a jump request that landed
before, or the policy HOLD_ABORT after an underrun (R174, R176, R178, R203); and takes place on the boundary: a WAVE granule
begins and ends 32 DAC periods later, the first segment is entered on the first boundary, END completes the sequence (R173,
R175, R168, R206). -/
def Obligations.BoundariesAreDecidedAndTaken : Prop :=
  ∀ (t : Nat) (m : State),
    let p := Page.seq t
    let q := m.seq t
    let sg := m.r p .seqSeg
    let e := m.segOf t sg
    let others (m' : State) : Prop := ∀ u, u ≠ t → m'.seq u = m.seq u
    let play (a : Page) (f : Fld) : Prop := a = p ∧ f ∈ [.seqSeg, .seqUndSeg, .seqUndGran, .seqUndRep, .seqUndCnt, .seqUnderrun]
    m.r p .seqState = 4 → q.holding = false → q.gapEnd = none → q.noRefin = false →
    (q.started = true → q.next = none → (e.src ≠ 1 ∨ q.vec = 64) →
      (q.gran + 1 < e.granules → q.und = none → q.jump = none → Completes (.lockInPoint t) m fun m' =>
        m'.pace = max m.pace (q.boundary - 8) ∧ m'.seq t = { q with next := some .granule } ∧ others m' ∧
        m' = { m with pace := m'.pace, seqs := m'.seqs }) ∧
      (q.gran + 1 = e.granules → e.reps ≠ 0 → e.reps ≤ q.rep → e.act = 4 → q.jump = none → Completes (.lockInPoint t) m fun m' =>
        m'.pace = max m.pace (q.boundary - 8) ∧ m'.seq t = { q with next := some .finish } ∧ others m' ∧
        m' = { m with pace := m'.pace, seqs := m'.seqs }) ∧
      (∀ j : JumpReq, q.jump = some j → (e.bound = true ∨ q.gran + 1 = e.granules) → j.tick < q.boundary - 8 → q.und = none →
        m.streamed t (j.target, 0, 1) = false → Completes (.lockInPoint t) m fun m' =>
          m'.pace = max m.pace (q.boundary - 8) ∧ (m'.seq t).next = some (.jump j.target j.late) ∧ (m'.seq t).jump = none ∧
          others m' ∧ m' = { m with pace := m'.pace, seqs := m'.seqs }) ∧
      (q.gran + 1 < e.granules → q.und = some (sg, q.gran + 1, q.rep) → q.jump = none → m.r p .seqPolicy = 0 →
        Completes (.lockInPoint t) m fun m' =>
          m'.pace = max m.pace (q.boundary - 8) ∧ m'.seq t = { q with next := some (.abort 3) } ∧ others m' ∧
          m' = { m with pace := m'.pace, seqs := m'.seqs })) ∧
    (q.started = true → q.next = some .granule → q.gran + 1 ≠ e.granules → e.src = 3 → q.und = none →
      m.seqPlayed t q.boundary = true → (m.granWords t (sg, q.gran + 1, q.rep)).1 = 0 →
      Completes (.granuleBoundary t) m fun m' =>
        m'.pace = max m.pace q.boundary ∧ (m'.seq t).gran = q.gran + 1 ∧ (m'.seq t).rep = q.rep ∧
        (m'.seq t).granStart = q.boundary ∧ (m'.seq t).boundary = q.boundary + 32 * m.r p .seqDiv ∧ (m'.seq t).next = none ∧
        (m'.seq t).cur = (m.granWords t (sg, q.gran + 1, q.rep)).2 ∧ RegsKept m m' play ∧ others m' ∧
        m' = { m with pace := m'.pace, regs := m'.regs, seqs := m'.seqs, flight := m'.flight, msix := m'.msix }) ∧
    (q.started = false → (m.segOf t (m.r p .seqFirst)).src = 3 →
      (∀ s ∈ m.seqLanes t, m.sw t s ≠ .pin ∧ (m.lane t s).dds = false) → (m.granWords t (m.r p .seqFirst, 0, 1)).1 = 0 →
      (∀ h, q.goHop = some h → h < 14) → Completes (.segmentBoundary t) m fun m' =>
        m'.pace = max m.pace q.boundary ∧ (m'.seq t).started = true ∧ m'.r p .seqSeg = m.r p .seqFirst % 2 ^ (Fld.seqSeg).w ∧
        (m'.seq t).gran = 0 ∧ (m'.seq t).rep = 1 ∧ (m'.seq t).granStart = q.boundary ∧
        (m'.seq t).boundary = q.boundary + 32 * m.r p .seqDiv ∧ (∀ s ∈ m.seqLanes t, (m'.lane t s).dacNext = q.boundary) ∧
        RegsKept m m' play ∧ LatKept m m' (OfLanes t (m.seqLanes t) [.laneDacDiv]) ∧
        LanesKept m m' (laneKeys t (m.seqLanes t)) ∧ others m' ∧
        m' = { m with pace := m'.pace, regs := m'.regs, lat := m'.lat, lanes := m'.lanes, seqs := m'.seqs, flight := m'.flight,
                      msix := m'.msix }) ∧
    (q.started = true → q.next = some .finish → q.gran + 1 = e.granules → m.seqPlayed t q.boundary = true → q.und = none →
      Completes (.segmentBoundary t) m fun m' =>
        m'.pace = max m.pace q.boundary ∧ m'.r p .seqState = 5 ∧ m'.r p .seqOutcome = 1 ∧ m'.r p .seqReason = 0 ∧
        m'.r p .seqDone = 1 ∧ (m'.seq t).endTs.tick = q.boundary ∧
        (∀ s ∈ m.seqLanes t, (m'.lane t s).owner ≠ some .seq) ∧ others m' ∧
        RegsKept m m' (fun a f => (a = p ∧ f ∈ [.seqState, .seqOutcome, .seqReason, .seqRefuseCode, .seqDone]) ∨
          (∃ x ∈ q.saved, a = .lane t x.1 ∧ f.off = 0x114)) ∧
        LanesKept m m' (laneKeys t (m.seqLanes t ++ q.saved.map (·.1))) ∧
        m' = { m with pace := m'.pace, regs := m'.regs, lanes := m'.lanes, seqs := m'.seqs, locks := m'.locks,
                      flight := m'.flight, msix := m'.msix })

/-- Jump requests: one of a host or of SEQ_JREQ stands pending from its landing tick, in the place of an earlier one, which counts
in JREPL_CNT; deliveries of one tick make one request (R302); a request while the sequence is not RUNNING only counts there, a
target that may not be landed on sets JUMP_REFUSED (R178, R180). -/
def Obligations.JumpRequestsStandPending : Prop :=
  ∀ (fn t target : Nat) (m : State),
    let p := Page.seq t
    let n := target % 4096
    let repl : Nat := if (m.seq t).jump.isSome then (m.r p .seqJreplCnt + 1) % 2 ^ (Fld.seqJreplCnt).w else m.r p .seqJreplCnt
    let others (m' : State) : Prop := ∀ u, u ≠ t → m'.seq u = m.seq u
    let noted (j : Nat) (m' : State) : Prop := (∀ u, u ≠ t → m'.tile u = m.tile u) ∧
      m'.tile t = { m.tile t with deliv := tabSet (m.tile t).deliv (20 + j) (m.pace + 1) }
    (m.hostAt fn p = true →
      (m.r p .seqState = 4 → n ≤ m.seqLastSeg t → ((m.segOf t n).resident = true ∨ m.landing t n = true) →
        Completes (.seqJumpReq fn t target) m fun m' =>
          (m'.seq t).jump.map (fun j => (j.target, j.tick)) = some (n, m.pace) ∧ m'.r p .seqJumpTarget = n ∧
          m'.r p .seqJreplCnt = repl ∧ RegsKept m m' (fun a f => a = p ∧ f ∈ [.seqJumpTarget, .seqJumpOrigin, .seqJreplCnt]) ∧
          others m' ∧ m' = { m with regs := m'.regs, seqs := m'.seqs }) ∧
      (m.r p .seqState = 4 → (m.seqLastSeg t < n ∨ ((m.segOf t n).resident = false ∧ m.landing t n = false)) → Completes (.seqJumpReq fn t target) m fun m' =>
        m'.r p .seqJumpRefused = 1 ∧ m'.seqs = m.seqs ∧
        RegsKept m m' (fun a f => a = p ∧ f = .seqJumpRefused) ∧
        m' = { m with regs := m'.regs, msix := m'.msix }) ∧
      (m.r p .seqState ≠ 4 → Completes (.seqJumpReq fn t target) m fun m' =>
        m'.r p .seqJreplCnt = (m.r p .seqJreplCnt + 1) % 2 ^ (Fld.seqJreplCnt).w ∧
        RegsKept m m' (fun a f => a = p ∧ f ∈ [.seqJumpTarget, .seqJumpOrigin, .seqJreplCnt]) ∧ m' = { m with regs := m'.regs })) ∧
    (∀ j hop : Nat, m.tileOn t = true → j < 4 → tabGet 0 (m.tile t).deliv (20 + j) ≠ m.pace + 1 → m.r p .seqState ≠ 4 →
      Completes (.seqJreq t j hop) m fun m' =>
        m'.r p .seqJreplCnt = (m.r p .seqJreplCnt + 1) % 2 ^ (Fld.seqJreplCnt).w ∧
        RegsKept m m' (fun a f => a = p ∧ f = .seqJreplCnt) ∧ noted j m' ∧ m' = { m with regs := m'.regs, tiles := m'.tiles }) ∧
    (∀ j hop : Nat, m.tileOn t = true → j < 4 → tabGet 0 (m.tile t).deliv (20 + j) = m.pace + 1 →
      Completes (.seqJreq t j hop) m fun m' =>
        m'.r (.bat t) .batCoalesced = (m.r (.bat t) .batCoalesced + 1) % 2 ^ Fld.batCoalesced.w ∧
        RegsKept m m' (fun a f => a = .bat t ∧ f ∈ [.batCoalesced, .batCoalLast]) ∧ m' = { m with regs := m'.regs }) ∧
    (∀ j hop : Nat, m.tileOn t = true → j < 4 → tabGet 0 (m.tile t).deliv (20 + j) ≠ m.pace + 1 → m.r p .seqState = 4 → Completes (.seqJreq t j hop) m fun m' =>
      (m'.seq t).jump.map (fun x => (x.target, x.tick)) = some (m.r p (.seqJtgt j), m.pace) ∧ m'.r p .seqJreplCnt = repl ∧
      RegsKept m m' (fun a f => a = p ∧ f ∈ [.seqJumpTarget, .seqJumpOrigin, .seqJreplCnt]) ∧ others m' ∧
      noted j m' ∧ m' = { m with regs := m'.regs, seqs := m'.seqs, tiles := m'.tiles })

/-- Play: a vector cycle moves the driver of its lane and judges the comparator at the strobe, and counts a fail (R191, R194,
R196); a list step advances each DDS list's index modulo its length (R187, R188); a refill puts the next granule of the path
into the ring, or waits for bandwidth (R247), and completes an underrun that waits for it, and ends a held sequence at once
where the granule carries an error (R201, R204, R205); and a held sequence resumes on the first whole cycle after its granule
is complete, with the slip recorded, or takes there the jump request that landed before the lock-in point (R178, R204). -/
def Obligations.VectorsListsRefillsAndResume : Prop :=
  ∀ (t : Nat) (m : State),
    let p := Page.seq t
    let q := m.seq t
    let sg := m.r p .seqSeg
    let e := m.segOf t sg
    let others (m' : State) : Prop := ∀ u, u ≠ t → m'.seq u = m.seq u
    (∀ (s : Nat) (pins : List Int) (drained : Nat), m.r p .seqState = 4 → q.started = true → q.holding = false → q.gapEnd = none →
      e.src = 1 → q.vec < 64 → m.seqLanes t = [s] → m.sw t s = .pin → (m.lane t s).drv.tripped = false →
      m.r (.acq t) .acqSrc ≠ 1 →
      let w := q.cur.getD q.vec 0
      let per := m.r p (.seqTsPer (bits w 27 5))
      let cycle (m' : State) : Prop :=
        m'.pace = max m.pace (m.strobeAt t).1 ∧ (m'.seq t).vec = q.vec + 1 ∧ (m'.seq t).cTick = q.cTick + per ∧ (m'.seq t).period = per ∧
        RegsKept m m' (fun a f => a = p ∧ f ∈ [.seqMergeCnt, .seqEdgeMerge, .seqFail, .seqLfail s]) ∧
        LanesKept m m' [t * 10 + s] ∧ others m' ∧
        m' = { m with pace := m'.pace, regs := m'.regs, lanes := m'.lanes, seqs := m'.seqs, flight := m'.flight, msix := m'.msix }
      (bits w (3 * s) 3 = 1 → Completes (.vectorCycle t pins drained) m fun m' =>
        (m'.lane t s).drv.on = true ∧ (m'.lane t s).drv.level = sext 16 (m.l (.lane t s) .lanePinDrvHi) ∧
        m'.r p (.seqLfail s) = m.r p (.seqLfail s) ∧ cycle m') ∧
      (bits w (3 * s) 3 = 2 → sext 16 (m.l (.lane t s) .lanePinCmpLo) * 500 ≤ pins.getD s 0 →
        Completes (.vectorCycle t pins drained) m fun m' =>
          (m'.lane t s).drv.on = false ∧ m'.r p (.seqLfail s) = (m.r p (.seqLfail s) + 1) % 2 ^ (Fld.seqLfail s).w ∧
          m'.r p .seqFail = 1 ∧ (m'.seq t).firstFail.isSome = true ∧ cycle m')) ∧
    (∀ fs ps as : List Nat, m.r p .seqState = 4 → q.started = true → q.gapEnd = none → e.src = 2 → q.listAt < q.boundary →
      tabGet ([], [], []) q.ddsLists e.addr = (fs, ps, as) → fs ≠ [] → ps ≠ [] → as ≠ [] →
      Completes (.ddsListStep t) m fun m' =>
        m'.pace = max m.pace q.listAt ∧ (m'.seq t).idxF = (q.idxF + 1) % fs.length ∧ (m'.seq t).idxP = (q.idxP + 1) % ps.length ∧
        (m'.seq t).idxA = (q.idxA + 1) % as.length ∧ (m'.seq t).listAt = q.listAt + e.dstep * 32 * m.r p .seqDiv ∧
        (∀ s ∈ m.seqLanes t, (m'.lane t s).ddsFreqL = fs.getD ((q.idxF + 1) % fs.length) 0 ∧
          (m'.lane t s).ddsPhase = ps.getD ((q.idxP + 1) % ps.length) 0 ∧
          (m'.lane t s).ddsAmpl = as.getD ((q.idxA + 1) % as.length) 0) ∧
        LanesKept m m' (laneKeys t (m.seqLanes t)) ∧ others m' ∧
        m' = { m with pace := m'.pace, lanes := m'.lanes, seqs := m'.seqs }) ∧
    (∀ h h' : Hunt, (m.r p .seqState = 3 ∨ m.r p .seqState = 4) → m.archOn = true → m.latent = [] →
      q.fetchAt = some h → m.seqSeek t 4096 h = (some true, h') → m.ringFull t h'.key = false →
      let k := h'.key
      let g := m.loadGran t (m.segOf t k.1) k.2.1
      (m.shareOut (m.home t) = true → Completes (.granuleRefill t []) m fun m' => m' = m.wantArc (m.home t)) ∧
      (m.shareOut (m.home t) = false → g.1 = 0 → Completes (.granuleRefill t []) m fun m' =>
        (m'.seq t).ring = q.ring ++ [⟨k.1, k.2.1, k.2.2, m.pace, 0, g.2⟩] ∧
        (m'.seq t).complete = (if q.und = some k then some m.pace else q.complete) ∧ others m' ∧
        m'.cur = { m.cur with acct := m'.cur.acct } ∧ m' = { m with seqs := m'.seqs, cur := m'.cur }) ∧
      (m.shareOut (m.home t) = false → g.1 ≠ 0 → q.holding = true → q.und = some k → Completes (.granuleRefill t []) m fun m' =>
        m'.r p .seqState = 5 ∧ m'.r p .seqOutcome = 2 ∧ m'.r p .seqReason = g.1 ∧ others m')) ∧
    (∀ (k : Nat × Nat × Nat) (tc : Nat), q.holding = true → q.und = some k → q.complete = some tc → q.noRefin = false →
      k.2.1 ≠ 0 → k.1 = sg → e.src = 3 →
      let div := m.r p .seqDiv
      let slip := if tc + 8 ≤ q.boundary then 0 else ceilDiv (tc + 8 - q.boundary) div * div
      (∀ j : JumpReq, q.jump = some j → e.bound = true → j.tick + 8 < q.boundary + slip → m.streamed t (j.target, 0, 1) = false →
        (m.segOf t j.target).src = 3 → (m.granWords t (j.target, 0, 1)).1 = 0 →
        (∀ s ∈ m.seqLanes t, m.sw t s ≠ .pin ∧ (m.lane t s).dds = false) → Completes (.holdResume t) m fun m' =>
          m'.pace = max m.pace (q.boundary + slip) ∧ m'.r p .seqSeg = j.target % 2 ^ (Fld.seqSeg).w ∧
          (m'.seq t).jump = none ∧ (m'.seq t).granStart = q.boundary + slip ∧ m'.r p .seqJumpTaken = 1 ∧
          m'.r p .seqJstatSeg = sg % 2 ^ (Fld.seqJstatSeg).w ∧ others m') ∧
      (q.jump = none → (m.granWords t (sg, q.gran + 1, q.rep)).1 = 0 → Completes (.holdResume t) m fun m' =>
        m'.pace = max m.pace (q.boundary + slip) ∧ (m'.seq t).granStart = q.boundary + slip ∧
        (m'.seq t).boundary = q.boundary + slip + 32 * div ∧ (m'.seq t).gran = q.gran + 1 ∧ (m'.seq t).holding = false ∧
        (m'.seq t).slipTotal = (q.slipTotal + slip) % 2 ^ 48 ∧ m'.r p .seqSlipLast = slip % 2 ^ (Fld.seqSlipLast).w ∧
        RegsKept m m' (fun a f => a = p ∧ f ∈ [.seqSlipLast, .seqUndSeg, .seqUndGran, .seqUndRep, .seqUndCnt, .seqUnderrun]) ∧
        others m' ∧ m' = { m with pace := m'.pace, regs := m'.regs, seqs := m'.seqs, flight := m'.flight, msix := m'.msix }))

/-! The acquisition unit (R210 to R241). -/

/-- ACQ_CMD.ARM that no check refuses clears the results of the last acquisition; a SOLO unit fills or waits for its trigger from
the next tick on, a STARTER fires ACQ_ARM_OUT, a MEMBER waits (R216, R217, R226). A refused ARM only stores its check.
Triggers: one of a SOLO unit, of a TRIG command, of ACQ_TRIG_IN, or the fire of a group, opens a record at its trigger tick,
whose slot's TYPE byte reads 0 (R219, R223, R225, R231, R232); a delivery in IDLE, WAIT_ARM or DONE is dropped and counted, as
is an arm outside WAIT_ARM (R289, R301); a trigger in CAPTURE or REARM counts in MISSED_CNT, whatever the unit's source and
role (R223, R289); deliveries of one tick to one consumer make one activation (R302). An ABORT ends a live acquisition, its
record in capture cut and left to be committed; in DONE it only counts in ABORT_LATE (R239). -/
def Obligations.AcquisitionArmsTriggersAndAborts : Prop :=
  (
  ∀ (fn t : Nat) (m : State), m.hostAt fn (.acq t) = true →
    let p := Page.acq t
    let a := m.acq t
    let cleared (m' : State) : Prop :=
      m'.r p .acqCommitted = 0 ∧ m'.r p .acqOutcome = 0 ∧ m'.r p .acqReason = 0 ∧ m'.r p .acqArmRefuse = 0 ∧
      m'.r p .acqRecords = 0 ∧ (m'.acq t).cap = none ∧ (m'.acq t).recN = 0 ∧
      (m'.acq t).waiting = a.waiting.map (fun w => { w with old := true }) ∧
      (m'.acq t).fill = (a.waiting.map (·.out.buf)).sum ∧ (∀ u, u ≠ t → m'.acq u = m.acq u) ∧
      RegsKept m m' (fun b f => b = p ∧
        f ∈ [.acqState, .acqUnresolved, .acqCommitted, .acqOutcome, .acqReason, .acqArmRefuse, .acqRecords])
    (m.acqArmCheck t = 0 →
      (m.r p .acqRole = 0 → Completes (.acqArm fn t) m fun m' =>
        m'.r p .acqState = (if m.acqPreN t = 0 then 3 else 2) ∧ (m'.acq t).ready = m.pace + 1 ∧
        (m'.acq t).frameT = ceilMul (m.acqPeriod t) (m.pace + 1) ∧ cleared m' ∧ m' = { m with regs := m'.regs, acqs := m'.acqs }) ∧
      (m.r p .acqRole = 1 → Completes (.acqArm fn t) m fun m' =>
        m'.r p .acqState = 1 ∧ m'.flight = addFlight m.flight { tick := m.pace + 1, stage := .prod t 34, hop := 0 } ∧ cleared m' ∧
        m' = { m with regs := m'.regs, acqs := m'.acqs, flight := m'.flight }) ∧
      (m.r p .acqRole = 2 → Completes (.acqArm fn t) m fun m' =>
        m'.r p .acqState = 1 ∧ cleared m' ∧ m' = { m with regs := m'.regs, acqs := m'.acqs })) ∧
    (m.acqArmCheck t ≠ 0 → Completes (.acqArm fn t) m fun m' =>
      m'.r p .acqArmRefuse = m.acqArmCheck t ∧ RegsKept m m' (fun b f => b = p ∧ f = .acqArmRefuse) ∧
      m' = { m with regs := m'.regs })) ∧
  (
  ∀ (fn t hop : Nat) (m : State),
    let p := Page.acq t
    let a := m.acq t
    let others (m' : State) : Prop := ∀ u, u ≠ t → m'.acq u = m.acq u
    let noted (con : Option Nat) (m' : State) : Prop := match con with
      | none => m'.tiles = m.tiles
      | some n => m'.tile t = { m.tile t with deliv := tabSet (m.tile t).deliv n (m.pace + 1) } ∧ ∀ u, u ≠ t → m'.tile u = m.tile u
    let first (n : Nat) : Prop := tabGet 0 (m.tile t).deliv n ≠ m.pace + 1
    let opens (trig source : Nat) (con : Option Nat) (m' : State) : Prop :=
      m'.r p .acqState = 4 ∧ m'.r p .acqUnresolved = m.r p .acqUnresolved ∧
      (m'.acq t).cap.map (fun c => (c.trig, c.source, c.n, c.frames)) = some (trig, source, a.recN, a.ring) ∧
      (m'.acq t).ring = [] ∧ (m'.acq t).prevTrig = some trig ∧ (m.archOn = true → memGet m'.arc (m.recSlot t a.recN) = 0) ∧
      BytesKept m m' (fun x => x = m.recSlot t a.recN) ∧ others m' ∧ noted con m' ∧
      (m.latent = [] → RegsKept m m' (fun b f => b = p ∧ f = .acqState) ∧ m'.cur = { m.cur with acct := m'.cur.acct } ∧
        m' = { m with regs := m'.regs, acqs := m'.acqs, arc := m'.arc, written := m'.written, poison := m'.poison,
                      flight := m'.flight, tiles := m'.tiles, cur := m'.cur })
    let dropped (c : Nat) (m' : State) : Prop :=
      m'.r (.bat t) .batDroppedBusy = (m.r (.bat t) .batDroppedBusy + 1) % 2 ^ (Fld.batDroppedBusy).w ∧
      m'.r (.bat t) .batDropLast = c ∧ RegsKept m m' (fun b f => b = .bat t ∧ f ∈ [.batDroppedBusy, .batDropLast]) ∧
      noted (some c) m' ∧ m' = { m with regs := m'.regs, tiles := m'.tiles }
    let missed (con : Option Nat) (m' : State) : Prop :=
      m'.r p .acqMissedCnt = (m.r p .acqMissedCnt + 1) % 2 ^ (Fld.acqMissedCnt).w ∧ (m'.acq t).missed = a.missed + 1 ∧
      RegsKept m m' (fun b f => b = p ∧ f = .acqMissedCnt) ∧ others m' ∧ noted con m' ∧
      m' = { m with regs := m'.regs, acqs := m'.acqs, tiles := m'.tiles }
    let waits : Prop := m.r p .acqState = 2 ∨ m.r p .acqState = 3
    let past (trig : Nat) : Prop := a.ready ≤ trig ∧ ∀ f ∈ a.ring, f.tick < trig
    let lat := m.pace - m.r p .acqTrigLat
    m.sound = true →
    (m.hostAt fn p = true → m.r p .acqTrigSrc = 0 →
      (waits → m.r p .acqRole = 0 → past (m.pace + 1) → Completes (.acqTrig fn t) m (opens (m.pace + 1) 0 none)) ∧
      (waits → m.r p .acqRole ≠ 0 → Completes (.acqTrig fn t) m fun m' =>
        m'.flight = addFlight m.flight { tick := m.pace + 1, stage := .prod t 35, hop := 0, firers := [t] } ∧
        m'.acq t = { a with fired := true } ∧ others m' ∧ m' = { m with acqs := m'.acqs, flight := m'.flight }) ∧
      (m.r p .acqState = 4 ∨ m.r p .acqState = 5 → Completes (.acqTrig fn t) m (missed none))) ∧
    (m.tileOn t = true → hop < 14 →
      (tabGet 0 (m.tile t).deliv 26 = m.pace + 1 → Completes (.acqTrigIn t hop) m fun m' =>
        m'.r (.bat t) .batCoalesced = (m.r (.bat t) .batCoalesced + 1) % 2 ^ Fld.batCoalesced.w ∧
        RegsKept m m' (fun b f => b = .bat t ∧ f ∈ [.batCoalesced, .batCoalLast]) ∧ m' = { m with regs := m'.regs }) ∧
      (first 24 → m.r p .acqState = 1 → Completes (.acqArmIn t hop) m fun m' =>
        m'.r p .acqState = (if m.acqPreN t = 0 then 3 else 2) ∧ (m'.acq t).ready = m.pace ∧ others m' ∧
        RegsKept m m' (fun b f => b = p ∧ f ∈ [.acqState, .acqUnresolved]) ∧ noted (some 24) m' ∧
        m' = { m with regs := m'.regs, acqs := m'.acqs, tiles := m'.tiles }) ∧
      (first 24 → m.r p .acqState ≠ 1 → Completes (.acqArmIn t hop) m (dropped 24)) ∧
      (first 26 → waits → m.r p .acqTrigSrc = 1 → m.r p .acqRole = 0 → past lat →
        Completes (.acqTrigIn t hop) m (opens lat 1 (some 26))) ∧
      (first 26 → m.r p .acqState = 4 ∨ m.r p .acqState = 5 → a.trigAt ≠ m.pace + 1 →
        Completes (.acqTrigIn t hop) m (missed (some 26))) ∧
      (first 26 → m.r p .acqState ∈ [0, 1, 6] → Completes (.acqTrigIn t hop) m (dropped 26)) ∧
      (first 25 → waits → m.r p .acqRole ≠ 0 → past lat → Completes (.acqFireIn t hop) m (opens lat 15 (some 25))) ∧
      (first 25 → m.r p .acqState = 4 ∨ m.r p .acqState = 5 → a.trigAt ≠ m.pace + 1 →
        Completes (.acqFireIn t hop) m (missed (some 25))) ∧
      (first 25 → m.r p .acqState ∈ [0, 1, 6] → Completes (.acqFireIn t hop) m (dropped 25))) ∧
    (m.hostAt fn p = true →
      (m.acqLive t = true → Completes (.acqAbort fn t) m fun m' =>
        m'.r p .acqState = 6 ∧ m'.r p .acqOutcome = 2 ∧ m'.r p .acqReason = 1 ∧ m'.r p .acqDone = 1 ∧ (m'.acq t).cap = none ∧
        (m'.acq t).waiting.length = a.waiting.length + (if a.cap.isSome then 1 else 0) ∧
        (∀ x ∈ a.waiting, x ∈ (m'.acq t).waiting) ∧ others m' ∧
        RegsKept m m' (fun b f => b = p ∧ f ∈ [.acqState, .acqOutcome, .acqReason, .acqUnresolved, .acqDone]) ∧
        m' = { m with regs := m'.regs, acqs := m'.acqs, flight := m'.flight, msix := m'.msix, freeCtr := m'.freeCtr }) ∧
      (m.r p .acqState = 6 → Completes (.acqAbort fn t) m fun m' =>
        m'.r p .acqAbortLate = (m.r p .acqAbortLate + 1) % 2 ^ (Fld.acqAbortLate).w ∧
        RegsKept m m' (fun b f => b = p ∧ f = .acqAbortLate) ∧ m' = { m with regs := m'.regs })))

/-- An ANALOG frame's words enter the pre-trigger ring, or the record in capture (R212, R213, R218, R221); a record whose frames
are complete ends and waits (R217, R238); the unit is ready again 448 ticks after (R217); the rate check, 8 ticks before a
granule boundary, decides a reduction where the write path was throttled and the buffer is fuller than the threshold (R234); the
Archive takes no more than waits for the port, the port carries and the bandwidth allows, 'taken' of the `drained` bytes that
the command names (R233, R247, R248; log entry 37); and a commit, which waits for what the port has still to carry of the
record, stores the frames and the header of the first record that waits, and nothing else of the Archive (R232). -/
def Obligations.FramesRecordsAndCommits : Prop :=
  ∀ (t : Nat) (m : State), m.tileOn t = true → m.sound = true →
    let p := Page.acq t
    let a := m.acq t
    let others (m' : State) : Prop := ∀ u, u ≠ t → m'.acq u = m.acq u
    let e := a.frameT + m.acqPeriod t
    let frame : Frame := { tick := a.frameT, endT := e, words := m.frameWords t, noRefin := m.r .pace .paceRefinOk == 0 }
    let acct (m' : State) : Prop := m'.cur = { m.cur with acct := m'.cur.acct }
    let taken (n z : Nat) : Nat := min n (min a.owed (min (5 * (z - a.servAt) / 2) ((m.due z).arcRoom (m.home t))))
    let left (n z : Nat) : Nat := (a.carried (taken n z)).fill
    (∀ drained : Nat, m.r p .acqSrc = 0 → m.r p .acqTrigSrc ≠ 2 → m.samplesTo t e = true →
      ((m.r p .acqState = 2 ∨ m.r p .acqState = 3) → a.cap = none → Completes (.acqFrame t drained) m fun m' =>
        m'.pace = max m.pace e ∧ (m'.acq t).frameT = e ∧ (m'.acq t).accs = [] ∧ (m'.acq t).fill = left drained e ∧
        (m'.acq t).owed = a.owed - taken drained e ∧
        (m'.acq t).ring = (a.ring ++ [frame]).drop (a.ring.length + 1 - (m.acqPreN t + 6)) ∧
        m'.r p .acqState = (if m.acqPreN t ≤ (m'.acq t).ring.length then 3 else m.r p .acqState) ∧ others m' ∧
        RegsKept m m' (fun b f => b = p ∧ f = .acqState) ∧ acct m' ∧
        m' = { m with pace := m'.pace, regs := m'.regs, acqs := m'.acqs, cur := m'.cur }) ∧
      (∀ c : Rec, m.r p .acqState = 4 → a.cap = some c → c.opened = true → c.seen < m.acqLen t - m.acqPreN t →
        c.trig ≤ a.frameT → c.overflow = false → c.rr = 0 → c.factor = 0 → c.group = [] →
        left drained e + m.acqFb t ≤ 393216 → Completes (.acqFrame t drained) m fun m' =>
          m'.pace = max m.pace e ∧ (m'.acq t).frameT = e ∧ (m'.acq t).fill = left drained e + m.acqFb t ∧
          (m'.acq t).owed = a.owed - taken drained e + m.acqFb t ∧
          (m'.acq t).cap.map (fun x => (x.frames, x.seen, x.winEnd, x.trig)) = some (c.frames ++ [frame], c.seen + 1, e, c.trig) ∧
          others m' ∧ acct m' ∧ m' = { m with pace := m'.pace, acqs := m'.acqs, cur := m'.cur })) ∧
    (∀ c : Rec, a.cap = some c → m.r p .acqState = 4 → c.opened = true → c.seen = m.acqLen t - m.acqPreN t →
      Completes (.recordEnd t) m fun m' =>
        m'.pace = max m.pace c.winEnd ∧ (m'.acq t).cap = none ∧ (m'.acq t).waiting = a.waiting ++ [{ m.waitRec t c with last := a.recN + 1 == m.acqRecs t }] ∧
        (m'.acq t).recN = a.recN + 1 ∧ (m'.acq t).lastEnd = c.winEnd ∧
        m'.r p .acqState = (if a.recN + 1 = m.acqRecs t then 6 else 5) ∧ (a.recN + 1 = m.acqRecs t → m'.r p .acqOutcome = 1) ∧
        RegsKept m m' (fun b f => b = p ∧ f ∈ [.acqState, .acqOutcome, .acqReason, .acqUnresolved]) ∧ others m' ∧
        m' = { m with pace := m'.pace, regs := m'.regs, acqs := m'.acqs }) ∧
    (m.r p .acqState = 5 → Completes (.rearmDone t) m fun m' =>
      m'.pace = max m.pace (a.lastEnd + 448) ∧ (m'.acq t).ready = a.lastEnd + 448 ∧
      m'.r p .acqState = (if m.acqPreN t = 0 then 3 else 2) ∧ (m'.acq t).waiting = a.waiting ∧ others m' ∧
      RegsKept m m' (fun b f => b = p ∧ f ∈ [.acqState, .acqUnresolved]) ∧
      m' = { m with pace := m'.pace, regs := m'.regs, acqs := m'.acqs }) ∧
    (∀ (c : Rec) (share port : Nat), a.cap = some c → m.r p .acqState = 4 → m.r p .acqSrc = 0 →
      let drained := min share port
      (∀ z : Nat, m.nextGranule t c = some z → Completes (.rateReduction t share port) m fun m' =>
        let rr := ((m'.acq t).cap.map (·.rr)).getD 0
        m'.pace = max m.pace (z - 8) ∧
        (m'.acq t).cap = (a.carried (taken drained (z - 8))).cap.map (fun x => { x with judged := z, rr := rr }) ∧
        (m'.acq t).fill = left drained (z - 8) ∧
        (m.r p .acqRrMode = 0 → c.factor < m.r p .acqRrMax → c.overflow = false → a.thr ≠ 0 →
          m.r p .acqRrThresh * 24576 < left drained (z - 8) → rr ≠ 0) ∧
        (left drained (z - 8) ≤ m.r p .acqRrThresh * 24576 → rr = 0) ∧
        m'.flight = (if rr = 0 then m.flight else addFlight m.flight { tick := z, stage := .prod t 38, hop := 0 }) ∧
        others m' ∧ acct m' ∧ m' = { m with pace := m'.pace, acqs := m'.acqs, cur := m'.cur, flight := m'.flight }) ∧
      (m.nextGranule t c = none → exec (.rateReduction t share port) m = .next m)) ∧
    (∀ (c : WaitRec) (rest : List WaitRec), a.waiting = c :: rest → m.archOn = true → m.arcRoom (m.home t) < c.out.total →
      Completes (.recordCommit t) m fun m' =>
        let k := m.arcRoom (m.home t)
        m'.pace = (if k = 0 then m.pace else max m.pace (a.servAt + ceilDiv (2 * k) 5)) ∧
        (m'.acq t).waiting = { c with out := c.out.take k } :: rest ∧ others m' ∧ acct m' ∧
        m' = { m with pace := m'.pace, acqs := m'.acqs, cur := m'.cur }) ∧
    (∀ (c : WaitRec) (rest : List WaitRec), a.waiting = c :: rest → m.archOn = true → m.latent = [] → c.header.length = 64 →
      c.old = false → c.out.total ≤ m.arcRoom (m.home t) → Completes (.recordCommit t) m fun m' =>
        m'.pace = (if c.out.total = 0 then m.pace else max m.pace (a.servAt + ceilDiv (2 * c.out.total) 5)) ∧
        (∀ i, i < 64 → some (memGet m'.arc (c.slot + i)) = c.header[i]?) ∧
        (∀ i, i < c.body.length → some (memGet m'.arc (c.slot + 64 + i)) = c.body[i]?) ∧
        BytesKept m m' (fun x => c.slot ≤ x ∧ x < c.slot + 64 + c.body.length) ∧ (m'.acq t).waiting = rest ∧
        m'.r p .acqCommitted = (m.r p .acqCommitted + 1) % 2 ^ (Fld.acqCommitted).w ∧
        m'.r p .acqRecords = m'.r p .acqCommitted ∧
        (c.last = true → m'.r p .acqDone = 1) ∧ others m' ∧
        RegsKept m m' (fun b f => b = p ∧ f ∈ [.acqCommitted, .acqRecords, .acqDone]) ∧ acct m' ∧
        m' = { m with pace := m'.pace, regs := m'.regs, acqs := m'.acqs, arc := m'.arc, written := m'.written,
                      poison := m'.poison, flight := m'.flight, msix := m'.msix, cur := m'.cur })

/-! The baton (R287 to R305). -/

/-- A stage in flight takes place on its tick. A producer position that fires sets its SEEN bit and reaches every consumer that
routes it, 1 tick later on one die, 2 across dies, and no other (R287, R288, R295, R296); a trunk channel that fires sets its
SEEN bit and reaches the input ports and TRIG lands connected to it one tick later (R291, R292, R295, R296); an event on
BAT_TSCAPn is stored with its hop count and position (R300); a TRIG land is driven for WIDTH ticks, 256 for 0 (R292); a tile
that is off discards what reaches it (R305). -/
def Obligations.BatonStagesTakePlace : Prop :=
  ∀ (tick hop : Nat) (m : State), hop < 15 →
    (∀ t pos : Nat, pos < 48 → m.tileOn t = true → m.flight = [{ tick := tick, stage := .prod t pos, hop := hop }] →
      Completes .batonDelivery m fun m' =>
        m'.pace = max m.pace tick ∧ (pos < 32 → (m'.r (.bat t) .batSeenLo).testBit pos = true) ∧
        (32 ≤ pos → (m'.r (.bat t) .batSeenHi).testBit (pos - 32) = true) ∧
        (∀ x : Flight, x ∈ m'.flight ↔ ∃ c, c < 48 ∧ ¬ (32 ≤ c ∧ c < 40) ∧ m.routed t c pos = true ∧
          x = { tick := tick + hopTicks pos c, stage := .cons t c pos, hop := hop }) ∧
        RegsKept m m' (fun p f => p = .bat t ∧ f = (if pos < 32 then .batSeenLo else .batSeenHi)) ∧
        m' = { m with pace := m'.pace, regs := m'.regs, flight := m'.flight, msix := m'.msix }) ∧
    (∀ ch : Nat, ch < 112 → m.flight = [{ tick := tick, stage := .chan ch, hop := hop }] →
      (∀ k, k < 16 → m.r .trk (.wlTxEn k) ≠ 1 ∨ m.r .trk (.wlTxCh k) ≠ ch) →
      Completes .batonDelivery m fun m' =>
        m'.pace = max m.pace tick ∧ (m'.r .trk (.trkSeen (ch / 32))).testBit (ch % 32) = true ∧
        (∀ x : Flight, x ∈ m'.flight ↔
          (∃ t j, t < 16 ∧ j < 8 ∧ m.tileOn t = true ∧ m.r (.bat t) (.batTinEn j) = 1 ∧ m.r (.bat t) (.batTinCh j) = ch ∧
            x = { tick := tick + 1, stage := .prod t (40 + j), hop := hop }) ∨
          (∃ n, n < 8 ∧ m.r .trk (.trigOutEn n) = 1 ∧ m.r .trk (.trigOutCh n) = ch ∧
            x = { tick := tick + 1, stage := .trigOut n, hop := 0 })) ∧
        RegsKept m m' (fun p f => p = .trk ∧ f = .trkSeen (ch / 32)) ∧
        m' = { m with pace := m'.pace, regs := m'.regs, flight := m'.flight, msix := m'.msix }) ∧
    (∀ t n pos : Nat, n < 4 → pos < 48 → m.tileOn t = true → tabGet 0 (m.tile t).deliv (28 + n) ≠ tick + 1 →
      m.flight = [{ tick := tick, stage := .cons t (28 + n) pos, hop := hop }] →
      Completes .batonDelivery m fun m' =>
        m'.pace = max m.pace tick ∧ m'.flight = [] ∧ tabGet ({}, 0, 0) m'.tscap (t * 4 + n) = (m.stamp tick, hop, pos) ∧
        m'.r (.bat t) (.batTscap n) = 1 ∧ RegsKept m m' (fun p f => p = .bat t ∧ f = .batTscap n) ∧
        m'.tile t = { m.tile t with deliv := tabSet (m.tile t).deliv (28 + n) (tick + 1) } ∧
        (∀ u, u ≠ t → m'.tile u = m.tile u) ∧
        m' = { m with pace := m'.pace, regs := m'.regs, flight := [], tscap := m'.tscap, tiles := m'.tiles, msix := m'.msix }) ∧
    (∀ t c pos : Nat, m.tileOn t = false → m.flight = [{ tick := tick, stage := .cons t c pos, hop := hop }] →
      Completes .batonDelivery m fun m' => m' = { m with pace := max m.pace tick, flight := [] }) ∧
    (∀ n : Nat, m.flight = [{ tick := tick, stage := .trigOut n, hop := hop }] →
      Completes .batonDelivery m fun m' =>
        let w := m.r .trk (.trigOutWidth n)
        m'.pace = max m.pace tick ∧ tabGet 0 m'.cur.trigUntil n = tick + (if w = 0 then 256 else w) ∧
        (∀ k, k ≠ n → tabGet 0 m'.cur.trigUntil k = tabGet 0 m.cur.trigUntil k) ∧
        m' = { m with pace := m'.pace, flight := [], cur := { m.cur with trigUntil := m'.cur.trigUntil } })

/-- Software fires a producer position, or a trunk channel that its site owns, on the next tick, and a fire of a foreign channel
is only flagged (R297, R299); a write of a route register stores its word, one of a reserved consumer is ignored, and a site's
write that R297 forbids is only flagged (R289, R296, R297). A falling edge on a TRIG land that the module sees is stamped, and
seen 2 or 3 ticks later; one on a land that it drives is not (R293; which of the two is log entry 6). A land whose WIDTH is over
is released (R292). -/
def Obligations.FiringsRoutesAndTrigLands : Prop :=
  (∀ (fn t pos : Nat) (m : State), m.hostAt fn (.bat t) = true → pos < 48 →
    Completes (.batFire fn t (0x80 + pos)) m fun m' =>
      m' = { m with flight := addFlight m.flight { tick := m.pace + 1, stage := .prod t pos, hop := 0, soft := true } }) ∧
  (∀ (fn ch : Nat) (m : State), m.hostAt fn .trk = true → ch < 128 →
    (m.ownsTrk fn ch = true → Completes (.batTrkFire fn (0x80 + ch)) m fun m' =>
      m' = { m with flight := addFlight m.flight { tick := m.pace + 1, stage := .chan ch, hop := 0 } }) ∧
    (m.ownsTrk fn ch = false → Completes (.batTrkFire fn (0x80 + ch)) m fun m' =>
      m'.r .trk (.trkRouteRef fn) = 1 ∧ m'.r .trk (.trkRefOff fn) = 0x1C0 ∧
      RegsKept m m' (fun p f => p = .trk ∧ f ∈ [.trkRouteRef fn, .trkRefOff fn]) ∧
      m' = { m with regs := m'.regs, msix := m'.msix })) ∧
  (∀ (a : Acc) (w : Word) (t c : Nat) (m : State), accTarget a = .reg (.bat t) (0x100 + 8 * c) → m.hostAt a.fn (.bat t) = true →
    (c < 32 → a.fn = 0 ∨ m.batForeign a.fn t (0x100 + 8 * c) w = false → Completes (.routeWrite a w) m fun m' =>
      m'.r (.bat t) (.batRouteLo c) = w.toNat ∧ RegsKept m m' (fun p f => p = .bat t ∧ f = .batRouteLo c) ∧
      m' = { m with regs := m'.regs }) ∧
    (c < 32 → a.fn ≠ 0 → m.batForeign a.fn t (0x100 + 8 * c) w = true → Completes (.routeWrite a w) m fun m' =>
      m'.r (.bat t) .batRouteRef = 1 ∧ m'.r (.bat t) .batRefOff = 0x100 + 8 * c ∧
      RegsKept m m' (fun p f => p = .bat t ∧ f ∈ [.batRouteRef, .batRefOff]) ∧
      m' = { m with regs := m'.regs, msix := m'.msix }) ∧
    (32 ≤ c → c < 40 → exec (.routeWrite a w) m = .next m)) ∧
  (∀ (n sub : Nat) (m : State), m.dom 1 = true → n < 8 →
    (m.trigBlind n = false → Completes (.trigInput n sub) m fun m' =>
      (∃ d, (d = 2 ∨ d = 3) ∧ m'.flight = addFlight m.flight { tick := m.pace + d, stage := .trigIn n, hop := 0 }) ∧
      tabGet {} m'.cur.trigTs n = m.stamp m.pace (sub % 128) ∧
      (∀ k, k ≠ n → tabGet {} m'.cur.trigTs k = tabGet {} m.cur.trigTs k) ∧
      m' = { m with flight := m'.flight, freeCtr := m'.freeCtr, cur := { m.cur with trigTs := m'.cur.trigTs } }) ∧
    (m.trigBlind n = true → exec (.trigInput n sub) m = .next m)) ∧
  (∀ (n z : Nat) (l : Tab Nat) (m : State), n < 8 → m.cur.trigUntil = (n, z) :: l →
    Completes (.trigoutEnd n) m fun m' =>
      m'.pace = max m.pace z ∧ (∀ x ∈ m'.cur.trigUntil, x.1 ≠ n) ∧ tabGet 0 m'.cur.trigUntil (8 + n) = z ∧
      m' = { m with pace := m'.pace, cur := { m.cur with trigUntil := m'.cur.trigUntil } })

/-! Calibration and the Catalogue (R306 to R331). -/

/-- A calibration request that no check refuses is queued under the next run ID, from the Catalogue page with status 0 at once
(log entry 35), from a command queue with its command's tag; a refused one queues nothing (R318, R319, R320, R423). An ABORT
gives every lane without an outcome the outcome ABORTED, ends the run, commits nothing, and is late for a run that has ended
(R329); the item's status is 2 ABORTED where CAT_CMD has ended the run (R487; log entry 35). -/
def Obligations.CalibrationRequestsAndAborts : Prop :=
  ∀ (fn : Nat) (p : CalParams) (m : State),
    let id := m.cur.nextRun
    let queued (run : CalRun) (m' : State) : Prop :=
      m'.cals = m.cals.filter (fun c => c.id != id) ++ [run] ∧ m'.cur.nextRun = (id + 1) % 65536 ∧ (m'.fn fn).status = 0 ∧
      (m'.fn fn).result = id ∧ (∀ g, g ≠ fn → m'.fn g = m.fn g)
    let aborts (c : CalRun) (m' : State) : Prop :=
      (∃ x l, m'.cals = x :: l ∧ x.id = c.id ∧ x.ended = true ∧ x.kept = [] ∧ x.p = c.p ∧
        ∀ k ∈ calAll c.p, (∀ e ∈ c.outcomes, e.1 ≠ k) → tabGet 0 x.outcomes k = 10) ∧
      m'.catalogue = m.catalogue ∧ m'.nv.bankA = m.nv.bankA ∧ m'.nv.bankB = m.nv.bankB ∧
      m'.r .cat .catRunDone = 1
    (m.hostAt fn .cur = true →
      (m.calStatus fn p = 0 → Completes (.catReq fn p) m fun m' =>
        queued { id := id, fn := fn, p := p } m' ∧ m'.cur.catReqSt = 0 ∧ m'.cur.catReqId = id ∧
        m' = { m with cals := m'.cals, cur := m'.cur, fns := m'.fns }) ∧
      (m.calStatus fn p ≠ 0 → Completes (.catReq fn p) m fun m' =>
        (m'.fn fn).status = m.calStatus fn p ∧ m'.cur.catReqSt = m.calStatus fn p ∧ m'.cur.catReqId = 0 ∧ m' = { m with cur := m'.cur, fns := m'.fns }) ∧
      (∀ (c : CalRun) (l : List CalRun), m.cals = c :: l → (∀ t, (m.tile t).turn = none) →
        (c.ended = false → Completes (.catAbort fn c.id) m fun m' => aborts c m' ∧ (m'.fn fn).status = 0 ∧ m'.cur.catCmdSt = 2) ∧
        (c.ended = true → Completes (.catAbort fn c.id) m fun m' =>
          (m'.fn fn).status = 15 ∧ m'.cur.catCmdSt = 15 ∧ m'.cals = m.cals ∧
          m'.r .cat .catAbortLate = (m.r .cat .catAbortLate + 1) % 2 ^ (Fld.catAbortLate).w ∧
          RegsKept m m' (fun b f => b = .cat ∧ f = .catAbortLate) ∧
          m' = { m with regs := m'.regs, cur := m'.cur, fns := m'.fns }))) ∧
    (m.cmdOk fn = true → ∀ q tag rq : Nat,
      let seq := (m.r (.q fn) (.cqTaken q) + 1) % 2 ^ (Fld.cqTaken q).w
      (m.tagBusy fn tag = false → m.calStatus fn p = 0 → Completes (.calReq fn q tag rq p) m fun m' =>
        queued { id := id, fn := fn, cmd := some (q, tag, rq), p := p, seqNo := seq } m' ∧ m'.r (.q fn) (.cqTaken q) = seq ∧
        RegsKept m m' (fun b f => b = .q fn ∧ f = .cqTaken q) ∧
        m' = { m with regs := m'.regs, cals := m'.cals, cur := m'.cur, fns := m'.fns }) ∧
      (m.tagBusy fn tag = true → m.r (.q fn) (.rqEn rq) ≠ 0 → Completes (.calReq fn q tag rq p) m fun m' =>
        (m'.fn fn).status = 9 ∧ m'.cals = m.cals ∧
        (m'.cq fn q).blocked = (m.cq fn q).blocked ++ [(rq, completionPacket 0x10 q tag 9 0 seq m.pace [])] ∧
        RegsKept m m' (fun b f => b = .q fn ∧ f = .cqTaken q) ∧
        m' = { m with regs := m'.regs, cqs := m'.cqs, fns := m'.fns }) ∧
      (∀ c : CalRun, m.cals = [c] → (∀ t, (m.tile t).turn = none) → c.fn = fn → c.cmd = some (q, tag, rq) →
        c.silent = false → m.r (.q fn) (.rqEn rq) ≠ 0 →
        (c.ended = false → Completes (.calAbort fn tag) m fun m' =>
          aborts c m' ∧ (m'.fn fn).status = 0 ∧ ∃ x, m'.cals = [x] ∧ (m'.cq fn q).blocked =
            (m.cq fn q).blocked ++ [(rq, completionPacket 0x10 q tag 24 0 c.seqNo m.pace (c.id :: x.counts))]) ∧
        (c.ended = true → Completes (.calAbort fn tag) m fun m' => (m'.fn fn).status = 11 ∧ m'.cals = m.cals ∧
          RegsKept m m' (fun b f => b = .cat ∧ f = .catAbortLate) ∧ m' = { m with regs := m'.regs, fns := m'.fns })) ∧
      (m.cals = [] → Completes (.calAbort fn tag) m fun m' => (m'.fn fn).status = 6 ∧ m' = { m with fns := m'.fns }))

/-- Commits: INVALIDATE of one lane's set clears its VALID bit and no other entry, and refuses the lane's last valid set (R318);
CAT_COMMIT of a run whose lanes all have their outcome writes the values kept, with the next generation (R312, R329). Either way
the inactive bank takes the new working copy. -/
def Obligations.CatalogueCommits : Prop :=
  ∀ m : State,
    let newBank (m' : State) : Prop :=
      (if m.nv.activeIsB then m'.nv.bankA else m'.nv.bankB) = m'.catalogue ∧ m'.catalogue.gen = (m.catalogue.gen + 1) % 2 ^ 64 ∧
      m'.catalogue.ok = true ∧ (if m.nv.activeIsB then m'.nv.bankB = m.nv.bankB else m'.nv.bankA = m.nv.bankA)
    (∀ fn set t s : Nat, m.hostAt fn .cur = true → set < 8 → t < 16 → s < 10 → m.tileOn t = true → m.setBusy set = false →
      (m.validSets t s ≠ [set] → (m.setEntry t s set).valid = true → Completes (.invalidate fn 0 set t s) m fun m' =>
        newBank m' ∧ (m'.setEntry t s set).valid = false ∧ (m'.setEntry t s set).data = (m.setEntry t s set).data ∧
        (∀ k, k ≠ setKey t s set → tabGet {} m'.catalogue.entries k = tabGet {} m.catalogue.entries k) ∧
        m'.catalogue.parts = m.catalogue.parts ∧ m'.catalogue.marks = m.catalogue.marks ∧ (m'.fn fn).status = 0 ∧ RegsKept m m' (fun b f => b = .cat ∧ f ∈ [.catBank, .catGenLow]) ∧
        m' = { m with regs := m'.regs, catalogue := m'.catalogue, nv := m'.nv, cur := m'.cur, fns := m'.fns }) ∧
      (m.validSets t s = [set] → Completes (.invalidate fn 0 set t s) m fun m' =>
        (m'.fn fn).status = 9 ∧ m' = { m with cur := m'.cur, fns := m'.fns })) ∧
    (∀ (c : CalRun) (l : List CalRun) (k : Nat) (v : KeptCal),
      m.cals = c :: l → c.ended = false → c.complete = true → c.cmd = none → c.kept = [(k, v)] →
      Completes (.catCommit c.id) m fun m' =>
        newBank m' ∧ m'.setEntry (k / 10) (k % 10) v.set =
          { valid := true, tSet := v.tSet, gen := m'.catalogue.gen, data := v.data, q := v.q } ∧
        tabGet [] m'.catalogue.marks k = (if v.marks = [] then tabGet [] m.catalogue.marks k else v.marks) ∧
        m'.catalogue.parts = m.catalogue.parts ∧
        (∀ j, j ≠ setKey (k / 10) (k % 10) v.set → tabGet {} m'.catalogue.entries j = tabGet {} m.catalogue.entries j) ∧
        (∃ x r, m'.cals = x :: r ∧ x.id = c.id ∧ x.ended = true ∧ x.outcomes = c.outcomes) ∧ m'.r .cat .catRunDone = 1 ∧
        RegsKept m m' (fun b f => b = .cat ∧ f ∈ [.catBank, .catGenLow, .catRunDone]) ∧
        m' = { m with regs := m'.regs, catalogue := m'.catalogue, nv := m'.nv, cals := m'.cals, flight := m'.flight,
                      msix := m'.msix })

/-- A lane's turn: in place the lane is locked for the Curator (R322, R323); a lane whose state allows none waits with
CAL_PENDING, and a wait whose limit is over ends with outcome 7 (R322); the end of a lane's measurement gives it the outcome
that the judgement finds and frees the lane, and with COMMITTED its values are kept for the commit (R326, R327, R328), while a
REFV that fails its check gives NO_REFV to every lane of the tile that would have COMMITTED (R309). -/
def Obligations.CalibrationTurns : Prop :=
  ∀ (t : Nat) (m : State), t < 16 →
    let frame (s : Nat) (m' : State) : Prop :=
      LanesKept m m' [t * 10 + s] ∧ (∀ u, u ≠ t → m'.tile u = m.tile u) ∧
      m' = { m with regs := m'.regs, lanes := m'.lanes, locks := m'.locks, tiles := m'.tiles, cals := m'.cals }
    (∀ (c : CalRun) (s set : Nat) (l : List (CalRun × Nat)), (m.tile t).turn = none → m.calWants t = (c, s) :: l →
      m.tileOn t = true → (m.tile t).goingDown = false → c.wantsRef t = false → s < 9 →
      (m.calNext t s c.p.handover = .go .inPlace → m.calSetFor t s c.p.set = some set → m.serves t s = false →
        Completes (.calLaneTurn t) m fun m' =>
          (m'.tile t).turn = some { run := c.id, slot := s, path := .inPlace, temp := (m.tile t).temp, set := set,
                                    tSum := (m.tile t).temp, tN := 1 } ∧
          (m'.lane t s).owner = some .curator ∧ RegsKept m m' (fun p f => p = .lane t s ∧ f = .laneCalPending) ∧ frame s m') ∧
      (m.calNext t s c.p.handover = .wait → l = [] → Completes (.calLaneTurn t) m fun m' =>
        m'.r (.lane t s) .laneCalPending = 1 ∧ (m'.tile t).turn = none ∧
        ((m.lane t s).owner.isSome = true → ∃ q ∈ m'.locks, q.who = .curator ∧ q.tile = t ∧ q.slots = [s]) ∧
        RegsKept m m' (fun p f => p = .lane t s ∧ f = .laneCalPending) ∧ LanesKept m m' [] ∧ frame s m')) ∧
    (∀ (s since : Nat) (c : CalRun), m.cals = [c] → (m.tile t).calWait = [(c.id, s, since)] → c.p.waitMs ≠ 0 →
      (∀ e ∈ c.outcomes, e.1 ≠ t * 10 + s) → Completes (.pendingTimeout t s) m fun m' =>
        m'.pace = max m.pace (since + c.p.waitMs * 800000) ∧ m'.cals = [{ c with outcomes := tabSet c.outcomes (t * 10 + s) 7 }] ∧
        (m'.tile t).calWait = [] ∧ m'.r (.lane t s) .laneCalPending = 0 ∧
        RegsKept m m' (fun p f => p = .lane t s ∧ f = .laneCalPending) ∧
        m' = { m with pace := m'.pace, regs := m'.regs, locks := m'.locks, tiles := m'.tiles, cals := m'.cals, nv := m'.nv }) ∧
    (∀ (x : CalMeas) (c : CalTurn) (run : CalRun), (m.tile t).turn = some c → m.cals = [run] → run.id = c.run →
      c.path = .inPlace → c.slot < 9 → (m.lane t c.slot).dcPend = none → (∀ e ∈ run.outcomes, e.1 ≠ t * 10 + c.slot) →
      m.serves t c.slot = false → m.underXfer t c.slot = false → (m.calJudge t c run x).1 ≠ 4 →
      let failed := calKind run.p 1 && !refvNear x.refvUv run.refv
      let before := if failed then run.outcomes.map (fun e => (e.1, if e.1 / 10 = t ∧ e.2 = 0 then 5 else e.2)) else run.outcomes
      Completes (.calLaneEnd t x) m fun m' =>
        (∃ r, m'.cals = [r] ∧ r.id = run.id ∧ r.outcomes = tabSet before (t * 10 + c.slot) (m.calJudge t c run x).1 ∧
          (10 < ((m.tile t).temp - c.temp).natAbs → (m.calJudge t c run x).1 = 0 → False) ∧
          ((m.calJudge t c run x).1 = 0 → calKind run.p 0 = true → ∃ v, (t * 10 + c.slot, v) ∈ r.kept ∧ v.set = c.set)) ∧
        (m'.tile t).turn = none ∧ (m'.lane t c.slot).owner ≠ some .curator ∧ m'.catalogue = m.catalogue ∧
        (∀ u, m'.subst u =
          if u = t ∧ (m.calJudge t c run x).1 ∈ [0, 1, 2, 3] then (m.subst t).mark c.slot (decide ((m.calJudge t c run x).1 ≠ 0)) else m.subst u) ∧
        LanesKept m m' [t * 10 + c.slot] ∧
        RegsKept m m' (fun p f => (p = .tile t ∧ f = .tileCalFail) ∨ (p = .lane t c.slot ∧ f = .laneCalDisagree)) ∧
        m' = { m with regs := m'.regs, lanes := m'.lanes, tiles := m'.tiles, substs := m'.substs, cals := m'.cals, nv := m'.nv,
                      msix := m'.msix })

/-- The corrections of an element with one valid set are that set's, for the next latch tick, and EXTRAPOLATED of its page tells
a temperature more than 0.5 °C away from it (R317, R333); automatic recalibration runs at its hour, at a drift, at a retry, or
not while it is off (R330); a good measurement is swapped in on the next multiple of 16,000, with the line selection and the
reference changed over and committed to the tile part, one whose passes differ is repeated 100 ms later, at most three times;
without REFV the reference stays (R331). That delay-line passes agree within 8 ps, the set that a swap goes to, and that the
reference then keeps what the set held are log entry 46's. -/
def Obligations.InterpolationAndAutoRecalibration : Prop :=
  ∀ (t : Nat) (m : State), m.tileOn t = true →
    let d := m.tile t
    let others (m' : State) : Prop := ∀ u, u ≠ t → m'.tile u = m.tile u
    (∀ s k : Nat, s < 10 → m.validSets t s = [k] → d.temps = [] →
      Completes (.interpolation t s) m fun m' =>
        let e := m.setEntry t s k
        let g := m.pageOf t s
        m'.pace = max m.pace (m.interpDue t s) ∧ (m'.lane t s).interpAt = some (m.interpDue t s) ∧
        (m'.lane t s).corrNext = some { data := e.data, den := 1, set := k } ∧ (m'.lane t s).corr = (m.lane t s).corr ∧
        m'.r (.lane t g) .laneExtrapolated = bit (decide (d.temp + 5 < e.tSet) || decide (e.tSet + 5 < d.temp)) ∧
        RegsKept m m' (fun p f => (p = .lane t g ∧ f ∈ [.laneExtrapolated, .laneExtrapEvt]) ∨ (p = .tile t ∧ f = .tileExtrapolated)) ∧
        LanesKept m m' [t * 10 + s] ∧ m' = { m with pace := m'.pace, regs := m'.regs, lanes := m'.lanes, msix := m'.msix }) ∧
    (d.autoRun = false →
      (d.autoRetryAt ≠ 0 → Completes (.autoRecal t) m fun m' =>
        m'.pace = max m.pace d.autoRetryAt ∧ m'.tile t = { d with autoRun := true, autoRetryAt := 0 } ∧ others m' ∧
        m' = { m with pace := m'.pace, tiles := m'.tiles }) ∧
      (d.autoRetryAt = 0 → m.r .cat .catAutoEn = 1 → m.autoDrift t = false → Completes (.autoRecal t) m fun m' =>
        m'.pace = max m.pace (d.autoLast + 3600 * 800000000) ∧ m'.tile t = { d with autoRun := true, autoRefv := m.r .cat .catRefv } ∧ others m' ∧
        m' = { m with pace := m'.pace, tiles := m'.tiles }) ∧
      (d.autoRetryAt = 0 → m.r .cat .catAutoEn = 1 → m.autoDrift t = true → Completes (.autoRecal t) m fun m' =>
        m'.tile t = { d with autoRun := true, autoRefv := m.r .cat .catRefv } ∧ others m' ∧ m' = { m with tiles := m'.tiles }) ∧
      (d.autoRetryAt = 0 → m.r .cat .catAutoEn ≠ 1 → exec (.autoRecal t) m = .next m)) ∧
    (∀ (refv : Nat) (ref1 ref2 : Int) (l1 l2 : List Nat), d.autoRun = true → d.autoSwapAt = none → d.svcUp = false →
      let a := lineErrs 1048576 l1
      let b := lineErrs 1048576 l2
      let good := refvNear refv d.autoRefv
      (apart a b ≤ 800 → (good = false ∨ (ref1 - ref2).natAbs ≤ 200) →
        Completes (.autoRecalEnd t refv ref1 ref2 (l1, l2)) m fun m' =>
          m'.tile t = { d with autoSwapAt := some (nextMul 16000 m.pace), autoRef := if good then some (passMean ref1 ref2) else none,
                               autoRefRes := (ref1 - ref2).natAbs, autoLine := zipPad passMean a b, autoLineRes := apart a b } ∧
          m'.r .cat .catRefvMissing = bit !good ∧ RegsKept m m' (fun p f => p = .cat ∧ f = .catRefvMissing) ∧ others m' ∧
          m' = { m with regs := m'.regs, tiles := m'.tiles }) ∧
      (800 < apart a b ∨ (good = true ∧ 200 < (ref1 - ref2).natAbs) → Completes (.autoRecalEnd t refv ref1 ref2 (l1, l2)) m fun m' =>
        m'.tile t = (if d.autoRetry < 3 then { d with autoRun := false, autoRetry := d.autoRetry + 1, autoRetryAt := m.pace + 80000000 }
                     else { d with autoRun := false, autoRetry := 0 }) ∧
        m'.r (.tile t) .tileAutoDisagree = 1 ∧ (d.autoRetry < 3 → m'.cals = m.cals) ∧
        RegsKept m m' (fun p f => (p = .cat ∧ f = .catRefvMissing) ∨ (p = .tile t ∧ f ∈ [.tileAutoDisagree, .tileCalDisagree])) ∧
        others m' ∧ m' = { m with regs := m'.regs, tiles := m'.tiles, cals := m'.cals, msix := m'.msix })) ∧
    (∀ e : Nat, d.autoSwapAt = some e → d.autoRef = none → d.svcUp = false → m.cals = [] →
      Completes (.autoSwap t) m fun m' =>
        let old := tabGet {} m.catalogue.parts (partKey t (m.partSet t))
        m'.pace = max m.pace e ∧ (m'.tile t).lineA = !d.lineA ∧ (m'.tile t).refA = d.refA ∧ (m'.tile t).refCal = d.refCal ∧
        (m'.tile t).lineCal = (if d.lineA then (d.lineCal.1, d.autoLine) else (d.autoLine, d.lineCal.2)) ∧
        (tabGet {} m'.catalogue.parts (partKey t (m.partSet t))).ref = old.ref ∧
        (tabGet {} m'.catalogue.parts (partKey t (m.partSet t))).line = d.autoLine ∧ others m' ∧
        RegsKept m m' (fun p f => (p = .tile t ∧ f = .tileAutoT) ∨ (p = .cat ∧ f ∈ [.catBank, .catGenLow])) ∧
        m' = { m with pace := m'.pace, regs := m'.regs, tiles := m'.tiles, catalogue := m'.catalogue, nv := m'.nv }) ∧
    (∀ (e : Nat) (ref : Int), d.autoSwapAt = some e → d.autoRef = some ref → d.svcUp = false → m.cals = [] →
      Completes (.autoSwap t) m fun m' =>
        m'.pace = max m.pace e ∧ (m'.tile t).lineA = !d.lineA ∧ (m'.tile t).refA = !d.refA ∧ (m'.tile t).autoLast = e ∧
        (m'.tile t).autoTemp = d.temp ∧ (m'.tile t).autoRun = false ∧ (m'.tile t).autoSwapAt = none ∧
        (m'.tile t).refCal = (if d.refA then (d.refCal.1, ref) else (ref, d.refCal.2)) ∧
        (m'.tile t).lineCal = (if d.lineA then (d.lineCal.1, d.autoLine) else (d.autoLine, d.lineCal.2)) ∧
        m'.catalogue.gen = (m.catalogue.gen + 1) % 2 ^ 64 ∧
        tabGet {} m'.catalogue.parts (partKey t (m.partSet t)) =
          { valid := true, tSet := d.temp, gen := m'.catalogue.gen, ref := ref, line := d.autoLine, refRes := d.autoRefRes,
            lineRes := d.autoLineRes } ∧
        (∀ k, k ≠ partKey t (m.partSet t) → tabGet {} m'.catalogue.parts k = tabGet {} m.catalogue.parts k) ∧
        m'.catalogue.entries = m.catalogue.entries ∧ others m' ∧
        RegsKept m m' (fun p f => (p = .tile t ∧ f = .tileAutoT) ∨ (p = .cat ∧ f ∈ [.catBank, .catGenLow])) ∧
        m' = { m with pace := m'.pace, regs := m'.regs, tiles := m'.tiles, catalogue := m'.catalogue, nv := m'.nv })

/-! Service continuity (R332 to R352). -/

/-- A service request takes the next ticket and is queued, and its DATA0 reads all ones until its outcome; one that can end at
once does; a refused one changes nothing but the answer; UNRETIRE clears the record of the retired slot, at its acceptance (log
entry 24), and RETIRE makes it (R343, R345, R347; the order of the refusals: log entry 13). ABORT ends a queued request with
status 2, and is refused with 16 where no such request is; a request whose WAIT_MS passes, in the queue or while its hand-back
waits, ends with status 1 (R336, R345; that WAIT_MS bounds the hand-back's wait after a TEST: log entry 24). -/
def Obligations.ServiceRequestsAndAborts : Prop :=
  (∀ (op : Nat) (cmd : Nat → Nat → Nat → Nat → Nat → Instr) (fn t s w d : Nat) (m : State),
    (op, cmd) ∈ [(1, Instr.handOut), (2, Instr.handBack), (3, Instr.test), (4, Instr.retire), (5, Instr.unretire)] →
    m.hostAt fn .cur = true →
    let k := m.cur.nextTicket
    let r : SvcReq := { ticket := k, op := op, slot := s, waitMs := w, doneEv := d, since := m.pace }
    (m.svcPath op t s w d = .queued → Completes (cmd fn t s w d) m fun m' =>
      (m'.subst t).queue = (m.subst t).queue ++ [r] ∧ m'.subst t = { m.subst t with queue := (m'.subst t).queue } ∧
      (∀ u, u ≠ t → m'.subst u = m.subst u) ∧ m'.r (.tile t) .tileSubstQdepth = (m.subst t).queue.length + 1 ∧
      tabGet 0 m'.cur.svcOut k = 0xFFFFFFFF ∧ m'.cur.nextTicket = (k + 1) % 65536 ∧ m'.cur.svcId = k ∧
      m'.cur.svcSt = 0xFFFFFFFF ∧ (m'.fn fn).status = 0 ∧ (m'.fn fn).result = k ∧ (op = 5 → m'.retired t = 15) ∧
      RegsKept m m' (fun p f => p = .tile t ∧ (f = .tileSubstQdepth ∨ (op = 5 ∧ f = .tileSubstRetired))) ∧
      m' = { m with regs := m'.regs, substs := m'.substs, nv := { m.nv with retired := m'.nv.retired }, cur := m'.cur,
                    fns := m'.fns } ∧ (op ≠ 5 → m'.nv = m.nv)) ∧
    (m.svcPath op t s w d = .atOnce → k < 65536 → m.nv.retired.length = 16 → Completes (cmd fn t s w d) m fun m' =>
      tabGet 0 m'.cur.svcOut k = 0 ∧ m'.cur.svcSt = 0 ∧ (m'.fn fn).status = 0 ∧ (m'.fn fn).result = k ∧
      (op = 4 → m'.retired t = s) ∧ (op = 5 → m'.retired t = 15) ∧ (∀ u, u ≠ t → m'.retired u = m.retired u) ∧
      RegsKept m m' (fun p f => p = .tile t ∧ f = .tileSubstRetired) ∧
      m' = { m with regs := m'.regs, flight := m'.flight, nv := { m.nv with retired := m'.nv.retired }, cur := m'.cur,
                    fns := m'.fns }) ∧
    (∀ c, m.svcPath op t s w d = .refused c → Completes (cmd fn t s w d) m fun m' =>
      (m'.fn fn).status = c ∧ m'.cur.svcSt = c ∧ m' = { m with cur := { m.cur with svcSt := c, svcId := 65536 }, fns := m'.fns })) ∧
  (∀ (fn : Nat) (r : SvcReq) (t : Nat) (m : State), m.hostAt fn .cur = true → t < 16 → (m.subst t).queue = [r] → r.ticket < 65536 →
    (∀ u, u ≠ t → (m.subst u).queue = [] ∧ (m.subst u).active = none ∧ (m.subst u).xfer = none) →
    Completes (.svcAbort fn r.ticket) m fun m' =>
      (m'.subst t).queue = [] ∧ tabGet 0 m'.cur.svcOut r.ticket = 2 ∧ m'.r (.tile t) .tileSubstQdepth = 0 ∧
      (m'.fn fn).status = 0 ∧ RegsKept m m' (fun p f => p = .tile t ∧ f = .tileSubstQdepth) ∧
      m' = { m with regs := m'.regs, substs := m'.substs, flight := m'.flight, cur := m'.cur, fns := m'.fns }) ∧
  (∀ (fn k : Nat) (m : State), m.hostAt fn .cur = true → m.substs = [] → Completes (.svcAbort fn k) m fun m' =>
    (m'.fn fn).status = 16 ∧ m' = { m with cur := { m.cur with svcSt := 16, svcId := 65536 }, fns := m'.fns }) ∧
  (∀ (t : Nat) (r : SvcReq) (m : State), (m.subst t).active = some r → (m.subst t).testing = false → (m.subst t).xfer = none →
    (m.subst t).queue = [] → r.slot ≠ 9 → r.waitMs ≠ 0 → r.ticket < 65536 → Completes (.svcWaitTimeout t) m fun m' =>
      m'.pace = max m.pace (r.since + r.waitMs * 800000) ∧ (m'.subst t).active = none ∧ ReqEnds m m' r 1 ∧
      RegsKept m m' (fun p f => p = .tile t ∧ f = .tileSubstQdepth) ∧
      m' = { m with pace := m'.pace, regs := m'.regs, substs := m'.substs, flight := m'.flight, cur := m'.cur }) ∧
  (∀ (t : Nat) (r : SvcReq) (m : State), (m.subst t).queue = [r] → (m.subst t).active = none → r.waitMs ≠ 0 → r.ticket < 65536 →
    Completes (.svcWaitTimeout t) m fun m' =>
      m'.pace = max m.pace (r.since + r.waitMs * 800000) ∧ (m'.subst t).queue = [] ∧ m'.r (.tile t) .tileSubstQdepth = 0 ∧
      ReqEnds m m' r 1 ∧ RegsKept m m' (fun p f => p = .tile t ∧ f = .tileSubstQdepth) ∧
      m' = { m with pace := m'.pace, regs := m'.regs, substs := m'.substs, flight := m'.flight, cur := m'.cur })

/-- The head request's transfer starts where R336 and the governor admit it: a lane that carries no signal is served at once,
another from its next latch tick H0 on, the lock of a lane that nobody holds being the Curator's until the end (log entry 24),
and at H0 the lane's setting is copied to the substitute, which on an FI lane forces the code nearest to the voltage of the
match tap until FORCE closes (R336, R337, R338; the code and the lane's last sample as the tap: log entry 24). From H0 on, the
step of each tick of R338 takes its place: the match within 2 mV or the abort, FORCE closed at share 0, 64 share steps of 250
ticks, the exchange of the loop, completion with each element's own corrections beneath its level (R333), the old element's
SENSE open. An abort before completion enters LEAVE for 800 ticks, its REASON in free codes (log entry 24); a late one is
counted (R33, R338, R341). -/
def Obligations.TransferStepsInTime : Prop :=
  (∀ (t : Nat) (r : SvcReq) (m : State), m.sound = true → m.tileOn t = true → (m.tile t).goingDown = false →
    (m.tile t).turn = none → (m.subst t).queue = [r] → r.op = 1 → r.slot < 9 → r.ticket < 65536 → m.substReady t = true →
    m.xferBar t r.slot false = none →
    governor (m.svcLeave t r) ((m.svcLeave t r).xferBegin t r.slot false (some r) false) t r.slot = none →
    let s := r.slot
    (m.sw t s ≠ .disconnected → Completes (.transferStart t) m fun m' =>
      let x : Xfer := { slot := s, back := false, h0 := m.nextLatch t s, mv := m.sw t s == .measureOnly, req := some r,
                        locks := (m.lane t s).owner.isNone }
      m'.subst t = { m.subst t with queue := [], xfer := some x } ∧
      m'.r (.tile t) .tileSubstState = 1 ∧ m'.r (.tile t) .tileSubstSlot = s ∧ m'.r (.lane t s) .laneHoPhase = 1 ∧
      (m'.lane t s).owner = some ((m.lane t s).owner.getD .curator) ∧ LanesKept m m' [t * 10 + s] ∧
      RegsKept m m' (fun p f => (p = .lane t s ∧ f = .laneHoPhase) ∨
        (p = .tile t ∧ f ∈ [.tileSubstState, .tileSubstSlot, .tileSubstQdepth])) ∧
      m' = { m with regs := m'.regs, substs := m'.substs, lanes := m'.lanes }) ∧
    (m.sw t s = .disconnected → Completes (.transferStart t) m fun m' =>
      m'.r (.tile t) .tileSubstState = 3 ∧ m'.r (.tile t) .tileSubstSlot = s ∧ m'.r (.lane t s) .laneServedBy = 1 ∧
      m'.subst t = { m.subst t with queue := [] } ∧ ReqEnds m m' r 0 ∧
      RegsKept m m' (fun p f => (p = .lane t s ∧ f = .laneServedBy) ∨
        (p = .tile t ∧ f ∈ [.tileSubstState, .tileSubstSlot, .tileSubstQdepth])) ∧
      m' = { m with regs := m'.regs, substs := m'.substs, flight := m'.flight, cur := m'.cur })) ∧
  (∀ (t : Nat) (x : Xfer) (m : State), (m.subst t).xfer = some x →
    let kept (m' : State) : Prop := ∀ u, u ≠ t → m'.subst u = m.subst u
    let only (ks : List Nat) (m' : State) : Prop :=
      RegsKept m m' (fun p f => (p = .lane t x.slot ∧ f ∈ [.laneHoPhase, .laneServedBy]) ∨ (p = .tile t ∧ f = .tileSubstState)) ∧
      kept m' ∧ LanesKept m m' (laneKeys t ks) ∧
      m' = { m with pace := m'.pace, regs := m'.regs, lanes := m'.lanes, substs := m'.substs }
    let aborted (m' : State) (reason e : Nat) : Prop :=
      (m'.subst t).xfer = some { x with stage := 9, req := none } ∧ (m'.subst t).leaveAt = e + 800 ∧
      (m'.subst t).forceTo = some (e + 400) ∧
      (m'.subst t).logOutcome = 2 ∧ (m'.subst t).logReason = Config.hoReason reason % 16 ∧
      m'.r (.tile t) .tileSubstState = 4 ∧ m'.r (.lane t x.slot) .laneHoPhase = 3 ∧
      m'.r (.tile t) .tileHoAbortCnt = (m.r (.tile t) .tileHoAbortCnt + 1) % 2 ^ 32 ∧
      RegsKept m m' (fun p f => (p = .lane t x.slot ∧ f = .laneHoPhase) ∨
        (p = .tile t ∧ f ∈ [.tileSubstState, .tileHoAbortCnt])) ∧ kept m' ∧
      m' = { m with pace := m'.pace, regs := m'.regs, substs := m'.substs, flight := m'.flight, cur := m'.cur }
    (x.started = false → x.stage = 0 → Completes (.transferStart t) m fun m' =>
      m'.pace = max m.pace x.h0 ∧ m'.subst t = { m.subst t with xfer := some { x with started := true } } ∧ kept m' ∧
      (∀ f ∈ copyFields, m'.r (.lane t 9) f = m.l (.lane t x.slot) f % 2 ^ f.w) ∧
      (m'.lane t 9).dacLevel = (m.lane t x.slot).dacLevel ∧
      (m'.lane t 9).dacOut = (if x.slot < 9 ∧ m'.gov t x.slot .laneForceMode = 2 then
        satS 20 (nearest ((m.lane t x.slot).outUv * 524288) (m'.vFs t (m'.gov t x.slot .laneForceVrange)))
        else (m.lane t x.slot).dacOut) ∧
      RegsKept m m' (fun p f =>
        p = .lane t 9 ∧ (f ∈ copyFields ∨ ∃ g ∈ copyFields, (Page.lane t 9).origin g.off = some f)) ∧
      LatKept m m' (fun p f => p = .lane t 9 ∧ f ∈ copyFields) ∧ LanesKept m m' [t * 10 + 9] ∧
      m' = { m with pace := m'.pace, regs := m'.regs, lat := m'.lat, substs := m'.substs, lanes := m'.lanes }) ∧
    (∀ uv : Int, x.started = true → x.stage = 0 → (x.mv = true ∨ uv.natAbs ≤ 2000) → Completes (.transferMatch t uv) m fun m' =>
      m'.pace = max m.pace (x.h0 + 8000) ∧
      m'.subst t = { m.subst t with xfer := some { x with stage := 1 }, otherSense := true } ∧ m'.regs = m.regs ∧
      only [] m') ∧
    (∀ (uv : Int) (r : SvcReq), x.started = true → x.stage = 0 → x.mv = false → 2000 < uv.natAbs → x.forCal = false → x.req = some r →
      r.ticket < 65536 → Completes (.transferMatch t uv) m fun m' =>
      m'.pace = max m.pace (x.h0 + 8000) ∧ ReqEnds m m' r 3 ∧ aborted m' 2 (x.h0 + 8000)) ∧
    (x.started = true → x.stage = 1 → x.mv = false → Completes (.share t) m fun m' =>
      m'.pace = max m.pace (x.h0 + 8400) ∧ m'.r (.tile t) .tileSubstState = 2 ∧ m'.r (.lane t x.slot) .laneHoPhase = 2 ∧
      m'.subst t = { m.subst t with xfer := some { x with stage := 2 }, otherForce := true } ∧
      (m'.lane t 9).dacOut = (m.lane t x.slot).dacOut ∧ only [9] m') ∧
    (x.started = true → x.stage = 2 → x.shares < 64 → Completes (.shareStep t) m fun m' =>
      m'.pace = max m.pace (x.h0 + 8400 + 250 * (x.shares + 1)) ∧ m'.regs = m.regs ∧
      m'.subst t = { m.subst t with xfer := some { x with shares := x.shares + 1 } } ∧ only [] m') ∧
    (x.started = true → x.stage = 2 → x.shares = 64 → Completes (.transferSwap t) m fun m' =>
      m'.pace = max m.pace (x.h0 + 24400) ∧ m'.regs = m.regs ∧
      m'.subst t = { m.subst t with xfer := some { x with stage := 3 } } ∧ only [] m') ∧
    (x.started = true → (x.stage = 3 ∨ (x.stage = 1 ∧ x.mv = true)) → Completes (.transferComplete t) m fun m' =>
      m'.pace = max m.pace (x.h0 + (if x.stage = 3 then 24800 else 8400)) ∧
      m'.r (.tile t) .tileSubstState = (if x.back then 0 else 3) ∧ m'.r (.lane t x.slot) .laneServedBy = bit !x.back ∧
      m'.r (.lane t x.slot) .laneHoPhase = 0 ∧
      m'.subst t = { m.subst t with xfer := some { x with stage := 4 }, otherForce := false } ∧
      (∀ k ∈ [x.slot, 9], (m.lane t k).hold = false →
        m'.lane t k = { m.lane t k with conv := m'.driving t k (m.lane t k).dacOut }) ∧ only [x.slot, 9] m') ∧
    (∀ r : SvcReq, x.stage < 4 → (x.started = true → m.pace + 1 < x.h0 + if x.mv then 8400 else 24800) → x.forCal = false → x.req = some r → r.ticket < 65536 → Completes (.transferAbort t) m fun m' =>
      m'.pace = m.pace ∧ ReqEnds m m' r 2 ∧ aborted m' 6 (m.pace + 1)) ∧
    ((4 ≤ x.stage ∨ (x.started = true ∧ x.h0 + (if x.mv then 8400 else 24800) ≤ m.pace + 1)) →
      Completes (.transferAbort t) m fun m' =>
      m'.r (.tile t) .tileHoAbortLate = (m.r (.tile t) .tileHoAbortLate + 1) % 2 ^ 32 ∧
      RegsKept m m' (fun p f => p = .tile t ∧ f = .tileHoAbortLate) ∧ m' = { m with regs := m'.regs }))

/-- The end of a transfer (R338): with the old element's SENSE open a HAND_OUT has its outcome, a TEST begins its front-end
test, and after a HAND_BACK the substitute is free and checks itself (R344, R346); after LEAVE the lane is again as before, the
substitute free or, of a hand-back, serving (R335, R338), and the lock that the Curator took is free (log entry 24). A front-end
test that passes leads to the hand-back, which waits from the test's end (log entry 24), one that fails leaves the lane served
and ends with FAILED (R346); a test of slot 9, in place, ends in FREE, a block lifted or set by its result (R338, R344; log
entry 24). -/
def Obligations.TransfersEnd : Prop :=
  (∀ (t : Nat) (x : Xfer) (m : State), m.calm t = true → (m.subst t).xfer = some x → (m.lane t x.slot).dcPend = none →
    m.r .pwr .pwrOverAllow = 0 → x.forCal = false →
    let freed (m' : State) : Prop := (x.locks = true → (m'.lane t x.slot).owner ≠ some .curator) ∧ (m'.lane t 9).dacOut = 0 ∧
      LanesKept m m' [t * 10 + 9, t * 10 + x.slot]
    (∀ r : SvcReq, x.started = true → x.stage = 4 → x.req = some r → r.ticket < 65536 →
      let e := x.h0 + (if x.mv then 8400 else 25200)
      let ended (m' : State) : Prop :=
        m'.pace = max m.pace e ∧ (m'.subst t).xfer = none ∧ (m'.subst t).logOutcome = 1 ∧ (m'.subst t).logSlot = x.slot ∧
        (m'.subst t).logBack = x.back ∧ (m'.subst t).logEnd = m.stamp e ∧ (m'.subst t).otherSense = false ∧ freed m' ∧
        m'.r (.tile t) .tileHoCnt = (m.r (.tile t) .tileHoCnt + 1) % 2 ^ 32
      (x.back = false → r.op = 1 → Completes (.oldSenseOpen t) m fun m' =>
        ended m' ∧ ReqEnds m m' r 0 ∧ RegsKept m m' (fun p f => p = .tile t ∧ f = .tileHoCnt) ∧
        m' = { m with pace := m'.pace, regs := m'.regs, lanes := m'.lanes, substs := m'.substs, flight := m'.flight,
                      cur := m'.cur }) ∧
      (x.back = false → r.op = 3 → Completes (.oldSenseOpen t) m fun m' =>
        ended m' ∧ (m'.subst t).active = some r ∧ (m'.subst t).testing = true ∧
        RegsKept m m' (fun p f => p = .tile t ∧ f = .tileHoCnt) ∧
        m' = { m with pace := m'.pace, regs := m'.regs, lanes := m'.lanes, substs := m'.substs }) ∧
      (x.back = true → r.op = 2 → Completes (.oldSenseOpen t) m fun m' =>
        ended m' ∧ ReqEnds m m' r 0 ∧ m'.r (.tile t) .tileSubstSlot = 15 ∧ (m'.subst t).checking = true ∧
        (m'.lane t 9).chk = some (0, e) ∧
        RegsKept m m' (fun p f => p = .tile t ∧ f ∈ [.tileHoCnt, .tileSubstSlot]) ∧
        m' = { m with pace := m'.pace, regs := m'.regs, lanes := m'.lanes, substs := m'.substs, flight := m'.flight,
                      cur := m'.cur })) ∧
    (x.stage = 9 → (m.subst t).faults = [] → Completes (.leaveEnd t) m fun m' =>
      m'.pace = max m.pace (m.subst t).leaveAt ∧ (m'.subst t).xfer = none ∧ m'.r (.lane t x.slot) .laneHoPhase = 0 ∧
      (m'.subst t).logEnd = m.stamp (m.subst t).leaveAt ∧ (m'.subst t).otherForce = false ∧ (m'.subst t).otherSense = false ∧
      (if x.back then m'.r (.tile t) .tileSubstState = 3
       else m'.r (.tile t) .tileSubstState = 0 ∧ m'.r (.tile t) .tileSubstSlot = 15 ∧ (m'.subst t).checking = true ∧
         (m'.lane t 9).chk = some (0, (m.subst t).leaveAt)) ∧ freed m' ∧
      RegsKept m m' (fun p f => (p = .lane t x.slot ∧ f = .laneHoPhase) ∨
        (p = .tile t ∧ f ∈ [.tileSubstState, .tileSubstSlot])) ∧
      m' = { m with pace := m'.pace, regs := m'.regs, lanes := m'.lanes, substs := m'.substs })) ∧
  (∀ (t : Nat) (r : SvcReq) (pass : Bool) (m : State), (m.subst t).active = some r → (m.subst t).testing = true → r.slot = 9 →
    r.ticket < 65536 → Completes (.frontEndTestEnd t pass) m fun m' =>
      m'.subst t = { m.subst t with testing := false, active := none, blocked := !pass } ∧
      m'.r (.tile t) .tileSubstState = 0 ∧ ReqEnds m m' r (if pass then 0 else 7) ∧
      RegsKept m m' (fun p f => p = .tile t ∧ f = .tileSubstState) ∧
      m' = { m with regs := m'.regs, substs := m'.substs, flight := m'.flight, cur := m'.cur }) ∧
  (∀ (t : Nat) (r : SvcReq) (m : State), (m.subst t).active = some r → (m.subst t).testing = true → r.slot ≠ 9 →
    Completes (.frontEndTestEnd t true) m (fun m' =>
      m'.subst t = { (m.subst t).mark r.slot false with testing := false, active := some { r with since := m.pace } } ∧ (∀ u, u ≠ t → m'.subst u = m.subst u) ∧
      m' = { m with substs := m'.substs }) ∧
    (r.ticket < 65536 → Completes (.frontEndTestEnd t false) m fun m' =>
      m'.subst t = { (m.subst t).mark r.slot true with testing := false, active := none } ∧ ReqEnds m m' r 7 ∧
      m' = { m with substs := m'.substs, flight := m'.flight, cur := m'.cur }))

/-- TILE_SVC on a tile in which nothing runs (R349, R379, R486): DOWN switches it off and clears what it holds, its lands
connected to nothing (R392); RESET clears it and starts it at once, UP starts one that is off: the microcode version, then the
automatic recalibration where it is enabled, and the self-check of every lane's monitors after it, no host access until both
have ended. In none of them does another tile change. Refused, in the order of log entry 13: an index beyond 15, a request
under way, a tile in the wrong state, and an UP that the governor does not admit (R378). A TSHUT of the tile in progress
absorbs a DOWN or a RESET (R387; log entry 13). DOM_SVC (R380, R382): ARCH_DOWN ends the Archive's contents, ARCH_UP brings it
back with every page reading as zeros, and either is refused where the Archive stands so already, the latter also at or above
85 °C and where the governor does not admit it (R378; the order of the refusals: log entry 13). -/
def Obligations.TileAndArchiveDomains : Prop :=
  (
  ∀ (fn t : Nat) (m : State), m.hostAt fn .cur = true → m.cur.rst = none →
    let others (m' : State) : Prop :=
      (∀ u, u ≠ t → m'.tileOn u = m.tileOn u ∧ m'.tile u = m.tile u ∧ m'.subst u = m.subst u ∧ m'.seq u = m.seq u ∧
        m'.acq u = m.acq u ∧ ∀ s, s < 10 → m'.lane u s = m.lane u s) ∧
      RegsKept m m' (fun p f => p.tileOf = some t ∨ (p, f) ∈ domFields) ∧ (m'.fn fn).status = 0 ∧
      m' = { m with regs := m'.regs, lat := m'.lat, lanes := m'.lanes, seqs := m'.seqs, acqs := m'.acqs, substs := m'.substs,
                    tscap := m'.tscap, engOps := m'.engOps, segTab := m'.segTab, locks := m'.locks, flight := m'.flight,
                    tiles := m'.tiles, msix := m'.msix, fns := m'.fns, cur := m'.cur }
    let started (m' : State) : Prop :=
      m'.tileOn t = true ∧ m'.r (.tile t) .tileUcodeVer = m.nv.lastUcode.getD t 0 % 65536 ∧ (m'.tile t).svcUp = true ∧
      (m'.tile t).goingDown = true ∧ m'.cur.tileReq = some t ∧ m'.cur.tileSt = 0xFFFFFFFF ∧
      (m.r .cat .catAutoEn ≠ 1 → ∀ s, s < 10 → (m'.lane t s).chk = some (0, m.pace + 1)) ∧
      (m.r .cat .catAutoEn = 1 → (m'.tile t).chkDue = true) ∧ m'.hostAt fn (.tile t) = false
    let absorbs : Bool := (m.tile t).tshut && (m.tile t).goingDown && !(m.tile t).svcUp
    (t < 16 → m.cur.tileReq = none → m.tileOn t = true → absorbs = true →
      ∀ c ∈ [Instr.tileSvcDown fn t, Instr.tileSvcReset fn t], Completes c m fun m' =>
        (m'.fn fn).status = 0 ∧ m' = { m with fns := m'.fns, cur := { m.cur with tileSt := 0, tileMask := 0 } }) ∧
    (t < 16 → m.cur.tileReq = none → m.tileOn t = false → m.tooHot t = false → m.domAdmit (4 + t) = false →
      Completes (.tileSvcUp fn t) m fun m' =>
        (m'.fn fn).status = 4 ∧ m'.r .pwr .pwrRefuseCnt = (m.r .pwr .pwrRefuseCnt + 1) % 2 ^ (Fld.pwrRefuseCnt).w ∧
        m'.cur.refuse.dom = true ∧ m'.cur.refuse.domain = 4 + t ∧ RegsKept m m' (fun p f => p = .pwr ∧ f = .pwrRefuseCnt) ∧
        m' = { m with regs := m'.regs, fns := m'.fns,
                      cur := { m.cur with refuse := m'.cur.refuse, tileSt := 4, tileMask := 0 } }) ∧
    (t < 16 → m.cur.tileReq = none → m.tileOn t = true → m.tileQuiet t = true → absorbs = false →
      Completes (.tileSvcDown fn t) m (fun m' =>
        m'.tileOn t = false ∧ m'.cur.tileReq = none ∧ m'.cur.tileSt = 0 ∧ m'.cur.tileMask = 0 ∧
        m'.subst t = { failed := (m.subst t).failed, blocked := (m.subst t).blocked } ∧ m'.r (.tile t) .tileSubstState = 6 ∧ m'.seq t = {} ∧
        m'.acq t = {} ∧ (∀ s, s < 10 → m'.lane t s = {} ∧ m'.sw t s = .unpowered) ∧
        (∀ f, f ∈ [.seqState, .seqLanes] → m'.r (.seq t) f = regReset (.seq t) f) ∧
        (∀ s, m'.forceLand t s = .open_ ∧ m'.senseLand t s = false) ∧ m'.bdrvLand t = .highZ ∧ m'.benLand t = false ∧ others m') ∧
      Completes (.tileSvcReset fn t) m fun m' => started m' ∧
        (m.r .cat .catAutoEn = 1 → (m'.tile t).autoRun = true ∧ (m'.tile t).autoRefv = m.r .cat .catRefv ∧
          ∀ s, s < 10 → (m'.lane t s).chk = none) ∧ others m') ∧
    (t < 16 → m.cur.tileReq = none → m.tileOn t = false → m.tooHot t = false → m.domAdmit (4 + t) = true →
      Completes (.tileSvcUp fn t) m fun m' => started m' ∧ others m') ∧
    (∀ c ∈ [Instr.tileSvcDown fn t, Instr.tileSvcReset fn t, Instr.tileSvcUp fn t],
      let no (st : Nat) : Prop := Completes c m fun m' =>
        (m'.fn fn).status = st ∧ m' = { m with fns := m'.fns, cur := { m.cur with tileSt := st, tileMask := 0 } }
      (15 < t → no 13) ∧ (t ≤ 15 → m.cur.tileReq ≠ none → no 10) ∧
      (t ≤ 15 → m.cur.tileReq = none → (m.tileOn t = true ↔ c = Instr.tileSvcUp fn t) → no 5))) ∧
  (
  ∀ (fn : Nat) (m : State), m.hostAt fn .cur = true →
    let no (c : Instr) (st : Nat) : Prop := Completes c m fun m' =>
      (m'.fn fn).status = st ∧ m' = { m with fns := m'.fns, cur := { m.cur with domSt := st } }
    (m.archOn = true → (∀ t, t < 16 → m.seqLive t = false ∧ m.acqLive t = false) → m.dmas = [] →
      Completes (.archDown fn) m fun m' =>
        m'.archOn = false ∧ (∀ a, memGet m'.arc a = 0) ∧ m'.cur.domSt = 0 ∧ (m'.fn fn).status = 0 ∧
        (∀ n, n ≠ 3 → n < 20 → m'.dom n = m.dom n) ∧ RegsKept m m' (fun p f => (p, f) ∈ domFields) ∧
        m' = { m with regs := m'.regs, arc := m'.arc, poison := [], latent := [], msix := m'.msix, fns := m'.fns, cur := m'.cur }) ∧
    (m.archOn = false → sext 16 (m.r .pwr .pwrTempArc) < 850 → m.domAdmit 3 = false → Completes (.archUp fn) m fun m' =>
      (m'.fn fn).status = 4 ∧ m'.r .pwr .pwrRefuseCnt = (m.r .pwr .pwrRefuseCnt + 1) % 2 ^ (Fld.pwrRefuseCnt).w ∧
      m'.cur.refuse.dom = true ∧ m'.cur.refuse.domain = 3 ∧ RegsKept m m' (fun p f => p = .pwr ∧ f = .pwrRefuseCnt) ∧
      m' = { m with regs := m'.regs, fns := m'.fns, cur := { m.cur with refuse := m'.cur.refuse, domSt := 4 } }) ∧
    (m.archOn = false → sext 16 (m.r .pwr .pwrTempArc) < 850 → m.domAdmit 3 = true → Completes (.archUp fn) m fun m' =>
      m'.archOn = true ∧ (∀ a, memGet m'.arc a = 0) ∧ m'.r .pwr .pwrArcHot = 0 ∧
      m'.cur.domSt = 0 ∧ (m'.fn fn).status = 0 ∧ (∀ n, n ≠ 3 → n < 20 → m'.dom n = m.dom n) ∧
      RegsKept m m' (fun p f => (p, f) ∈ domFields) ∧
      m' = { m with regs := m'.regs, arc := m'.arc, written := [], poison := [], latent := [], msix := m'.msix, fns := m'.fns,
                    cur := m'.cur }) ∧
    (m.archOn = false → no (.archDown fn) 5) ∧ (m.archOn = true → no (.archUp fn) 5) ∧
    (m.archOn = false → 850 ≤ sext 16 (m.r .pwr .pwrTempArc) → no (.archUp fn) 11))

/-- Microcode (R350, R351, R485, R486): a window goes into the staging buffer; LAST verifies the image, which is then staged;
APPLY drains the first powered tile of the mask, its idle engines OFFLINE; where all 64 were OFFLINE before DRAIN_MS had
passed the tile runs the staged version, and its engines are IDLE again; DRAIN_MS ends the wait; COMMIT makes the staged image
the one of every power-up. A window of a firmware image goes into its staging buffer; LAST verifies it and marks the slot that
is not running TRIAL, or FAILED where it does not verify (R352, R485; the latter mark is the model's choice, log entry 2). -/
def Obligations.MicrocodeAndFirmware : Prop :=
  (
  (∀ (fn off : Nat) (last ok : Bool) (bs : List Byte) (v : Nat) (m : State), m.hostAt fn .cur = true → m.sound = true →
    (windowOk off bs = true → last = false → Completes (.ucodeStage fn off last bs ok v) m fun m' =>
      memLoad m'.cur.stageBuf off 24 = bs ∧ (∀ a, a < off ∨ off + 24 ≤ a → memGet m'.cur.stageBuf a = memGet m.cur.stageBuf a) ∧
      (m'.fn fn).status = 0 ∧
      m' = { m with fns := m'.fns, cur := { m.cur with stageBuf := m'.cur.stageBuf, ucStageSt := 0 } }) ∧
    (windowOk off bs = true → last = true → ok = true → Completes (.ucodeStage fn off last bs ok v) m fun m' =>
      m'.cur.staged = some (v % 65536) ∧ (m'.fn fn).status = 0 ∧
      m' = { m with fns := m'.fns, cur := { m.cur with stageBuf := [], ucStageSt := 0, staged := m'.cur.staged } }) ∧
    (windowOk off bs = true → last = true → ok = false → Completes (.ucodeStage fn off last bs ok v) m fun m' =>
      (m'.fn fn).status = 14 ∧ m' = { m with fns := m'.fns, cur := { m.cur with stageBuf := [], ucStageSt := 14 } }) ∧
    (windowOk off bs = false → Completes (.ucodeStage fn off last bs ok v) m fun m' =>
      (m'.fn fn).status = 13 ∧ m' = { m with fns := m'.fns, cur := { m.cur with ucStageSt := 13 } })) ∧
  (∀ (fn mask ms t : Nat) (m : State), m.hostAt fn .cur = true → mask < 65536 → 0 < ms → ms < 65536 → m.cur.applyMask = 0 →
    m.cur.staged.isSome = true → mask.testBit t = true → m.tileOn t = true → (m.tile t).goingDown = false →
    (∀ u, u < t → ¬ (mask.testBit u = true ∧ m.tileOn u = true)) →
    Completes (.ucodeApply fn mask ms) m fun m' =>
      m'.tile t = { m.tile t with draining := true, drainEnd := m.pace + ms * 800000,
                                  offAt := if (List.range 64).all (fun k => m'.r (.eng t k) .engState == 3) then some m.pace else none } ∧ (∀ u, u ≠ t → m'.tile u = m.tile u) ∧
      (∀ k, k < 64 → m'.r (.eng t k) .engState = if m.r (.eng t k) .engState = 0 then 3 else m.r (.eng t k) .engState) ∧
      (m'.fn fn).status = 0 ∧ RegsKept m m' (fun p f => f = .engState ∧ ∃ k, k < 64 ∧ p = .eng t k) ∧
      m' = { m with regs := m'.regs, tiles := m'.tiles, fns := m'.fns,
                    cur := { m.cur with applyMask := mask, applyMs := ms, applyOk := 0, applyTo := 0, ucApplySt := 0xFFFFFFFF } }) ∧
  (∀ (t v : Nat) (m : State), t < 16 → (m.tile t).draining = true → m.cur.applyMask = 2 ^ t → m.cur.ucApplySt = 0xFFFFFFFF →
    m.cur.staged = some v → m.nv.lastUcode.length = 16 →
    let left (m' : State) : Prop :=
      m'.tile t = { m.tile t with draining := false, offAt := none } ∧ (∀ u, u ≠ t → m'.tile u = m.tile u) ∧ m'.cur.applyMask = 0 ∧
      (∀ k, k < 64 → m'.r (.eng t k) .engState = if m.r (.eng t k) .engState = 3 then 0 else m.r (.eng t k) .engState)
    (m.drained t = true → Completes (.ucodeLoad t) m fun m' =>
      left m' ∧ m'.r (.tile t) .tileUcodeVer = v % 65536 ∧ m'.nv.lastUcode = m.nv.lastUcode.set t v ∧
      m'.cur.applyOk.testBit t = true ∧ m'.cur.ucApplySt = (if m.cur.applyTo = 0 then 0 else 12) ∧
      RegsKept m m' (fun p f => (p = .tile t ∧ f = .tileUcodeVer) ∨ (f = .engState ∧ ∃ k, k < 64 ∧ p = .eng t k)) ∧
      m' = { m with regs := m'.regs, tiles := m'.tiles, cur := m'.cur, nv := { m.nv with lastUcode := m'.nv.lastUcode } }) ∧
    (m.drained t = false → Completes (.drainTimeout t) m fun m' =>
      m'.pace = max m.pace (m.tile t).drainEnd ∧ left m' ∧ m'.cur.applyTo.testBit t = true ∧ m'.cur.ucApplySt = 12 ∧
      RegsKept m m' (fun p f => f = .engState ∧ ∃ k, k < 64 ∧ p = .eng t k) ∧
      m' = { m with pace := m'.pace, regs := m'.regs, tiles := m'.tiles, cur := m'.cur })) ∧
  (∀ (fn : Nat) (m : State), m.hostAt fn .cur = true →
    (∀ v, m.cur.staged = some v → Completes (.ucodeCommit fn) m fun m' =>
      m'.nv = { m.nv with ucodeFlash := some v, lastUcode := List.replicate 16 v } ∧ (m'.fn fn).status = 0 ∧
      m' = { m with nv := m'.nv, fns := m'.fns, cur := { m.cur with ucCommitSt := 0 } }) ∧
    (m.cur.staged = none → Completes (.ucodeCommit fn) m fun m' =>
      (m'.fn fn).status = 14 ∧ m' = { m with fns := m'.fns, cur := { m.cur with ucCommitSt := 14 } }))) ∧
  (
  ∀ (fn off : Nat) (last ok : Bool) (bs : List Byte) (m : State), m.fwStageAt fn = true → m.sound = true →
    (windowOk off bs = true → last = false → Completes (.fwStage fn off last bs ok) m fun m' =>
      memLoad m'.cur.fwBuf off 24 = bs ∧ (∀ a, a < off ∨ off + 24 ≤ a → memGet m'.cur.fwBuf a = memGet m.cur.fwBuf a) ∧
      (m'.fn fn).status = 0 ∧ m' = { m with fns := m'.fns, cur := { m.cur with fwBuf := m'.cur.fwBuf, fwSt := 0 } }) ∧
    (windowOk off bs = true → last = true → Completes (.fwStage fn off last bs ok) m fun m' =>
      let mark := if ok then 1 else 2
      (if m.nv.fwRun = 0 then m'.nv = { m.nv with fwB := mark, okB := ok }
       else m.nv.fwRun = 1 → m'.nv = { m.nv with fwA := mark, okA := ok }) ∧
      (m'.fn fn).status = (if ok then 0 else 14) ∧
      m' = { m with nv := m'.nv, fns := m'.fns, cur := { m.cur with fwBuf := [], fwSt := (if ok then 0 else 14) } }) ∧
    (windowOk off bs = false → Completes (.fwStage fn off last bs ok) m fun m' =>
      (m'.fn fn).status = 13 ∧ m' = { m with fns := m'.fns, cur := { m.cur with fwSt := 13 } }))

/-! Power and resets (R376 to R400, R405, R406). -/

/-- A reset orders its disconnect and, while a lane is still connected, waits: the host link is down, DEV_READY is 0, every
connected lane is DISCONNECTING (R384). PERST# is a cold reset, DEV_CTRL.WARM, a hot reset and the watchdog are warm ones (R352,
R383, R405); the last counts as a fallback where a TRIAL image runs. -/
def Obligations.ResetsWaitForLanes : Prop :=
  ∀ (m : State) (c : Instr) (cold : Bool) (cause t₀ s₀ : Nat) (st : Straps) (a b : Bool),
    let trial := if m.nv.fwRun = 0 then m.nv.fwA = 1 else m.nv.fwB = 1
    ((c = .perst st a b ∧ cold = true ∧ cause = 1 ∧ m.dom 0 = true) ∨
      (c = .warm 0 ∧ cold = false ∧ cause = 3 ∧ m.hostAt 0 .dev = true) ∨
      (c = .hotReset ∧ cold = false ∧ cause = 6 ∧ m.cur.linkUp = true) ∨
      (c = .watchdog ∧ cold = false ∧ ((trial ∧ cause = 5) ∨ (¬ trial ∧ cause = 4)) ∧ m.dom 1 = true ∧
        m.r .dev .devStatBootFail = 0)) →
    m.cur.pfail = none → m.cur.rst = none → (∀ t, (m.subst t).xfer = none) → s₀ < 10 → m.sw t₀ s₀ = .connected →
    Completes c m fun m' =>
      (∃ r, m'.cur.rst = some r ∧ r.cold = cold ∧ r.cause = cause ∧ (cold = true → r.straps = st ∧ r.fwA = a ∧ r.fwB = b)) ∧
      m'.cur.linkUp = false ∧ m'.r .dev .devStatReady = 0 ∧
      (∀ t s, s < 10 → m.sw t s = .connected → m'.sw t s = .disconnecting ∧ (m'.lane t s).owner = none) ∧
      m'.pace = m.pace ∧ m'.nv = m.nv ∧ m'.arc = m.arc ∧ m'.ctxs = m.ctxs ∧ (∀ t, t < 16 → m'.tileOn t = m.tileOn t)

/-- Where every lane is open the reset takes place at once (R383, R386, R389): LAST_RESET names the cause, every domain comes on
or, with no image that verifies, BOOT_FAIL sets and none beyond LINK does, no context is left. A cold reset counts a boot and
starts the pace at 0; a warm one keeps the pace and REFIN's status. The return of VIN is a cold reset, its cause by the record
that is pending, and so is the restart after a power failure, which shows the record (R376, R400). -/
def Obligations.ResetsTakePlace : Prop :=
  ∀ m : State,
    let up (cause : Nat) (m' : State) : Prop :=
      m'.r .dev .devStatLastReset = cause ∧ m'.nv.lastReset = cause ∧ m'.cur.rst = none ∧ m'.cur.pfail = none ∧ m'.ctxs = [] ∧
      m'.r .pwr .pwrDomStat = (if m'.r .dev .devStatBootFail = 1 then 7 else 2 ^ 20 - 1) ∧ m'.r .dev .devStatReady = 0 ∧
      m'.pfRecs = m.pfRecs ∧ m'.nv.retired = m.nv.retired ∧ m'.hostMem = m.hostMem
    let cold (m' : State) : Prop := m'.pace = 0 ∧ m'.nv.bootCount = m.nv.bootCount + 1
    let warm (m' : State) : Prop :=
      m'.pace = m.pace ∧ m'.nv.bootCount = m.nv.bootCount ∧
      ∀ f, m'.r .pace f = (if 0x100 ≤ f.off then m.r .pace f else regReset .pace f) ∧
        m'.r .site f = (if 0x100 ≤ f.off then m.r .site f else regReset .site f)
    (m.moduleOpen = true → m.cur.pfail = none → m.cur.rst = none →
      (∀ (st : Straps) (a b : Bool), m.dom 0 = true → Completes (.perst st a b) m fun m' =>
        up 1 m' ∧ cold m' ∧ m'.straps = st ∧ m'.cur.linkUp = false ∧ (m'.r .dev .devStatBootFail = 1 ↔ bootImage m.nv a b = none)) ∧
      (m.hostAt 0 .dev = true → Completes (.warm 0) m fun m' => up 3 m' ∧ warm m') ∧
      (m.cur.linkUp = true → Completes .hotReset m fun m' => up 6 m' ∧ warm m') ∧
      (m.dom 1 = true → m.r .dev .devStatBootFail = 0 → (if m.nv.fwRun = 0 then m.nv.fwA else m.nv.fwB) ≠ 1 →
        Completes .watchdog m fun m' => up 4 m' ∧ warm m')) ∧
    (∀ (mv : Nat) (st : Straps) (a b : Bool), 5800 ≤ mv → mv ≤ 44000 → m.r .pwr .pwrDomStat ≤ 1 → m.cur.pfail = none →
      Completes (.vinValid mv st a b) m fun m' =>
        up (if m.nv.hotPending then 7 else if m.nv.pfPending then 2 else 0) m' ∧ cold m' ∧ m'.straps = st ∧ m'.cur.aon = true ∧
        m'.cur.linkUp = !m.cur.perst ∧ m'.r .pwr .pwrVin = mv % 2 ^ (Fld.pwrVin).w ∧
        (m.nv.pfPending = true ∨ m.nv.hotPending = true → m'.r .pwr .pwrPfailNew = 1)) ∧
    (∀ (st : Straps) (a b : Bool), m.cur.pfail.isSome = true → m.cur.pfSaved = true →
      (m.cur.coreHot = false → Completes (.pfailRestart st a b) m fun m' =>
        up 2 m' ∧ cold m' ∧ m'.straps = st ∧ m'.r .pwr .pwrPfailNew = 1) ∧
      (m.cur.coreHot = true → m.dom 0 = true → Completes (.perst st a b) m fun m' =>
        up 7 m' ∧ cold m' ∧ m'.r .pwr .pwrPfailNew = 1))

/-- A power failure is declared on the tick of its detection, whatever domains are on: the record is taken, calibrations and DMA
end without a report, the link is down, PFAIL_OUT# goes low, every connected lane disconnects (R394, R395, R398); with all lanes
open, every domain but AON goes off and SAFE_TICK is taken (R396). The record is committed once, eight are kept (R398); below
4.0 V AON itself goes, PFAIL_OUT# is released, what MRAM, flash and the host hold stays (R377, R396), and of a record that is
not committed by then MRAM keeps one that was cut off (log entry 48). -/
def Obligations.PowerFailureSavesItsRecord : Prop :=
  (∀ (slope : Bool) (trace : List Nat) (m : State), m.cur.aon = true → m.cur.pfail = none → (∀ t, (m.subst t).xfer = none) →
    let taken (r : PfRec) (m' : State) : Prop :=
      m'.cur.pfail = some r ∧ r.cause = (if slope then 2 else 1) ∧ r.decl = m.pace ∧ r.trace = trace ∧
      r.domains = m.r .pwr .pwrDomStat ∧ r.boot = m.nv.bootCount ∧ r.lanes = (List.range 160).map m.pfLane ∧ r.ops = m.pfOps ∧
      m'.cur.pfSaved = false ∧ m'.cur.linkUp = false ∧ m'.cur.rst = none ∧ m'.cals = [] ∧ m'.dmas = [] ∧ m'.pace = m.pace ∧
      m'.pfRecs = m.pfRecs ∧ m'.hostMem = m.hostMem ∧ m'.pfailOut = .low ∧
      (r.flags.testBit 1 = true ↔ ∃ c ∈ m.cals, c.ended = false ∧ c.complete = true)
    (∀ t₀ s₀, s₀ < 10 → m.sw t₀ s₀ = .connected → Completes (.powerFail slope trace) m fun m' =>
      (∃ r, taken r m') ∧ (∀ t s, s < 10 → m.sw t s = .connected → m'.sw t s = .disconnecting ∧ (m'.lane t s).owner = none) ∧
      (∀ t, t < 16 → m'.tileOn t = m.tileOn t)) ∧
    (m.moduleOpen = true → Completes (.powerFail slope trace) m fun m' =>
      (∃ r, taken r m' ∧ r.safe = some m.pace ∧ r.flags.testBit 0 = true) ∧ m'.r .pwr .pwrDomStat = 1 ∧ m'.ctxs = [] ∧
      (∀ a, memGet m'.arc a = 0) ∧ ∀ t s, m'.sw t s = .unpowered)) ∧
  (∀ (r : PfRec) (m : State), m.cur.pfail = some r → m.cur.pfSaved = false → r.safe.isSome = true →
    Completes .pfailRecord m fun m' =>
      m'.pfRecs = (r :: m.pfRecs).take 8 ∧ m'.nv.pfPending = !m.cur.coreHot ∧ m'.nv.hotPending = m.cur.coreHot ∧
      m'.cur.pfSaved = true ∧
      m' = { m with pfRecs := m'.pfRecs, cur := { m.cur with pfSaved := true },
                    nv := { m.nv with pfPending := m'.nv.pfPending, hotPending := m'.nv.hotPending } }) ∧
  (∀ m : State, (m.cur.pfail.isSome = true ∨ m.r .pwr .pwrDomStat ≤ 1) → Completes .aonOff m fun m' =>
    m'.cur.aon = false ∧ m'.nv = m.nv ∧ m'.profile = m.profile ∧ m'.hostMem = m.hostMem ∧
    (m.cur.pfSaved = true ∨ m.cur.pfail = none → m'.pfRecs = m.pfRecs) ∧
    (∀ r, m.cur.pfail = some r → m.cur.pfSaved = false → m'.pfRecs = ({ r with cut := true } :: m.pfRecs).take 8) ∧
    m'.pfailOut = .released ∧ m'.faultLog = m.faultLog ∧ m'.regs = [] ∧ m'.lanes = [] ∧ m'.ctxs = [] ∧ m'.arc = [] ∧ (∀ n, m'.dom n = false))

/-- DEV_READY sets once the boot has ended: the running image is GOOD, the tiles take host writes with no self-check left, and a
tile that failed is off, in TILE_FAIL and in the fault log (R352, R390; the results of the boot's self-checks: log entry 29).
PERST# released lets the link train (R388, R389); a function's power state and Bus Master Enable are written, with the messages
that may go out then, and nothing else (R406, R414; that Bus Master Enable enables MSI-X is log entry 12's). -/
def Obligations.ReadinessAndFunctionState : Prop :=
  (∀ m : State, m.dom 1 = true → m.r .dev .devStatReady = 0 → m.r .dev .devStatBootFail = 0 → m.cur.pfail = none →
    m.cur.rst = none →
    (Completes (.devReady 0) m fun m' =>
      m'.r .dev .devStatReady = 1 ∧ m'.r .dev .devStatTileFail = 0 ∧
      (m.nv.fwRun = 0 → m'.nv = { m.nv with fwA := 0, retired := m'.nv.retired }) ∧
      (m.nv.fwRun = 1 → m'.nv = { m.nv with fwB := 0, retired := m'.nv.retired }) ∧
      (m.r .dev .devSvcAutoRetire ≠ 1 → m'.nv.retired = m.nv.retired ∧ m'.faultLog = m.faultLog) ∧
      (∀ t, m'.tileOn t = m.tileOn t) ∧
      (∀ t, m.tileOn t = true → (m'.tile t).svcUp = false ∧ ∀ s, s < 10 → (m'.lane t s).chk = none) ∧
      m' = { m with regs := m'.regs, lanes := m'.lanes, tiles := m'.tiles, substs := m'.substs, msix := m'.msix, nv := m'.nv,
                    freeCtr := m'.freeCtr, flight := m'.flight, cur := m'.cur, faultLog := m'.faultLog }) ∧
    (∀ t, m.tileOn t = true → Completes (.devReady (2 ^ t)) m fun m' =>
      m'.r .dev .devStatReady = 1 ∧ m'.r .dev .devStatTileFail = 2 ^ t ∧ m'.tileOn t = false ∧
      (∀ u, u ≠ t → m'.tileOn u = m.tileOn u) ∧
      (m.r .dev .devSvcAutoRetire ≠ 1 → ∃ e, m'.faultLog = (e :: m.faultLog).take 256 ∧ e.tile = t ∧ e.slot = 15))) ∧
  (∀ m : State, m.cur.pfail = none → m.cur.rst = none → Completes .perstRelease m fun m' =>
    m' = { m with cur := { m.cur with perst := false, linkUp := m.dom 2 } }) ∧
  (∀ (fn : Nat) (x : Bool) (m : State), m.cfgOk fn = true →
    Completes (.powerStateChange fn x) m (fun m' =>
      m'.fn fn = { m.fn fn with d3 := x } ∧ (∀ g, g ≠ fn → m'.fn g = m.fn g ∧ m'.msi g = m.msi g) ∧
      (m'.msi fn).en = (m.msi fn).en ∧ (m'.msi fn).table = (m.msi fn).table ∧ (x = true → (m'.msi fn).sent = (m.msi fn).sent) ∧
      m' = { m with fns := m'.fns, msix := m'.msix }) ∧
    Completes (.busMasterEnable fn x) m fun m' =>
      m'.fn fn = { m.fn fn with bme := x } ∧ (∀ g, g ≠ fn → m'.fn g = m.fn g ∧ m'.msi g = m.msi g) ∧
      (m'.msi fn).en = ((m.msi fn).en || x) ∧ (m'.msi fn).table = (m.msi fn).table ∧
      (x = true → m'.tells fn = m.tells fn → (m'.msi fn).pba = (m.msi fn).pba.filter fun v => !m.tells fn v) ∧
      m' = { m with fns := m'.fns, msix := m'.msix })

/-- An FLR of a site in which nothing runs (no live context, no owned lane, no sequence, acquisition, transfer or calibration)
ends its contexts' packets, its DMA and its queues at once and its lanes disconnect; no lane of another site and no register of
another page changes (R434, R435, R437). When its lanes are all open the site's Archive region reads as zeros, its contexts,
queues and function are as after reset, and other sites' lanes, functions, Archive bytes and registers stay, but for what the
two sites share: a gang that held a lane of the reset one, its home tiles' pages, its channels of the trunk (R243, R436, R437).
-/
def Obligations.SiteResetKeepsOthers : Prop :=
  (∀ (fn : Nat) (m : State), 1 ≤ fn → fn ≤ 16 → m.cur.rst = none → m.cfgOk fn = true → m.cals = [] →
    (∀ id, (m.ctx id).st.live = false) → (∀ e ∈ m.ctxs, e.2.st.live = false) → (∀ t s, (m.lane t s).owner = none) →
    (∀ t, t < 16 → m.seqLive t = false ∧ m.acqLive t = false ∧ (m.subst t).xfer = none) →
    Completes (.flr fn) m fun m' =>
      (m'.fn fn).flr = some (m.pace + 1) ∧ (∀ g, g ≠ fn → m'.fn g = m.fn g) ∧ (∀ d ∈ m'.dmas, d.fn ≠ fn) ∧
      (∀ d ∈ m.dmas, d.fn ≠ fn → d ∈ m'.dmas) ∧
      (∀ e ∈ m'.ctxs, e.2.fn = fn → e.2.pkts = []) ∧ (∀ e ∈ m.ctxs, e.2.fn ≠ fn → e ∈ m'.ctxs) ∧
      (∀ q, q < 8 → (m'.cq fn q).blocked = [] ∧ (m'.cq fn q).stalled = []) ∧ (∀ r, r < 16 → m'.rq fn r = {}) ∧
      (∀ t s, (t, s) ∈ m.siteLanes fn → m.sw t s = .connected → m'.sw t s = .disconnecting) ∧
      (∀ t s, s < 10 → (t, s) ∉ m.siteLanes fn → m'.lane t s = m.lane t s ∧ m'.sw t s = m.sw t s) ∧
      RegsKept m m' (fun p f => (∃ t s, (t, s) ∈ m.siteLanes fn ∧ p = .lane t s) ∨ (p, f) ∈ domFields) ∧
      m'.pace = m.pace ∧ m'.arc = m.arc ∧ m'.nv = m.nv) ∧
  (∀ (fn e : Nat) (m : State), 1 ≤ fn → fn ≤ 16 → m.sound = true → (m.fn fn).flr = some e → m.siteOpen fn = true →
    Completes (.flrComplete fn) m fun m' =>
      let base := m.r .site (.siteArcBase fn) * 0x200000
      let size := m.r .site (.siteArcPages fn) * 0x200000
      m'.pace = max m.pace e ∧ m'.fn fn = { aer := (m.fn fn).aer } ∧ (∀ g, g ≠ fn → m'.fn g = m.fn g) ∧ (∀ x ∈ m'.ctxs, x.2.fn ≠ fn) ∧
      (∀ x ∈ m.ctxs, x.2.fn ≠ fn → x ∈ m'.ctxs) ∧ (∀ q, q < 8 → m'.cq fn q = {}) ∧ (∀ r, r < 16 → m'.rq fn r = {}) ∧
      (∀ a, base ≤ a → a < base + size → memGet m'.arc a = 0) ∧
      (∀ a, a < base ∨ base + size ≤ a → memGet m'.arc a = memGet m.arc a) ∧
      (∀ t s, s < 10 → (t, s) ∉ m.siteLanes fn →
        m'.lane t s = { m.lane t s with ben := (m'.lane t s).ben } ∧ m'.sw t s = m.sw t s) ∧
      (∀ t s, t ∉ m.homeTiles fn → (m'.lane t s).ben = true → (m.lane t s).ben = true) ∧
      (∀ t s, (t, s) ∈ m.siteLanes fn → m.tileOn t = true → m'.r (.lane t s) .laneForceLevel = 0 ∧
        m'.r (.lane t s) .laneSwState = m.r (.lane t s) .laneSwState) ∧
      (∀ f, m'.r .site f = if f.fn = fn then regReset .site f else m.r .site f) ∧
      (∀ i ch, i < 4 → (m.r .site (.siteTrk fn i)).testBit ch = false →
        (m'.r .trk (.trkSeen i)).testBit ch = (m.r .trk (.trkSeen i)).testBit ch) ∧
      RegsKept m m' (fun p f => f.fn = fn ∨ p = .q fn ∨ (∃ t ∈ m.homeTiles fn, p ∈ [.tile t, .seq t, .acq t, .bat t]) ∨
        (∃ x ∈ m.siteLanes fn, p = .lane x.1 x.2 ∨ (p = .tile x.1 ∧ ∃ g, f = .tileGangMembers g ∨ f = .tileGangLeader g)) ∨
        (p = .trk ∧ ((∃ i, f = .trkSeen i) ∨ (∃ k, m.ownsWl fn k = true ∧ f ∈ [.wlRxCh k, .wlRxEn k, .wlTxCh k, .wlTxEn k]) ∨
          (m.ownsTrk fn (m.r .trk .trkLoopCh) = true ∧ f ∈ [.trkLoop, .trkLoopCh, .trkLoopWl]))) ∨
        (p, f) ∈ domFields) ∧ m'.nv = m.nv)

/-! The Walul link (R354 to R375); what only another module shows comes with the command (log entry 27). -/

/-- LINK_TRAINING of a used port that is not UP: with 2 or 4 pairs locked and an exchange that agrees it is UP and knows its
peer, and the module learns what lies beyond it, its count of the modules, and an unequal pace where module 0 is reached that
way (R356, R358, R373); of one that is UP it brings only that (log entry 27); an exchange that does not agree holds it in
TOPO_ERR. LINK_LOSS puts an UP port back into training, counts the loss and the frames dropped, and takes the new N or, cut off
from module 0, clears ALIGNED (R358, R371, R372); after a run of bad frames, whose fourth has taken the port out of UP, it
brings only the frames dropped and N (log entry 27). -/
def Obligations.WalulPortsTrainAndFall : Prop :=
  (∀ (n width : Nat) (p : WlPeer) (m : State), m.wlOn = true → n < 2 →
    m.portUsed n = true → (m.wl.topoErr.contains n = false ∨ p.cold = true) →
    let lost : Prop := m.index ≠ 0 ∧ ((p.reach0 = true ∧ p.same = false) ∨
      (p.reach0 = false ∧ ∀ k ∈ m.wl.via, k ≠ n → m.wlPort k ≠ 2))
    let told (m' : State) : Prop :=
      m'.wl.size = p.size ∧ m'.wl.links = p.links ∧
      m'.wl.via = m.wl.via.filter (· != n) ++ (if p.reach0 then [n] else []) ∧
      m'.r .wl .wlN = (if m.index = 0 ∨ p.reach0 = true then p.n % 16 else m.r .wl .wlN) ∧
      (m.index ≠ 0 → p.reach0 = true → p.same = false → m'.r .wl .wlCountMismatch = 1 ∧ m'.wl.alignOk = false) ∧
      (lost → m'.r .wl .wlAligned = 0)
    let touched (f : Fld) : Prop :=
      f = .wlN ∨ (m.index ≠ 0 ∧ p.reach0 = true ∧ p.same = false ∧ f = .wlCountMismatch) ∨ (lost ∧ f = .wlAligned)
    (m.wlPort n = 2 → Completes (.linkTraining n width p) m fun m' =>
      told m' ∧ RegsKept m m' (fun q f => q = .wl ∧ touched f) ∧ m' = { m with regs := m'.regs, wl := m'.wl }) ∧
    (m.wlPort n ≠ 2 → (width = 2 ∨ width = 4) → m.wlAgrees n p = true → Completes (.linkTraining n width p) m fun m' =>
      m'.wlPort n = 2 ∧ m'.r .wl (.wlPWidth n) = width ∧ m'.r .wl (.wlPPeer n) = p.index % 8 ∧ n ∉ m'.wl.topoErr ∧ told m' ∧
      m'.wl.log = ((m.stamp m.pace, n, m.wlPort n, 2, 0) :: m.wl.log).take 32 ∧
      RegsKept m m' (fun q f => q = .wl ∧ (f ∈ [.wlPState n, .wlPWidth n, .wlPPeer n] ∨ touched f)) ∧
      m' = { m with regs := m'.regs, wl := m'.wl }) ∧
    (m.wlPort n ≠ 2 → (width = 2 ∨ width = 4) → m.wlAgrees n p = false → Completes (.linkTraining n width p) m fun m' =>
      m'.wlPort n = 3 ∧ m'.r .wl .wlTopoErr = 1 ∧ n ∈ m'.wl.topoErr ∧
      RegsKept m m' (fun q f => q = .wl ∧ f ∈ [.wlPState n, .wlPWidth n, .wlTopoErr]) ∧
      m' = { m with regs := m'.regs, msix := m'.msix, wl := m'.wl }) ∧
    (m.wlPort n ≠ 2 → width ≠ 2 → width ≠ 4 → Completes (.linkTraining n width p) m fun m' =>
      m'.wlPort n = 1 ∧ RegsKept m m' (fun q f => q = .wl ∧ f ∈ [.wlPState n, .wlPWidth n]) ∧
      m' = { m with regs := m'.regs, wl := m'.wl })) ∧
  (∀ (n q cnt : Nat) (c : LossCause) (r0 : Bool) (m : State), n < 2 →
    let learns (way : Prop) (m' : State) : Prop :=
      let sees : Prop := m.index = 0 ∨ (r0 = true ∧ way)
      (sees → m'.r .wl .wlN = cnt % 16) ∧ (¬ sees → m'.r .wl .wlAligned = 0)
    let shown (way : Prop) (f : Fld) : Prop :=
      let sees : Prop := m.index = 0 ∨ (r0 = true ∧ way)
      (sees ∧ f = .wlN) ∨ (¬ sees ∧ f = .wlAligned)
    (c ≠ .crcRun → m.wlPort n = 2 → Completes (.linkLoss n c q cnt r0) m fun m' =>
      let way := ∃ k ∈ m.wl.via, k ≠ n ∧ m.wlPort k = 2
      m'.wlPort n = (if c = .linkOff then 0 else 1) ∧ m'.r .wl (.wlPWidth n) = 0 ∧ m'.r .wl .wlLoss = 1 ∧
      m'.r .wl .wlLossCnt = (m.r .wl .wlLossCnt + 1) % 2 ^ 32 ∧ m'.r .wl .wlTxdropCnt = (m.r .wl .wlTxdropCnt + q) % 2 ^ 32 ∧
      learns way m' ∧ m'.wl.bad n = 0 ∧
      RegsKept m m' (fun p f => p = .wl ∧ (f ∈ [.wlPState n, .wlPWidth n, .wlLoss, .wlLossCnt, .wlTxdropCnt] ∨ shown way f)) ∧
      m' = { m with regs := m'.regs, msix := m'.msix, wl := m'.wl }) ∧
    (c = .crcRun → 4 ≤ m.wl.bad n → Completes (.linkLoss n c q cnt r0) m fun m' =>
      let way := ∃ k ∈ m.wl.via, m.wlPort k = 2
      m'.r .wl .wlTxdropCnt = (m.r .wl .wlTxdropCnt + q) % 2 ^ 32 ∧ learns way m' ∧ m'.wl.bad n = 0 ∧
      RegsKept m m' (fun p f => p = .wl ∧ (f = .wlTxdropCnt ∨ shown way f)) ∧ m' = { m with regs := m'.regs, wl := m'.wl }))

/-- A frame that comes in with a CRC error is discarded and counted, and the fourth in a row takes its port out of UP (R358,
R359); one that is the module's own, or that has come already, is discarded; another is relayed by the other port, but where the
next module is its origin, and delivered on its origin tick plus 19 ticks a hop, or, past that tick, is late and counted (R365,
R366, R368). A delivery fires the trunk channel that BAT_WLRX names, if enabled, with the frame's hop count (R303, R366). -/
def Obligations.WalulFramesAreDelivered : Prop :=
  (∀ (n c : Nat) (f : WlFrame) (m : State), n < 2 → m.wlPort n = 2 → c ≤ m.pace → m.pace < c + 65536 → f.tick16 = c % 65536 →
    let d := c + 19 * (if m.r .wl .wlMode = 1 then m.r .wl .wlHmax else m.wlHops n f.origin)
    let fresh := f.origin ≠ m.index ∧ m.wl.seen.contains (f.chan, c, f.origin) = false
    let o := 1 - n
    let shut := m.wlPort o = 0 ∨ m.wlNext o = f.origin
    let held (m' : State) : Prop := m'.wl.pend = m.wl.pend ++ [⟨d, f.chan, f.hop, f.origin⟩] ∧
      m'.wl.seen = (f.chan, c, f.origin) :: m.wl.seen.filter fun x => decide (m.pace < x.2.1 + 65536)
    Completes (.walulFrame n f false) m (fun m' =>
      m'.r .wl .wlCrcCnt = (m.r .wl .wlCrcCnt + 1) % 2 ^ 32 ∧ m'.wl.pend = m.wl.pend ∧ m'.wl.sent = m.wl.sent ∧
      m'.wl.bad n = m.wl.bad n + 1 ∧
      (m.wl.bad n < 3 → m'.wlPort n = 2 ∧ RegsKept m m' (fun p x => p = .wl ∧ x = .wlCrcCnt)) ∧
      (3 ≤ m.wl.bad n → m'.wlPort n = 1 ∧ m'.r .wl (.wlPWidth n) = 0 ∧ m'.r .wl .wlLoss = 1 ∧
        m'.r .wl .wlLossCnt = (m.r .wl .wlLossCnt + 1) % 2 ^ 32 ∧
        (m.index ≠ 0 → (∀ k ∈ m.wl.via, k = n ∨ m.wlPort k ≠ 2) → m'.r .wl .wlAligned = 0)) ∧
      RegsKept m m' (fun p x => p = .wl ∧ x ∈ [.wlCrcCnt, .wlPState n, .wlPWidth n, .wlLoss, .wlLossCnt, .wlAligned]) ∧
      m' = { m with regs := m'.regs, wl := m'.wl, msix := m'.msix }) ∧
    (¬ fresh → Completes (.walulFrame n f true) m fun m' =>
      m' = { m with wl := { m.wl with bad0 := m'.wl.bad0, bad1 := m'.wl.bad1 } } ∧ m'.wl.bad n = 0) ∧
    (fresh → shut → m.pace ≤ d → Completes (.walulFrame n f true) m fun m' =>
      held m' ∧ m'.wl.sent = m.wl.sent ∧ m' = { m with wl := m'.wl }) ∧
    (fresh → m.wlPort o = 2 → m.wlNext o ≠ f.origin → m.pace ≤ d → Completes (.walulFrame n f true) m fun m' =>
      held m' ∧ m'.wl.sent = ((o, f) :: m.wl.sent).take 64 ∧ m' = { m with wl := m'.wl }) ∧
    (fresh → m.wlPort o ≠ 0 → m.wlPort o ≠ 2 → m.wlNext o ≠ f.origin → m.pace ≤ d → Completes (.walulFrame n f true) m fun m' =>
      held m' ∧ m'.wl.sent = m.wl.sent ∧ m'.r .wl .wlTxdropCnt = (m.r .wl .wlTxdropCnt + 1) % 2 ^ 32 ∧
      RegsKept m m' (fun p x => p = .wl ∧ x = .wlTxdropCnt) ∧ m' = { m with regs := m'.regs, wl := m'.wl }) ∧
    (fresh → shut → d < m.pace → Completes (.walulFrame n f true) m fun m' =>
      m'.wl.pend = m.wl.pend ∧ m'.r .wl .wlLate = 1 ∧ m'.r .wl .wlLateCnt = (m.r .wl .wlLateCnt + 1) % 2 ^ 32 ∧
      RegsKept m m' (fun p x => p = .wl ∧ x ∈ [.wlLate, .wlLateCnt]) ∧
      m' = { m with regs := m'.regs, msix := m'.msix, wl := m'.wl })) ∧
  (∀ (p : WlPend) (m : State), m.wl.pend = [p] → Completes .walulDelivery m fun m' =>
    m'.pace = max m.pace p.tick ∧ m'.wl = { m.wl with pend := [] } ∧
    m'.flight = (if m.r .trk (.wlRxEn p.chan) = 1 then
      addFlight m.flight { tick := p.tick, stage := .chan (m.r .trk (.wlRxCh p.chan)), hop := p.hop, fromWl := some p.chan }
      else m.flight) ∧
    m' = { m with pace := m'.pace, wl := m'.wl, flight := m'.flight })

/-- ALIGN, asked for by the host, also by a plain write of WL_ALIGN.CMD (log entry 27), or by module 0 itself for a module with
COUNT_MISMATCH, is refused with the first check of R362 that fails, else records the link delays and is under way, CMD reading
1; a write of CMD meanwhile is ignored (R447, R452). At the load tick, 100 µs or more after it was named, module 0 ends it, with
RESIDUAL above 20 ps, and another module that is quiescent loads module 0's count, its trim and its link delays and is ALIGNED
where its residual is within 20 ps and REFIN is present; one that is not quiescent does not step its count (R361, R362, R363).
PHASE_TRACKING moves the trim towards zero error by at most 2 ps for each millisecond, with TRACK 0 not at all, and clears
ALIGNED beyond 20 ps or without module 0's REFIN (R361, R364, R374; the step below that bound is free, log entry 27). -/
def Obligations.AlignmentAndTracking : Prop :=
  (∀ (fn : Nat) (x : AlignMeas) (m : State), m.wlOn = true →
    let begun (m' : State) : Prop :=
      m'.r .wl (.wlPDelay 0) = x.delays.getD 0 0 % 65536 ∧ m'.r .wl (.wlPDelay 1) = x.delays.getD 1 0 % 65536 ∧
      m'.r .wl .wlAlignCmd = 1 ∧ RegsKept m m' (fun p f => p = .wl ∧ f ∈ [.wlPDelay 0, .wlPDelay 1, .wlAlignCmd]) ∧
      m' = { m with regs := m'.regs, wl := { m.wl with alignBusy := true, alignAsked := false, alignSteps := [],
                                                       alignDelays := x.delays, alignResid := [], alignAt := m.pace } }
    let ended (code : Nat) (m' : State) : Prop :=
      m'.r .wl .wlAlignResult = code ∧ m'.r .wl .wlAlignDone = 1 ∧ m'.r .wl .wlAlignCmd = 0 ∧
      RegsKept m m' (fun p f => p = .wl ∧ f ∈ [.wlAlignResult, .wlAlignDone, .wlAlignCmd]) ∧
      m' = { m with regs := m'.regs, msix := m'.msix, wl := { m.wl with alignAsked := false } }
    let ignored (g : Nat) (m' : State) : Prop :=
      m'.r .wl (.ignIgn g) = 1 ∧ RegsKept m m' (fun p f => p = .wl ∧ f ∈ [.ignIgn g, .ignOff g, .ignCnt g]) ∧
      m' = { m with regs := m'.regs, msix := m'.msix }
    (m.hostAt fn .wl = true →
      (m.r .wl .wlAlignCmd = 0 → m.alignCheck x = 0 → Completes (.align fn x) m begun) ∧
      (m.r .wl .wlAlignCmd = 0 → m.alignCheck x ≠ 0 → Completes (.align fn x) m (ended (m.alignCheck x))) ∧
      (m.r .wl .wlAlignCmd ≠ 0 → Completes (.align fn x) m (ignored fn))) ∧
    (∀ (a : Acc) (w : Word), accTarget a = .reg .wl 0x124 → a.off % 4 = 0 → a.fn = 0 → m.hostAt 0 .wl = true →
      m.absentAt .wl 0x124 = false → wbits w 0 2 = 1 →
      (m.r .wl .wlAlignCmd = 0 → m.index ≠ 0 → Completes (.registerWrite a w) m (ended 1)) ∧
      (m.r .wl .wlAlignCmd = 0 → m.index = 0 → Completes (.registerWrite a w) m fun m' =>
        m'.r .wl .wlAlignCmd = 1 ∧ RegsKept m m' (fun p f => p = .wl ∧ f = .wlAlignCmd) ∧
        m' = { m with regs := m'.regs, wl := { m.wl with alignAsked := true } }) ∧
      (m.r .wl .wlAlignCmd ≠ 0 → Completes (.registerWrite a w) m (ignored 0))) ∧
    (m.wl.alignAsked = true → (m.alignCheck x = 0 → Completes (.alignAuto x) m begun) ∧
      (m.alignCheck x ≠ 0 → Completes (.alignAuto x) m (ended (m.alignCheck x)))) ∧
    (m.wl.alignAsked = false → m.wl.alignBusy = false → m.index = 0 → m.r .wl .wlAuto = 1 → x.mismatch = true →
      m.alignCheck x = 0 → Completes (.alignAuto x) m begun) ∧
    (m.wl.alignAsked = false → (m.alignCheck x ≠ 0 ∨ x.mismatch = false ∨ m.r .wl .wlAuto ≠ 1) →
      exec (.alignAuto x) m = .next m)) ∧
  (∀ (x count : Nat) (res : LoadMeas) (trim : Int) (m : State), m.wlOn = true →
    (m.index = 0 → m.wl.alignBusy = true → m.wl.alignAt + 80000 ≤ x → Completes (.alignLoad x count trim res) m fun m' =>
      m'.pace = max m.pace x ∧ m'.wl = { m.wl with alignBusy := false, alignAsked := false, alignResid := [res.resid] } ∧
      m'.r .wl .wlAlignResult = (if 20 < res.resid then 6 else 0) ∧ m'.r .wl .wlAlignDone = 1 ∧ m'.r .wl .wlAlignCmd = 0 ∧
      RegsKept m m' (fun p f => p = .wl ∧ f ∈ [.wlAlignResult, .wlAlignDone, .wlAlignCmd]) ∧
      m' = { m with pace := m'.pace, regs := m'.regs, msix := m'.msix, wl := m'.wl }) ∧
    (m.index ≠ 0 → m.wlReached = true → res.named + 80000 ≤ x →
      (count = max m.pace x ∨ m.quiescent = true → Completes (.alignLoad x count trim res) m fun m' =>
        m'.pace = count ∧ sext 32 (m'.r .wl .wlPhase) = max (-512) (min trim 512) ∧ m'.r .wl .wlCountMismatch = 0 ∧
        m'.r .wl (.wlPDelay 0) = res.delay0 % 65536 ∧ m'.r .wl (.wlPDelay 1) = res.delay1 % 65536 ∧
        m'.r .wl .wlAligned = bit (decide (res.resid ≤ 20) && m.r .pace .paceRefinOk == 1) ∧ m'.r .wl .wlAlignDone = 1 ∧
        m'.wl.alignOk = decide (res.resid ≤ 20) ∧ m'.wl.alignResid = [res.resid] ∧ m'.wl.alignDelays = res.delays ∧
        RegsKept m m' (fun p f => p = .wl ∧
          f ∈ [.wlPDelay 0, .wlPDelay 1, .wlPhase, .wlCountMismatch, .wlAligned, .wlAlignDone]) ∧
        m' = { m with pace := count, regs := m'.regs, lanes := m'.lanes, tiles := m'.tiles, substs := m'.substs,
                      flight := m'.flight, cqs := m'.cqs, rqs := m'.rqs, fns := m'.fns, cur := m'.cur, wl := m'.wl,
                      msix := m'.msix }) ∧
      (count ≠ max m.pace x → m.quiescent = false → exec (.alignLoad x count trim res) m = .next m))) ∧
  (∀ (err : Int) (ref0 : Bool) (m : State), m.wlOn = true → m.index ≠ 0 → m.wlReached = true →
    Completes (.phaseTracking err ref0) m fun m' =>
      let old := sext 32 (m.r .wl .wlPhase)
      (∃ k : Nat, k * 1250 ≤ err.natAbs * 1024 ∧ k * 1000000000 ≤ (m.pace - m.wl.slewAt) * 2048 ∧
        (m.r .wl .wlTrack = 0 → k = 0) ∧
        sext 32 (m'.r .wl .wlPhase) = max (-512) (min (if err > 0 then old - (k : Int) else old + (k : Int)) 512)) ∧
      (20 < err.natAbs → m'.r .wl .wlAligned = 0) ∧ (625 ≤ err.natAbs → m'.r .wl .wlCountMismatch = 1 ∧ m'.wl.alignOk = false) ∧
      (err.natAbs ≤ 20 → m'.r .wl .wlAligned =
        bit (m.wl.alignOk && m.r .wl .wlCountMismatch == 0 && m.r .pace .paceRefinOk == 1 && ref0)) ∧
      RegsKept m m' (fun p f => p = .wl ∧ (f ∈ [.wlPhase, .wlAligned] ∨ (625 ≤ err.natAbs ∧ f = .wlCountMismatch))) ∧
      m' = { m with regs := m'.regs, freeCtr := m'.freeCtr, wl := { m.wl with alignOk := m'.wl.alignOk, slewAt := m'.wl.slewAt } })

/-! Rules of the whole block. -/

/-- A page of an absent unit, a page that a site does not own, a page of a tile whose domain is off, and every page but the
device page before DEV_READY read 0, drop every write and set no flag, malformed accesses included (R441, with R3, R29, R349,
R390); of a function in D3 the access is the one that R407 logs, and an access behind a stalled write waits (R420). -/
def Obligations.AbsentPagesTakeNothing : Prop :=
  ∀ (a : Acc) (p : Page) (off : Nat) (m : State), badTarget a = some (p, off) → (m.fn a.fn).d3 = false →
    m.waits = false →
    (m.fitted p = false ∨ m.views a.fn p = false ∨ (∃ t, p.tileOf = some t ∧ m.tileOn t = false) ∨
      (p ≠ .dev ∧ m.r .dev .devStatReady ≠ 1)) →
    m.hostRead a = 0 ∧ m.badRead a = 0 ∧
    (∀ (w : Word) (wr en : Bool) (item : Nat) (c : Instr),
      c ∈ [Instr.registerWrite a w, .malformedAccess a wr, .pageCtrlWrite a en, .mbxSelWrite a item, .commit a item,
        .routeWrite a w] → exec c m = .next m) ∧
    (∀ (t s n : Nat) (w : Word) (c : Instr), p = .lane t s →
      c ∈ [Instr.connect a.fn t s, .disconnect a.fn t s, .laneForceWrite a.fn t s w, .lanePersWrite a.fn t s w,
        .pulseStartCmd a.fn t s, .pulseStopCmd a.fn t s, .laneRst a.fn t s, .tripClear a.fn t s n, .wmchkRun a.fn t s n,
        .fclr a.fn t s] → exec c m = .next m) ∧
    (∀ (t n : Nat) (c : Instr), p = .seq t → c ∈ [Instr.seqStart a.fn t, .seqAbort a.fn t, .seqJumpReq a.fn t n] →
      exec c m = .next m) ∧
    (∀ (t : Nat) (c : Instr), p = .acq t → c ∈ [Instr.acqArm a.fn t, .acqTrig a.fn t, .acqAbort a.fn t] → exec c m = .next m) ∧
    (∀ (t n : Nat) (w : Word) (c : Instr), p = .tile t → c ∈ [Instr.tileGangWrite a.fn t n w, .tileBoostWrite a.fn t w] →
      exec c m = .next m) ∧
    (∀ t v : Nat, p = .bat t → exec (.batFire a.fn t v) m = .next m)

/-- The words of the segment table are 0 at reset; an all-zero entry is a HOLD segment with GRANULES 0 and REPEAT endless, and a
table that reaches it is refused with BAD_SEGMENT (R480). -/
def Obligations.ZeroSegmentEntryIsBad : Prop :=
  (∀ t k, State.reset.segWord t k = 0) ∧
  (∀ (t n : Nat) (m : State), (∀ k, k < 8 → m.segWord t (8 * n + k) = 0) →
    (m.segOf t n).src = 0 ∧ (m.segOf t n).granules = 0 ∧ (m.segOf t n).reps = 0 ∧
    ∀ fn, m.hostAt fn (.seq t) = true → (m.r (.seq t) .seqState = 0 ∨ m.r (.seq t) .seqState = 5) →
      m.r (.seq t) .pageEn ≠ 0 → m.r (.seq t) .seqLanes ≠ 0 → 2 ≤ m.r (.seq t) .seqPrime → m.r (.seq t) .seqPrime ≤ 1024 →
      m.r (.seq t) .seqPolicy ≤ 2 → 80 ≤ m.r (.seq t) .seqDiv → n ≤ m.seqLastSeg t →
      Completes (.seqStart fn t) m fun m' =>
        m'.r (.seq t) .seqStartRefuse = 3 ∧ m'.r (.seq t) .seqBadIndex ≤ n ∧ m'.r (.seq t) .seqState = m.r (.seq t) .seqState ∧
        RegsKept m m' (fun p f => p = .seq t ∧ f ∈ [.seqStartRefuse, .seqBadIndex]) ∧ m' = { m with regs := m'.regs })

/-- An abort that reaches the arbiter after the outcome is decided changes nothing but the ABORT_LATE counter of the block that
owns the operation: a context run's, a sequence's, an acquisition's, a calibration run's, a transfer's, a DMA command's (R33).
-/
def Obligations.LateAbortsOnlyCount : Prop :=
  ∀ (m : State) (fn : Nat),
    let counts (m' : State) (p : Page) (fs : List Fld) : Prop :=
      (∀ f ∈ fs, m'.r p f = (m.r p f + 1) % 2 ^ 32) ∧ RegsKept m m' (fun q f => q = p ∧ f ∈ fs)
    (∀ id, m.cmdOk fn = true → m.owns fn id = true → (m.ctx id).st = .done → Completes (.ctxAbort fn id) m fun m' =>
      counts m' (.ctxHdr (m.ctx id).tile) [.ctxAbortLate 0, .ctxAbortLate fn] ∧ (m'.fn fn).status = 0 ∧
      m' = { m with regs := m'.regs, fns := m'.fns }) ∧
    (∀ t, m.hostAt fn (.seq t) = true → m.r (.seq t) .seqState = 5 → Completes (.seqAbort fn t) m fun m' =>
      counts m' (.seq t) [.seqAbortLate] ∧ m' = { m with regs := m'.regs }) ∧
    (∀ t, m.hostAt fn (.acq t) = true → m.r (.acq t) .acqState = 6 → Completes (.acqAbort fn t) m fun m' =>
      counts m' (.acq t) [.acqAbortLate] ∧ m' = { m with regs := m'.regs }) ∧
    (∀ (run : Nat) (c : CalRun), m.hostAt fn .cur = true → m.cals.find? (fun c => c.id == run) = some c → c.ended = true →
      Completes (.catAbort fn run) m fun m' =>
        counts m' .cat [.catAbortLate] ∧ (m'.fn fn).status = 15 ∧ m' = { m with regs := m'.regs, fns := m'.fns, cur := m'.cur } ∧
        m'.cur = { m.cur with catCmdSt := 15 }) ∧
    (∀ (t : Nat) (x : Xfer), (m.subst t).xfer = some x → 4 ≤ x.stage → Completes (.transferAbort t) m fun m' =>
      counts m' (.tile t) [.tileHoAbortLate] ∧ m' = { m with regs := m'.regs }) ∧
    (∀ tag, m.cmdOk fn = true → (∀ d ∈ m.dmas, ¬ (d.fn = fn ∧ d.tag = tag)) → (m.fn fn).dmaEnded.contains tag = true →
      Completes (.dmaAbort fn tag) m fun m' =>
        counts m' .arc [.arcAbortLate] ∧ (m'.fn fn).status = 11 ∧ m' = { m with regs := m'.regs, fns := m'.fns })
end

