-- ==== Sys2Proof/Laws/State.lean ====
section
/-! SUPPORT. The updates of the state as lenses: what each update of `Machine/Ops.lean` leaves of every field of State, and what a
read gives after a write of the same or of another place. -/

set_option Elab.async false

namespace Sys2Proof.Machine

/-! Every update names one field of State and leaves the others. -/

@[simp] theorem State.w_pending (m : State) (p : Page) (f : Fld) (v : Nat) : (m.w p f v).pending = m.pending := rfl
@[simp] theorem State.w_held (m : State) (p : Page) (f : Fld) (v : Nat) : (m.w p f v).held = m.held := rfl
@[simp] theorem State.w_pace (m : State) (p : Page) (f : Fld) (v : Nat) : (m.w p f v).pace = m.pace := rfl
@[simp] theorem State.w_freeCtr (m : State) (p : Page) (f : Fld) (v : Nat) : (m.w p f v).freeCtr = m.freeCtr := rfl
@[simp] theorem State.w_variant (m : State) (p : Page) (f : Fld) (v : Nat) : (m.w p f v).variant = m.variant := rfl
@[simp] theorem State.w_straps (m : State) (p : Page) (f : Fld) (v : Nat) : (m.w p f v).straps = m.straps := rfl
@[simp] theorem State.w_profile (m : State) (p : Page) (f : Fld) (v : Nat) : (m.w p f v).profile = m.profile := rfl
@[simp] theorem State.w_chainEnd (m : State) (p : Page) (f : Fld) (v : Nat) : (m.w p f v).chainEnd = m.chainEnd := rfl
@[simp] theorem State.w_lat (m : State) (p : Page) (f : Fld) (v : Nat) : (m.w p f v).lat = m.lat := rfl
@[simp] theorem State.w_lanes (m : State) (p : Page) (f : Fld) (v : Nat) : (m.w p f v).lanes = m.lanes := rfl
@[simp] theorem State.w_locks (m : State) (p : Page) (f : Fld) (v : Nat) : (m.w p f v).locks = m.locks := rfl
@[simp] theorem State.w_ctxs (m : State) (p : Page) (f : Fld) (v : Nat) : (m.w p f v).ctxs = m.ctxs := rfl
@[simp] theorem State.w_engOps (m : State) (p : Page) (f : Fld) (v : Nat) : (m.w p f v).engOps = m.engOps := rfl
@[simp] theorem State.w_seqs (m : State) (p : Page) (f : Fld) (v : Nat) : (m.w p f v).seqs = m.seqs := rfl
@[simp] theorem State.w_segTab (m : State) (p : Page) (f : Fld) (v : Nat) : (m.w p f v).segTab = m.segTab := rfl
@[simp] theorem State.w_acqs (m : State) (p : Page) (f : Fld) (v : Nat) : (m.w p f v).acqs = m.acqs := rfl
@[simp] theorem State.w_substs (m : State) (p : Page) (f : Fld) (v : Nat) : (m.w p f v).substs = m.substs := rfl
@[simp] theorem State.w_tiles (m : State) (p : Page) (f : Fld) (v : Nat) : (m.w p f v).tiles = m.tiles := rfl
@[simp] theorem State.w_flight (m : State) (p : Page) (f : Fld) (v : Nat) : (m.w p f v).flight = m.flight := rfl
@[simp] theorem State.w_tscap (m : State) (p : Page) (f : Fld) (v : Nat) : (m.w p f v).tscap = m.tscap := rfl
@[simp] theorem State.w_arc (m : State) (p : Page) (f : Fld) (v : Nat) : (m.w p f v).arc = m.arc := rfl
@[simp] theorem State.w_written (m : State) (p : Page) (f : Fld) (v : Nat) : (m.w p f v).written = m.written := rfl
@[simp] theorem State.w_poison (m : State) (p : Page) (f : Fld) (v : Nat) : (m.w p f v).poison = m.poison := rfl
@[simp] theorem State.w_latent (m : State) (p : Page) (f : Fld) (v : Nat) : (m.w p f v).latent = m.latent := rfl
@[simp] theorem State.w_fns (m : State) (p : Page) (f : Fld) (v : Nat) : (m.w p f v).fns = m.fns := rfl
@[simp] theorem State.w_cqs (m : State) (p : Page) (f : Fld) (v : Nat) : (m.w p f v).cqs = m.cqs := rfl
@[simp] theorem State.w_rqs (m : State) (p : Page) (f : Fld) (v : Nat) : (m.w p f v).rqs = m.rqs := rfl
@[simp] theorem State.w_dmas (m : State) (p : Page) (f : Fld) (v : Nat) : (m.w p f v).dmas = m.dmas := rfl
@[simp] theorem State.w_hostMem (m : State) (p : Page) (f : Fld) (v : Nat) : (m.w p f v).hostMem = m.hostMem := rfl
@[simp] theorem State.w_msix (m : State) (p : Page) (f : Fld) (v : Nat) : (m.w p f v).msix = m.msix := rfl
@[simp] theorem State.w_cals (m : State) (p : Page) (f : Fld) (v : Nat) : (m.w p f v).cals = m.cals := rfl
@[simp] theorem State.w_catalogue (m : State) (p : Page) (f : Fld) (v : Nat) : (m.w p f v).catalogue = m.catalogue := rfl
@[simp] theorem State.w_nv (m : State) (p : Page) (f : Fld) (v : Nat) : (m.w p f v).nv = m.nv := rfl
@[simp] theorem State.w_faultLog (m : State) (p : Page) (f : Fld) (v : Nat) : (m.w p f v).faultLog = m.faultLog := rfl
@[simp] theorem State.w_pfRecs (m : State) (p : Page) (f : Fld) (v : Nat) : (m.w p f v).pfRecs = m.pfRecs := rfl
@[simp] theorem State.w_wl (m : State) (p : Page) (f : Fld) (v : Nat) : (m.w p f v).wl = m.wl := rfl
@[simp] theorem State.w_cur (m : State) (p : Page) (f : Fld) (v : Nat) : (m.w p f v).cur = m.cur := rfl

@[simp] theorem State.setLane_pending (m : State) (t k : Nat) (d : LaneDyn) : (m.setLane t k d).pending = m.pending := rfl
@[simp] theorem State.setLane_held (m : State) (t k : Nat) (d : LaneDyn) : (m.setLane t k d).held = m.held := rfl
@[simp] theorem State.setLane_pace (m : State) (t k : Nat) (d : LaneDyn) : (m.setLane t k d).pace = m.pace := rfl
@[simp] theorem State.setLane_freeCtr (m : State) (t k : Nat) (d : LaneDyn) : (m.setLane t k d).freeCtr = m.freeCtr := rfl
@[simp] theorem State.setLane_variant (m : State) (t k : Nat) (d : LaneDyn) : (m.setLane t k d).variant = m.variant := rfl
@[simp] theorem State.setLane_straps (m : State) (t k : Nat) (d : LaneDyn) : (m.setLane t k d).straps = m.straps := rfl
@[simp] theorem State.setLane_profile (m : State) (t k : Nat) (d : LaneDyn) : (m.setLane t k d).profile = m.profile := rfl
@[simp] theorem State.setLane_chainEnd (m : State) (t k : Nat) (d : LaneDyn) : (m.setLane t k d).chainEnd = m.chainEnd := rfl
@[simp] theorem State.setLane_regs (m : State) (t k : Nat) (d : LaneDyn) : (m.setLane t k d).regs = m.regs := rfl
@[simp] theorem State.setLane_lat (m : State) (t k : Nat) (d : LaneDyn) : (m.setLane t k d).lat = m.lat := rfl
@[simp] theorem State.setLane_locks (m : State) (t k : Nat) (d : LaneDyn) : (m.setLane t k d).locks = m.locks := rfl
@[simp] theorem State.setLane_ctxs (m : State) (t k : Nat) (d : LaneDyn) : (m.setLane t k d).ctxs = m.ctxs := rfl
@[simp] theorem State.setLane_engOps (m : State) (t k : Nat) (d : LaneDyn) : (m.setLane t k d).engOps = m.engOps := rfl
@[simp] theorem State.setLane_seqs (m : State) (t k : Nat) (d : LaneDyn) : (m.setLane t k d).seqs = m.seqs := rfl
@[simp] theorem State.setLane_segTab (m : State) (t k : Nat) (d : LaneDyn) : (m.setLane t k d).segTab = m.segTab := rfl
@[simp] theorem State.setLane_acqs (m : State) (t k : Nat) (d : LaneDyn) : (m.setLane t k d).acqs = m.acqs := rfl
@[simp] theorem State.setLane_substs (m : State) (t k : Nat) (d : LaneDyn) : (m.setLane t k d).substs = m.substs := rfl
@[simp] theorem State.setLane_tiles (m : State) (t k : Nat) (d : LaneDyn) : (m.setLane t k d).tiles = m.tiles := rfl
@[simp] theorem State.setLane_flight (m : State) (t k : Nat) (d : LaneDyn) : (m.setLane t k d).flight = m.flight := rfl
@[simp] theorem State.setLane_tscap (m : State) (t k : Nat) (d : LaneDyn) : (m.setLane t k d).tscap = m.tscap := rfl
@[simp] theorem State.setLane_arc (m : State) (t k : Nat) (d : LaneDyn) : (m.setLane t k d).arc = m.arc := rfl
@[simp] theorem State.setLane_written (m : State) (t k : Nat) (d : LaneDyn) : (m.setLane t k d).written = m.written := rfl
@[simp] theorem State.setLane_poison (m : State) (t k : Nat) (d : LaneDyn) : (m.setLane t k d).poison = m.poison := rfl
@[simp] theorem State.setLane_latent (m : State) (t k : Nat) (d : LaneDyn) : (m.setLane t k d).latent = m.latent := rfl
@[simp] theorem State.setLane_fns (m : State) (t k : Nat) (d : LaneDyn) : (m.setLane t k d).fns = m.fns := rfl
@[simp] theorem State.setLane_cqs (m : State) (t k : Nat) (d : LaneDyn) : (m.setLane t k d).cqs = m.cqs := rfl
@[simp] theorem State.setLane_rqs (m : State) (t k : Nat) (d : LaneDyn) : (m.setLane t k d).rqs = m.rqs := rfl
@[simp] theorem State.setLane_dmas (m : State) (t k : Nat) (d : LaneDyn) : (m.setLane t k d).dmas = m.dmas := rfl
@[simp] theorem State.setLane_hostMem (m : State) (t k : Nat) (d : LaneDyn) : (m.setLane t k d).hostMem = m.hostMem := rfl
@[simp] theorem State.setLane_msix (m : State) (t k : Nat) (d : LaneDyn) : (m.setLane t k d).msix = m.msix := rfl
@[simp] theorem State.setLane_cals (m : State) (t k : Nat) (d : LaneDyn) : (m.setLane t k d).cals = m.cals := rfl
@[simp] theorem State.setLane_catalogue (m : State) (t k : Nat) (d : LaneDyn) : (m.setLane t k d).catalogue = m.catalogue := rfl
@[simp] theorem State.setLane_nv (m : State) (t k : Nat) (d : LaneDyn) : (m.setLane t k d).nv = m.nv := rfl
@[simp] theorem State.setLane_faultLog (m : State) (t k : Nat) (d : LaneDyn) : (m.setLane t k d).faultLog = m.faultLog := rfl
@[simp] theorem State.setLane_pfRecs (m : State) (t k : Nat) (d : LaneDyn) : (m.setLane t k d).pfRecs = m.pfRecs := rfl
@[simp] theorem State.setLane_wl (m : State) (t k : Nat) (d : LaneDyn) : (m.setLane t k d).wl = m.wl := rfl
@[simp] theorem State.setLane_cur (m : State) (t k : Nat) (d : LaneDyn) : (m.setLane t k d).cur = m.cur := rfl

@[simp] theorem State.setCtx_pending (m : State) (i : Nat) (c : Ctx) : (m.setCtx i c).pending = m.pending := rfl
@[simp] theorem State.setCtx_held (m : State) (i : Nat) (c : Ctx) : (m.setCtx i c).held = m.held := rfl
@[simp] theorem State.setCtx_pace (m : State) (i : Nat) (c : Ctx) : (m.setCtx i c).pace = m.pace := rfl
@[simp] theorem State.setCtx_freeCtr (m : State) (i : Nat) (c : Ctx) : (m.setCtx i c).freeCtr = m.freeCtr := rfl
@[simp] theorem State.setCtx_variant (m : State) (i : Nat) (c : Ctx) : (m.setCtx i c).variant = m.variant := rfl
@[simp] theorem State.setCtx_straps (m : State) (i : Nat) (c : Ctx) : (m.setCtx i c).straps = m.straps := rfl
@[simp] theorem State.setCtx_profile (m : State) (i : Nat) (c : Ctx) : (m.setCtx i c).profile = m.profile := rfl
@[simp] theorem State.setCtx_chainEnd (m : State) (i : Nat) (c : Ctx) : (m.setCtx i c).chainEnd = m.chainEnd := rfl
@[simp] theorem State.setCtx_regs (m : State) (i : Nat) (c : Ctx) : (m.setCtx i c).regs = m.regs := rfl
@[simp] theorem State.setCtx_lat (m : State) (i : Nat) (c : Ctx) : (m.setCtx i c).lat = m.lat := rfl
@[simp] theorem State.setCtx_lanes (m : State) (i : Nat) (c : Ctx) : (m.setCtx i c).lanes = m.lanes := rfl
@[simp] theorem State.setCtx_locks (m : State) (i : Nat) (c : Ctx) : (m.setCtx i c).locks = m.locks := rfl
@[simp] theorem State.setCtx_engOps (m : State) (i : Nat) (c : Ctx) : (m.setCtx i c).engOps = m.engOps := rfl
@[simp] theorem State.setCtx_seqs (m : State) (i : Nat) (c : Ctx) : (m.setCtx i c).seqs = m.seqs := rfl
@[simp] theorem State.setCtx_segTab (m : State) (i : Nat) (c : Ctx) : (m.setCtx i c).segTab = m.segTab := rfl
@[simp] theorem State.setCtx_acqs (m : State) (i : Nat) (c : Ctx) : (m.setCtx i c).acqs = m.acqs := rfl
@[simp] theorem State.setCtx_substs (m : State) (i : Nat) (c : Ctx) : (m.setCtx i c).substs = m.substs := rfl
@[simp] theorem State.setCtx_tiles (m : State) (i : Nat) (c : Ctx) : (m.setCtx i c).tiles = m.tiles := rfl
@[simp] theorem State.setCtx_flight (m : State) (i : Nat) (c : Ctx) : (m.setCtx i c).flight = m.flight := rfl
@[simp] theorem State.setCtx_tscap (m : State) (i : Nat) (c : Ctx) : (m.setCtx i c).tscap = m.tscap := rfl
@[simp] theorem State.setCtx_arc (m : State) (i : Nat) (c : Ctx) : (m.setCtx i c).arc = m.arc := rfl
@[simp] theorem State.setCtx_written (m : State) (i : Nat) (c : Ctx) : (m.setCtx i c).written = m.written := rfl
@[simp] theorem State.setCtx_poison (m : State) (i : Nat) (c : Ctx) : (m.setCtx i c).poison = m.poison := rfl
@[simp] theorem State.setCtx_latent (m : State) (i : Nat) (c : Ctx) : (m.setCtx i c).latent = m.latent := rfl
@[simp] theorem State.setCtx_fns (m : State) (i : Nat) (c : Ctx) : (m.setCtx i c).fns = m.fns := rfl
@[simp] theorem State.setCtx_cqs (m : State) (i : Nat) (c : Ctx) : (m.setCtx i c).cqs = m.cqs := rfl
@[simp] theorem State.setCtx_rqs (m : State) (i : Nat) (c : Ctx) : (m.setCtx i c).rqs = m.rqs := rfl
@[simp] theorem State.setCtx_dmas (m : State) (i : Nat) (c : Ctx) : (m.setCtx i c).dmas = m.dmas := rfl
@[simp] theorem State.setCtx_hostMem (m : State) (i : Nat) (c : Ctx) : (m.setCtx i c).hostMem = m.hostMem := rfl
@[simp] theorem State.setCtx_msix (m : State) (i : Nat) (c : Ctx) : (m.setCtx i c).msix = m.msix := rfl
@[simp] theorem State.setCtx_cals (m : State) (i : Nat) (c : Ctx) : (m.setCtx i c).cals = m.cals := rfl
@[simp] theorem State.setCtx_catalogue (m : State) (i : Nat) (c : Ctx) : (m.setCtx i c).catalogue = m.catalogue := rfl
@[simp] theorem State.setCtx_nv (m : State) (i : Nat) (c : Ctx) : (m.setCtx i c).nv = m.nv := rfl
@[simp] theorem State.setCtx_faultLog (m : State) (i : Nat) (c : Ctx) : (m.setCtx i c).faultLog = m.faultLog := rfl
@[simp] theorem State.setCtx_pfRecs (m : State) (i : Nat) (c : Ctx) : (m.setCtx i c).pfRecs = m.pfRecs := rfl
@[simp] theorem State.setCtx_wl (m : State) (i : Nat) (c : Ctx) : (m.setCtx i c).wl = m.wl := rfl
@[simp] theorem State.setCtx_cur (m : State) (i : Nat) (c : Ctx) : (m.setCtx i c).cur = m.cur := rfl

@[simp] theorem State.setSeq_pending (m : State) (t : Nat) (q : SeqDyn) : (m.setSeq t q).pending = m.pending := rfl
@[simp] theorem State.setSeq_held (m : State) (t : Nat) (q : SeqDyn) : (m.setSeq t q).held = m.held := rfl
@[simp] theorem State.setSeq_pace (m : State) (t : Nat) (q : SeqDyn) : (m.setSeq t q).pace = m.pace := rfl
@[simp] theorem State.setSeq_freeCtr (m : State) (t : Nat) (q : SeqDyn) : (m.setSeq t q).freeCtr = m.freeCtr := rfl
@[simp] theorem State.setSeq_variant (m : State) (t : Nat) (q : SeqDyn) : (m.setSeq t q).variant = m.variant := rfl
@[simp] theorem State.setSeq_straps (m : State) (t : Nat) (q : SeqDyn) : (m.setSeq t q).straps = m.straps := rfl
@[simp] theorem State.setSeq_profile (m : State) (t : Nat) (q : SeqDyn) : (m.setSeq t q).profile = m.profile := rfl
@[simp] theorem State.setSeq_chainEnd (m : State) (t : Nat) (q : SeqDyn) : (m.setSeq t q).chainEnd = m.chainEnd := rfl
@[simp] theorem State.setSeq_regs (m : State) (t : Nat) (q : SeqDyn) : (m.setSeq t q).regs = m.regs := rfl
@[simp] theorem State.setSeq_lat (m : State) (t : Nat) (q : SeqDyn) : (m.setSeq t q).lat = m.lat := rfl
@[simp] theorem State.setSeq_lanes (m : State) (t : Nat) (q : SeqDyn) : (m.setSeq t q).lanes = m.lanes := rfl
@[simp] theorem State.setSeq_locks (m : State) (t : Nat) (q : SeqDyn) : (m.setSeq t q).locks = m.locks := rfl
@[simp] theorem State.setSeq_ctxs (m : State) (t : Nat) (q : SeqDyn) : (m.setSeq t q).ctxs = m.ctxs := rfl
@[simp] theorem State.setSeq_engOps (m : State) (t : Nat) (q : SeqDyn) : (m.setSeq t q).engOps = m.engOps := rfl
@[simp] theorem State.setSeq_segTab (m : State) (t : Nat) (q : SeqDyn) : (m.setSeq t q).segTab = m.segTab := rfl
@[simp] theorem State.setSeq_acqs (m : State) (t : Nat) (q : SeqDyn) : (m.setSeq t q).acqs = m.acqs := rfl
@[simp] theorem State.setSeq_substs (m : State) (t : Nat) (q : SeqDyn) : (m.setSeq t q).substs = m.substs := rfl
@[simp] theorem State.setSeq_tiles (m : State) (t : Nat) (q : SeqDyn) : (m.setSeq t q).tiles = m.tiles := rfl
@[simp] theorem State.setSeq_flight (m : State) (t : Nat) (q : SeqDyn) : (m.setSeq t q).flight = m.flight := rfl
@[simp] theorem State.setSeq_tscap (m : State) (t : Nat) (q : SeqDyn) : (m.setSeq t q).tscap = m.tscap := rfl
@[simp] theorem State.setSeq_arc (m : State) (t : Nat) (q : SeqDyn) : (m.setSeq t q).arc = m.arc := rfl
@[simp] theorem State.setSeq_written (m : State) (t : Nat) (q : SeqDyn) : (m.setSeq t q).written = m.written := rfl
@[simp] theorem State.setSeq_poison (m : State) (t : Nat) (q : SeqDyn) : (m.setSeq t q).poison = m.poison := rfl
@[simp] theorem State.setSeq_latent (m : State) (t : Nat) (q : SeqDyn) : (m.setSeq t q).latent = m.latent := rfl
@[simp] theorem State.setSeq_fns (m : State) (t : Nat) (q : SeqDyn) : (m.setSeq t q).fns = m.fns := rfl
@[simp] theorem State.setSeq_cqs (m : State) (t : Nat) (q : SeqDyn) : (m.setSeq t q).cqs = m.cqs := rfl
@[simp] theorem State.setSeq_rqs (m : State) (t : Nat) (q : SeqDyn) : (m.setSeq t q).rqs = m.rqs := rfl
@[simp] theorem State.setSeq_dmas (m : State) (t : Nat) (q : SeqDyn) : (m.setSeq t q).dmas = m.dmas := rfl
@[simp] theorem State.setSeq_hostMem (m : State) (t : Nat) (q : SeqDyn) : (m.setSeq t q).hostMem = m.hostMem := rfl
@[simp] theorem State.setSeq_msix (m : State) (t : Nat) (q : SeqDyn) : (m.setSeq t q).msix = m.msix := rfl
@[simp] theorem State.setSeq_cals (m : State) (t : Nat) (q : SeqDyn) : (m.setSeq t q).cals = m.cals := rfl
@[simp] theorem State.setSeq_catalogue (m : State) (t : Nat) (q : SeqDyn) : (m.setSeq t q).catalogue = m.catalogue := rfl
@[simp] theorem State.setSeq_nv (m : State) (t : Nat) (q : SeqDyn) : (m.setSeq t q).nv = m.nv := rfl
@[simp] theorem State.setSeq_faultLog (m : State) (t : Nat) (q : SeqDyn) : (m.setSeq t q).faultLog = m.faultLog := rfl
@[simp] theorem State.setSeq_pfRecs (m : State) (t : Nat) (q : SeqDyn) : (m.setSeq t q).pfRecs = m.pfRecs := rfl
@[simp] theorem State.setSeq_wl (m : State) (t : Nat) (q : SeqDyn) : (m.setSeq t q).wl = m.wl := rfl
@[simp] theorem State.setSeq_cur (m : State) (t : Nat) (q : SeqDyn) : (m.setSeq t q).cur = m.cur := rfl

@[simp] theorem State.setAcq_pending (m : State) (t : Nat) (q : AcqDyn) : (m.setAcq t q).pending = m.pending := rfl
@[simp] theorem State.setAcq_held (m : State) (t : Nat) (q : AcqDyn) : (m.setAcq t q).held = m.held := rfl
@[simp] theorem State.setAcq_pace (m : State) (t : Nat) (q : AcqDyn) : (m.setAcq t q).pace = m.pace := rfl
@[simp] theorem State.setAcq_freeCtr (m : State) (t : Nat) (q : AcqDyn) : (m.setAcq t q).freeCtr = m.freeCtr := rfl
@[simp] theorem State.setAcq_variant (m : State) (t : Nat) (q : AcqDyn) : (m.setAcq t q).variant = m.variant := rfl
@[simp] theorem State.setAcq_straps (m : State) (t : Nat) (q : AcqDyn) : (m.setAcq t q).straps = m.straps := rfl
@[simp] theorem State.setAcq_profile (m : State) (t : Nat) (q : AcqDyn) : (m.setAcq t q).profile = m.profile := rfl
@[simp] theorem State.setAcq_chainEnd (m : State) (t : Nat) (q : AcqDyn) : (m.setAcq t q).chainEnd = m.chainEnd := rfl
@[simp] theorem State.setAcq_regs (m : State) (t : Nat) (q : AcqDyn) : (m.setAcq t q).regs = m.regs := rfl
@[simp] theorem State.setAcq_lat (m : State) (t : Nat) (q : AcqDyn) : (m.setAcq t q).lat = m.lat := rfl
@[simp] theorem State.setAcq_lanes (m : State) (t : Nat) (q : AcqDyn) : (m.setAcq t q).lanes = m.lanes := rfl
@[simp] theorem State.setAcq_locks (m : State) (t : Nat) (q : AcqDyn) : (m.setAcq t q).locks = m.locks := rfl
@[simp] theorem State.setAcq_ctxs (m : State) (t : Nat) (q : AcqDyn) : (m.setAcq t q).ctxs = m.ctxs := rfl
@[simp] theorem State.setAcq_engOps (m : State) (t : Nat) (q : AcqDyn) : (m.setAcq t q).engOps = m.engOps := rfl
@[simp] theorem State.setAcq_seqs (m : State) (t : Nat) (q : AcqDyn) : (m.setAcq t q).seqs = m.seqs := rfl
@[simp] theorem State.setAcq_segTab (m : State) (t : Nat) (q : AcqDyn) : (m.setAcq t q).segTab = m.segTab := rfl
@[simp] theorem State.setAcq_substs (m : State) (t : Nat) (q : AcqDyn) : (m.setAcq t q).substs = m.substs := rfl
@[simp] theorem State.setAcq_tiles (m : State) (t : Nat) (q : AcqDyn) : (m.setAcq t q).tiles = m.tiles := rfl
@[simp] theorem State.setAcq_flight (m : State) (t : Nat) (q : AcqDyn) : (m.setAcq t q).flight = m.flight := rfl
@[simp] theorem State.setAcq_tscap (m : State) (t : Nat) (q : AcqDyn) : (m.setAcq t q).tscap = m.tscap := rfl
@[simp] theorem State.setAcq_arc (m : State) (t : Nat) (q : AcqDyn) : (m.setAcq t q).arc = m.arc := rfl
@[simp] theorem State.setAcq_written (m : State) (t : Nat) (q : AcqDyn) : (m.setAcq t q).written = m.written := rfl
@[simp] theorem State.setAcq_poison (m : State) (t : Nat) (q : AcqDyn) : (m.setAcq t q).poison = m.poison := rfl
@[simp] theorem State.setAcq_latent (m : State) (t : Nat) (q : AcqDyn) : (m.setAcq t q).latent = m.latent := rfl
@[simp] theorem State.setAcq_fns (m : State) (t : Nat) (q : AcqDyn) : (m.setAcq t q).fns = m.fns := rfl
@[simp] theorem State.setAcq_cqs (m : State) (t : Nat) (q : AcqDyn) : (m.setAcq t q).cqs = m.cqs := rfl
@[simp] theorem State.setAcq_rqs (m : State) (t : Nat) (q : AcqDyn) : (m.setAcq t q).rqs = m.rqs := rfl
@[simp] theorem State.setAcq_dmas (m : State) (t : Nat) (q : AcqDyn) : (m.setAcq t q).dmas = m.dmas := rfl
@[simp] theorem State.setAcq_hostMem (m : State) (t : Nat) (q : AcqDyn) : (m.setAcq t q).hostMem = m.hostMem := rfl
@[simp] theorem State.setAcq_msix (m : State) (t : Nat) (q : AcqDyn) : (m.setAcq t q).msix = m.msix := rfl
@[simp] theorem State.setAcq_cals (m : State) (t : Nat) (q : AcqDyn) : (m.setAcq t q).cals = m.cals := rfl
@[simp] theorem State.setAcq_catalogue (m : State) (t : Nat) (q : AcqDyn) : (m.setAcq t q).catalogue = m.catalogue := rfl
@[simp] theorem State.setAcq_nv (m : State) (t : Nat) (q : AcqDyn) : (m.setAcq t q).nv = m.nv := rfl
@[simp] theorem State.setAcq_faultLog (m : State) (t : Nat) (q : AcqDyn) : (m.setAcq t q).faultLog = m.faultLog := rfl
@[simp] theorem State.setAcq_pfRecs (m : State) (t : Nat) (q : AcqDyn) : (m.setAcq t q).pfRecs = m.pfRecs := rfl
@[simp] theorem State.setAcq_wl (m : State) (t : Nat) (q : AcqDyn) : (m.setAcq t q).wl = m.wl := rfl
@[simp] theorem State.setAcq_cur (m : State) (t : Nat) (q : AcqDyn) : (m.setAcq t q).cur = m.cur := rfl

@[simp] theorem State.setSubst_pending (m : State) (t : Nat) (q : SubstDyn) : (m.setSubst t q).pending = m.pending := rfl
@[simp] theorem State.setSubst_held (m : State) (t : Nat) (q : SubstDyn) : (m.setSubst t q).held = m.held := rfl
@[simp] theorem State.setSubst_pace (m : State) (t : Nat) (q : SubstDyn) : (m.setSubst t q).pace = m.pace := rfl
@[simp] theorem State.setSubst_freeCtr (m : State) (t : Nat) (q : SubstDyn) : (m.setSubst t q).freeCtr = m.freeCtr := rfl
@[simp] theorem State.setSubst_variant (m : State) (t : Nat) (q : SubstDyn) : (m.setSubst t q).variant = m.variant := rfl
@[simp] theorem State.setSubst_straps (m : State) (t : Nat) (q : SubstDyn) : (m.setSubst t q).straps = m.straps := rfl
@[simp] theorem State.setSubst_profile (m : State) (t : Nat) (q : SubstDyn) : (m.setSubst t q).profile = m.profile := rfl
@[simp] theorem State.setSubst_chainEnd (m : State) (t : Nat) (q : SubstDyn) : (m.setSubst t q).chainEnd = m.chainEnd := rfl
@[simp] theorem State.setSubst_regs (m : State) (t : Nat) (q : SubstDyn) : (m.setSubst t q).regs = m.regs := rfl
@[simp] theorem State.setSubst_lat (m : State) (t : Nat) (q : SubstDyn) : (m.setSubst t q).lat = m.lat := rfl
@[simp] theorem State.setSubst_lanes (m : State) (t : Nat) (q : SubstDyn) : (m.setSubst t q).lanes = m.lanes := rfl
@[simp] theorem State.setSubst_locks (m : State) (t : Nat) (q : SubstDyn) : (m.setSubst t q).locks = m.locks := rfl
@[simp] theorem State.setSubst_ctxs (m : State) (t : Nat) (q : SubstDyn) : (m.setSubst t q).ctxs = m.ctxs := rfl
@[simp] theorem State.setSubst_engOps (m : State) (t : Nat) (q : SubstDyn) : (m.setSubst t q).engOps = m.engOps := rfl
@[simp] theorem State.setSubst_seqs (m : State) (t : Nat) (q : SubstDyn) : (m.setSubst t q).seqs = m.seqs := rfl
@[simp] theorem State.setSubst_segTab (m : State) (t : Nat) (q : SubstDyn) : (m.setSubst t q).segTab = m.segTab := rfl
@[simp] theorem State.setSubst_acqs (m : State) (t : Nat) (q : SubstDyn) : (m.setSubst t q).acqs = m.acqs := rfl
@[simp] theorem State.setSubst_tiles (m : State) (t : Nat) (q : SubstDyn) : (m.setSubst t q).tiles = m.tiles := rfl
@[simp] theorem State.setSubst_flight (m : State) (t : Nat) (q : SubstDyn) : (m.setSubst t q).flight = m.flight := rfl
@[simp] theorem State.setSubst_tscap (m : State) (t : Nat) (q : SubstDyn) : (m.setSubst t q).tscap = m.tscap := rfl
@[simp] theorem State.setSubst_arc (m : State) (t : Nat) (q : SubstDyn) : (m.setSubst t q).arc = m.arc := rfl
@[simp] theorem State.setSubst_written (m : State) (t : Nat) (q : SubstDyn) : (m.setSubst t q).written = m.written := rfl
@[simp] theorem State.setSubst_poison (m : State) (t : Nat) (q : SubstDyn) : (m.setSubst t q).poison = m.poison := rfl
@[simp] theorem State.setSubst_latent (m : State) (t : Nat) (q : SubstDyn) : (m.setSubst t q).latent = m.latent := rfl
@[simp] theorem State.setSubst_fns (m : State) (t : Nat) (q : SubstDyn) : (m.setSubst t q).fns = m.fns := rfl
@[simp] theorem State.setSubst_cqs (m : State) (t : Nat) (q : SubstDyn) : (m.setSubst t q).cqs = m.cqs := rfl
@[simp] theorem State.setSubst_rqs (m : State) (t : Nat) (q : SubstDyn) : (m.setSubst t q).rqs = m.rqs := rfl
@[simp] theorem State.setSubst_dmas (m : State) (t : Nat) (q : SubstDyn) : (m.setSubst t q).dmas = m.dmas := rfl
@[simp] theorem State.setSubst_hostMem (m : State) (t : Nat) (q : SubstDyn) : (m.setSubst t q).hostMem = m.hostMem := rfl
@[simp] theorem State.setSubst_msix (m : State) (t : Nat) (q : SubstDyn) : (m.setSubst t q).msix = m.msix := rfl
@[simp] theorem State.setSubst_cals (m : State) (t : Nat) (q : SubstDyn) : (m.setSubst t q).cals = m.cals := rfl
@[simp] theorem State.setSubst_catalogue (m : State) (t : Nat) (q : SubstDyn) : (m.setSubst t q).catalogue = m.catalogue := rfl
@[simp] theorem State.setSubst_nv (m : State) (t : Nat) (q : SubstDyn) : (m.setSubst t q).nv = m.nv := rfl
@[simp] theorem State.setSubst_faultLog (m : State) (t : Nat) (q : SubstDyn) : (m.setSubst t q).faultLog = m.faultLog := rfl
@[simp] theorem State.setSubst_pfRecs (m : State) (t : Nat) (q : SubstDyn) : (m.setSubst t q).pfRecs = m.pfRecs := rfl
@[simp] theorem State.setSubst_wl (m : State) (t : Nat) (q : SubstDyn) : (m.setSubst t q).wl = m.wl := rfl
@[simp] theorem State.setSubst_cur (m : State) (t : Nat) (q : SubstDyn) : (m.setSubst t q).cur = m.cur := rfl

@[simp] theorem State.setTile_pending (m : State) (t : Nat) (q : TileDyn) : (m.setTile t q).pending = m.pending := rfl
@[simp] theorem State.setTile_held (m : State) (t : Nat) (q : TileDyn) : (m.setTile t q).held = m.held := rfl
@[simp] theorem State.setTile_pace (m : State) (t : Nat) (q : TileDyn) : (m.setTile t q).pace = m.pace := rfl
@[simp] theorem State.setTile_freeCtr (m : State) (t : Nat) (q : TileDyn) : (m.setTile t q).freeCtr = m.freeCtr := rfl
@[simp] theorem State.setTile_variant (m : State) (t : Nat) (q : TileDyn) : (m.setTile t q).variant = m.variant := rfl
@[simp] theorem State.setTile_straps (m : State) (t : Nat) (q : TileDyn) : (m.setTile t q).straps = m.straps := rfl
@[simp] theorem State.setTile_profile (m : State) (t : Nat) (q : TileDyn) : (m.setTile t q).profile = m.profile := rfl
@[simp] theorem State.setTile_chainEnd (m : State) (t : Nat) (q : TileDyn) : (m.setTile t q).chainEnd = m.chainEnd := rfl
@[simp] theorem State.setTile_regs (m : State) (t : Nat) (q : TileDyn) : (m.setTile t q).regs = m.regs := rfl
@[simp] theorem State.setTile_lat (m : State) (t : Nat) (q : TileDyn) : (m.setTile t q).lat = m.lat := rfl
@[simp] theorem State.setTile_lanes (m : State) (t : Nat) (q : TileDyn) : (m.setTile t q).lanes = m.lanes := rfl
@[simp] theorem State.setTile_locks (m : State) (t : Nat) (q : TileDyn) : (m.setTile t q).locks = m.locks := rfl
@[simp] theorem State.setTile_ctxs (m : State) (t : Nat) (q : TileDyn) : (m.setTile t q).ctxs = m.ctxs := rfl
@[simp] theorem State.setTile_engOps (m : State) (t : Nat) (q : TileDyn) : (m.setTile t q).engOps = m.engOps := rfl
@[simp] theorem State.setTile_seqs (m : State) (t : Nat) (q : TileDyn) : (m.setTile t q).seqs = m.seqs := rfl
@[simp] theorem State.setTile_segTab (m : State) (t : Nat) (q : TileDyn) : (m.setTile t q).segTab = m.segTab := rfl
@[simp] theorem State.setTile_acqs (m : State) (t : Nat) (q : TileDyn) : (m.setTile t q).acqs = m.acqs := rfl
@[simp] theorem State.setTile_substs (m : State) (t : Nat) (q : TileDyn) : (m.setTile t q).substs = m.substs := rfl
@[simp] theorem State.setTile_flight (m : State) (t : Nat) (q : TileDyn) : (m.setTile t q).flight = m.flight := rfl
@[simp] theorem State.setTile_tscap (m : State) (t : Nat) (q : TileDyn) : (m.setTile t q).tscap = m.tscap := rfl
@[simp] theorem State.setTile_arc (m : State) (t : Nat) (q : TileDyn) : (m.setTile t q).arc = m.arc := rfl
@[simp] theorem State.setTile_written (m : State) (t : Nat) (q : TileDyn) : (m.setTile t q).written = m.written := rfl
@[simp] theorem State.setTile_poison (m : State) (t : Nat) (q : TileDyn) : (m.setTile t q).poison = m.poison := rfl
@[simp] theorem State.setTile_latent (m : State) (t : Nat) (q : TileDyn) : (m.setTile t q).latent = m.latent := rfl
@[simp] theorem State.setTile_fns (m : State) (t : Nat) (q : TileDyn) : (m.setTile t q).fns = m.fns := rfl
@[simp] theorem State.setTile_cqs (m : State) (t : Nat) (q : TileDyn) : (m.setTile t q).cqs = m.cqs := rfl
@[simp] theorem State.setTile_rqs (m : State) (t : Nat) (q : TileDyn) : (m.setTile t q).rqs = m.rqs := rfl
@[simp] theorem State.setTile_dmas (m : State) (t : Nat) (q : TileDyn) : (m.setTile t q).dmas = m.dmas := rfl
@[simp] theorem State.setTile_hostMem (m : State) (t : Nat) (q : TileDyn) : (m.setTile t q).hostMem = m.hostMem := rfl
@[simp] theorem State.setTile_msix (m : State) (t : Nat) (q : TileDyn) : (m.setTile t q).msix = m.msix := rfl
@[simp] theorem State.setTile_cals (m : State) (t : Nat) (q : TileDyn) : (m.setTile t q).cals = m.cals := rfl
@[simp] theorem State.setTile_catalogue (m : State) (t : Nat) (q : TileDyn) : (m.setTile t q).catalogue = m.catalogue := rfl
@[simp] theorem State.setTile_nv (m : State) (t : Nat) (q : TileDyn) : (m.setTile t q).nv = m.nv := rfl
@[simp] theorem State.setTile_faultLog (m : State) (t : Nat) (q : TileDyn) : (m.setTile t q).faultLog = m.faultLog := rfl
@[simp] theorem State.setTile_pfRecs (m : State) (t : Nat) (q : TileDyn) : (m.setTile t q).pfRecs = m.pfRecs := rfl
@[simp] theorem State.setTile_wl (m : State) (t : Nat) (q : TileDyn) : (m.setTile t q).wl = m.wl := rfl
@[simp] theorem State.setTile_cur (m : State) (t : Nat) (q : TileDyn) : (m.setTile t q).cur = m.cur := rfl

@[simp] theorem State.setFn_pending (m : State) (f : Nat) (q : FnDyn) : (m.setFn f q).pending = m.pending := rfl
@[simp] theorem State.setFn_held (m : State) (f : Nat) (q : FnDyn) : (m.setFn f q).held = m.held := rfl
@[simp] theorem State.setFn_pace (m : State) (f : Nat) (q : FnDyn) : (m.setFn f q).pace = m.pace := rfl
@[simp] theorem State.setFn_freeCtr (m : State) (f : Nat) (q : FnDyn) : (m.setFn f q).freeCtr = m.freeCtr := rfl
@[simp] theorem State.setFn_variant (m : State) (f : Nat) (q : FnDyn) : (m.setFn f q).variant = m.variant := rfl
@[simp] theorem State.setFn_straps (m : State) (f : Nat) (q : FnDyn) : (m.setFn f q).straps = m.straps := rfl
@[simp] theorem State.setFn_profile (m : State) (f : Nat) (q : FnDyn) : (m.setFn f q).profile = m.profile := rfl
@[simp] theorem State.setFn_chainEnd (m : State) (f : Nat) (q : FnDyn) : (m.setFn f q).chainEnd = m.chainEnd := rfl
@[simp] theorem State.setFn_regs (m : State) (f : Nat) (q : FnDyn) : (m.setFn f q).regs = m.regs := rfl
@[simp] theorem State.setFn_lat (m : State) (f : Nat) (q : FnDyn) : (m.setFn f q).lat = m.lat := rfl
@[simp] theorem State.setFn_lanes (m : State) (f : Nat) (q : FnDyn) : (m.setFn f q).lanes = m.lanes := rfl
@[simp] theorem State.setFn_locks (m : State) (f : Nat) (q : FnDyn) : (m.setFn f q).locks = m.locks := rfl
@[simp] theorem State.setFn_ctxs (m : State) (f : Nat) (q : FnDyn) : (m.setFn f q).ctxs = m.ctxs := rfl
@[simp] theorem State.setFn_engOps (m : State) (f : Nat) (q : FnDyn) : (m.setFn f q).engOps = m.engOps := rfl
@[simp] theorem State.setFn_seqs (m : State) (f : Nat) (q : FnDyn) : (m.setFn f q).seqs = m.seqs := rfl
@[simp] theorem State.setFn_segTab (m : State) (f : Nat) (q : FnDyn) : (m.setFn f q).segTab = m.segTab := rfl
@[simp] theorem State.setFn_acqs (m : State) (f : Nat) (q : FnDyn) : (m.setFn f q).acqs = m.acqs := rfl
@[simp] theorem State.setFn_substs (m : State) (f : Nat) (q : FnDyn) : (m.setFn f q).substs = m.substs := rfl
@[simp] theorem State.setFn_tiles (m : State) (f : Nat) (q : FnDyn) : (m.setFn f q).tiles = m.tiles := rfl
@[simp] theorem State.setFn_flight (m : State) (f : Nat) (q : FnDyn) : (m.setFn f q).flight = m.flight := rfl
@[simp] theorem State.setFn_tscap (m : State) (f : Nat) (q : FnDyn) : (m.setFn f q).tscap = m.tscap := rfl
@[simp] theorem State.setFn_arc (m : State) (f : Nat) (q : FnDyn) : (m.setFn f q).arc = m.arc := rfl
@[simp] theorem State.setFn_written (m : State) (f : Nat) (q : FnDyn) : (m.setFn f q).written = m.written := rfl
@[simp] theorem State.setFn_poison (m : State) (f : Nat) (q : FnDyn) : (m.setFn f q).poison = m.poison := rfl
@[simp] theorem State.setFn_latent (m : State) (f : Nat) (q : FnDyn) : (m.setFn f q).latent = m.latent := rfl
@[simp] theorem State.setFn_cqs (m : State) (f : Nat) (q : FnDyn) : (m.setFn f q).cqs = m.cqs := rfl
@[simp] theorem State.setFn_rqs (m : State) (f : Nat) (q : FnDyn) : (m.setFn f q).rqs = m.rqs := rfl
@[simp] theorem State.setFn_dmas (m : State) (f : Nat) (q : FnDyn) : (m.setFn f q).dmas = m.dmas := rfl
@[simp] theorem State.setFn_hostMem (m : State) (f : Nat) (q : FnDyn) : (m.setFn f q).hostMem = m.hostMem := rfl
@[simp] theorem State.setFn_msix (m : State) (f : Nat) (q : FnDyn) : (m.setFn f q).msix = m.msix := rfl
@[simp] theorem State.setFn_cals (m : State) (f : Nat) (q : FnDyn) : (m.setFn f q).cals = m.cals := rfl
@[simp] theorem State.setFn_catalogue (m : State) (f : Nat) (q : FnDyn) : (m.setFn f q).catalogue = m.catalogue := rfl
@[simp] theorem State.setFn_nv (m : State) (f : Nat) (q : FnDyn) : (m.setFn f q).nv = m.nv := rfl
@[simp] theorem State.setFn_faultLog (m : State) (f : Nat) (q : FnDyn) : (m.setFn f q).faultLog = m.faultLog := rfl
@[simp] theorem State.setFn_pfRecs (m : State) (f : Nat) (q : FnDyn) : (m.setFn f q).pfRecs = m.pfRecs := rfl
@[simp] theorem State.setFn_wl (m : State) (f : Nat) (q : FnDyn) : (m.setFn f q).wl = m.wl := rfl
@[simp] theorem State.setFn_cur (m : State) (f : Nat) (q : FnDyn) : (m.setFn f q).cur = m.cur := rfl

@[simp] theorem State.setCq_pending (m : State) (f n : Nat) (q : CmdQ) : (m.setCq f n q).pending = m.pending := rfl
@[simp] theorem State.setCq_held (m : State) (f n : Nat) (q : CmdQ) : (m.setCq f n q).held = m.held := rfl
@[simp] theorem State.setCq_pace (m : State) (f n : Nat) (q : CmdQ) : (m.setCq f n q).pace = m.pace := rfl
@[simp] theorem State.setCq_freeCtr (m : State) (f n : Nat) (q : CmdQ) : (m.setCq f n q).freeCtr = m.freeCtr := rfl
@[simp] theorem State.setCq_variant (m : State) (f n : Nat) (q : CmdQ) : (m.setCq f n q).variant = m.variant := rfl
@[simp] theorem State.setCq_straps (m : State) (f n : Nat) (q : CmdQ) : (m.setCq f n q).straps = m.straps := rfl
@[simp] theorem State.setCq_profile (m : State) (f n : Nat) (q : CmdQ) : (m.setCq f n q).profile = m.profile := rfl
@[simp] theorem State.setCq_chainEnd (m : State) (f n : Nat) (q : CmdQ) : (m.setCq f n q).chainEnd = m.chainEnd := rfl
@[simp] theorem State.setCq_regs (m : State) (f n : Nat) (q : CmdQ) : (m.setCq f n q).regs = m.regs := rfl
@[simp] theorem State.setCq_lat (m : State) (f n : Nat) (q : CmdQ) : (m.setCq f n q).lat = m.lat := rfl
@[simp] theorem State.setCq_lanes (m : State) (f n : Nat) (q : CmdQ) : (m.setCq f n q).lanes = m.lanes := rfl
@[simp] theorem State.setCq_locks (m : State) (f n : Nat) (q : CmdQ) : (m.setCq f n q).locks = m.locks := rfl
@[simp] theorem State.setCq_ctxs (m : State) (f n : Nat) (q : CmdQ) : (m.setCq f n q).ctxs = m.ctxs := rfl
@[simp] theorem State.setCq_engOps (m : State) (f n : Nat) (q : CmdQ) : (m.setCq f n q).engOps = m.engOps := rfl
@[simp] theorem State.setCq_seqs (m : State) (f n : Nat) (q : CmdQ) : (m.setCq f n q).seqs = m.seqs := rfl
@[simp] theorem State.setCq_segTab (m : State) (f n : Nat) (q : CmdQ) : (m.setCq f n q).segTab = m.segTab := rfl
@[simp] theorem State.setCq_acqs (m : State) (f n : Nat) (q : CmdQ) : (m.setCq f n q).acqs = m.acqs := rfl
@[simp] theorem State.setCq_substs (m : State) (f n : Nat) (q : CmdQ) : (m.setCq f n q).substs = m.substs := rfl
@[simp] theorem State.setCq_tiles (m : State) (f n : Nat) (q : CmdQ) : (m.setCq f n q).tiles = m.tiles := rfl
@[simp] theorem State.setCq_flight (m : State) (f n : Nat) (q : CmdQ) : (m.setCq f n q).flight = m.flight := rfl
@[simp] theorem State.setCq_tscap (m : State) (f n : Nat) (q : CmdQ) : (m.setCq f n q).tscap = m.tscap := rfl
@[simp] theorem State.setCq_arc (m : State) (f n : Nat) (q : CmdQ) : (m.setCq f n q).arc = m.arc := rfl
@[simp] theorem State.setCq_written (m : State) (f n : Nat) (q : CmdQ) : (m.setCq f n q).written = m.written := rfl
@[simp] theorem State.setCq_poison (m : State) (f n : Nat) (q : CmdQ) : (m.setCq f n q).poison = m.poison := rfl
@[simp] theorem State.setCq_latent (m : State) (f n : Nat) (q : CmdQ) : (m.setCq f n q).latent = m.latent := rfl
@[simp] theorem State.setCq_fns (m : State) (f n : Nat) (q : CmdQ) : (m.setCq f n q).fns = m.fns := rfl
@[simp] theorem State.setCq_rqs (m : State) (f n : Nat) (q : CmdQ) : (m.setCq f n q).rqs = m.rqs := rfl
@[simp] theorem State.setCq_dmas (m : State) (f n : Nat) (q : CmdQ) : (m.setCq f n q).dmas = m.dmas := rfl
@[simp] theorem State.setCq_hostMem (m : State) (f n : Nat) (q : CmdQ) : (m.setCq f n q).hostMem = m.hostMem := rfl
@[simp] theorem State.setCq_msix (m : State) (f n : Nat) (q : CmdQ) : (m.setCq f n q).msix = m.msix := rfl
@[simp] theorem State.setCq_cals (m : State) (f n : Nat) (q : CmdQ) : (m.setCq f n q).cals = m.cals := rfl
@[simp] theorem State.setCq_catalogue (m : State) (f n : Nat) (q : CmdQ) : (m.setCq f n q).catalogue = m.catalogue := rfl
@[simp] theorem State.setCq_nv (m : State) (f n : Nat) (q : CmdQ) : (m.setCq f n q).nv = m.nv := rfl
@[simp] theorem State.setCq_faultLog (m : State) (f n : Nat) (q : CmdQ) : (m.setCq f n q).faultLog = m.faultLog := rfl
@[simp] theorem State.setCq_pfRecs (m : State) (f n : Nat) (q : CmdQ) : (m.setCq f n q).pfRecs = m.pfRecs := rfl
@[simp] theorem State.setCq_wl (m : State) (f n : Nat) (q : CmdQ) : (m.setCq f n q).wl = m.wl := rfl
@[simp] theorem State.setCq_cur (m : State) (f n : Nat) (q : CmdQ) : (m.setCq f n q).cur = m.cur := rfl

@[simp] theorem State.setRq_pending (m : State) (f n : Nat) (q : ResQ) : (m.setRq f n q).pending = m.pending := rfl
@[simp] theorem State.setRq_held (m : State) (f n : Nat) (q : ResQ) : (m.setRq f n q).held = m.held := rfl
@[simp] theorem State.setRq_pace (m : State) (f n : Nat) (q : ResQ) : (m.setRq f n q).pace = m.pace := rfl
@[simp] theorem State.setRq_freeCtr (m : State) (f n : Nat) (q : ResQ) : (m.setRq f n q).freeCtr = m.freeCtr := rfl
@[simp] theorem State.setRq_variant (m : State) (f n : Nat) (q : ResQ) : (m.setRq f n q).variant = m.variant := rfl
@[simp] theorem State.setRq_straps (m : State) (f n : Nat) (q : ResQ) : (m.setRq f n q).straps = m.straps := rfl
@[simp] theorem State.setRq_profile (m : State) (f n : Nat) (q : ResQ) : (m.setRq f n q).profile = m.profile := rfl
@[simp] theorem State.setRq_chainEnd (m : State) (f n : Nat) (q : ResQ) : (m.setRq f n q).chainEnd = m.chainEnd := rfl
@[simp] theorem State.setRq_regs (m : State) (f n : Nat) (q : ResQ) : (m.setRq f n q).regs = m.regs := rfl
@[simp] theorem State.setRq_lat (m : State) (f n : Nat) (q : ResQ) : (m.setRq f n q).lat = m.lat := rfl
@[simp] theorem State.setRq_lanes (m : State) (f n : Nat) (q : ResQ) : (m.setRq f n q).lanes = m.lanes := rfl
@[simp] theorem State.setRq_locks (m : State) (f n : Nat) (q : ResQ) : (m.setRq f n q).locks = m.locks := rfl
@[simp] theorem State.setRq_ctxs (m : State) (f n : Nat) (q : ResQ) : (m.setRq f n q).ctxs = m.ctxs := rfl
@[simp] theorem State.setRq_engOps (m : State) (f n : Nat) (q : ResQ) : (m.setRq f n q).engOps = m.engOps := rfl
@[simp] theorem State.setRq_seqs (m : State) (f n : Nat) (q : ResQ) : (m.setRq f n q).seqs = m.seqs := rfl
@[simp] theorem State.setRq_segTab (m : State) (f n : Nat) (q : ResQ) : (m.setRq f n q).segTab = m.segTab := rfl
@[simp] theorem State.setRq_acqs (m : State) (f n : Nat) (q : ResQ) : (m.setRq f n q).acqs = m.acqs := rfl
@[simp] theorem State.setRq_substs (m : State) (f n : Nat) (q : ResQ) : (m.setRq f n q).substs = m.substs := rfl
@[simp] theorem State.setRq_tiles (m : State) (f n : Nat) (q : ResQ) : (m.setRq f n q).tiles = m.tiles := rfl
@[simp] theorem State.setRq_flight (m : State) (f n : Nat) (q : ResQ) : (m.setRq f n q).flight = m.flight := rfl
@[simp] theorem State.setRq_tscap (m : State) (f n : Nat) (q : ResQ) : (m.setRq f n q).tscap = m.tscap := rfl
@[simp] theorem State.setRq_arc (m : State) (f n : Nat) (q : ResQ) : (m.setRq f n q).arc = m.arc := rfl
@[simp] theorem State.setRq_written (m : State) (f n : Nat) (q : ResQ) : (m.setRq f n q).written = m.written := rfl
@[simp] theorem State.setRq_poison (m : State) (f n : Nat) (q : ResQ) : (m.setRq f n q).poison = m.poison := rfl
@[simp] theorem State.setRq_latent (m : State) (f n : Nat) (q : ResQ) : (m.setRq f n q).latent = m.latent := rfl
@[simp] theorem State.setRq_fns (m : State) (f n : Nat) (q : ResQ) : (m.setRq f n q).fns = m.fns := rfl
@[simp] theorem State.setRq_cqs (m : State) (f n : Nat) (q : ResQ) : (m.setRq f n q).cqs = m.cqs := rfl
@[simp] theorem State.setRq_dmas (m : State) (f n : Nat) (q : ResQ) : (m.setRq f n q).dmas = m.dmas := rfl
@[simp] theorem State.setRq_hostMem (m : State) (f n : Nat) (q : ResQ) : (m.setRq f n q).hostMem = m.hostMem := rfl
@[simp] theorem State.setRq_msix (m : State) (f n : Nat) (q : ResQ) : (m.setRq f n q).msix = m.msix := rfl
@[simp] theorem State.setRq_cals (m : State) (f n : Nat) (q : ResQ) : (m.setRq f n q).cals = m.cals := rfl
@[simp] theorem State.setRq_catalogue (m : State) (f n : Nat) (q : ResQ) : (m.setRq f n q).catalogue = m.catalogue := rfl
@[simp] theorem State.setRq_nv (m : State) (f n : Nat) (q : ResQ) : (m.setRq f n q).nv = m.nv := rfl
@[simp] theorem State.setRq_faultLog (m : State) (f n : Nat) (q : ResQ) : (m.setRq f n q).faultLog = m.faultLog := rfl
@[simp] theorem State.setRq_pfRecs (m : State) (f n : Nat) (q : ResQ) : (m.setRq f n q).pfRecs = m.pfRecs := rfl
@[simp] theorem State.setRq_wl (m : State) (f n : Nat) (q : ResQ) : (m.setRq f n q).wl = m.wl := rfl
@[simp] theorem State.setRq_cur (m : State) (f n : Nat) (q : ResQ) : (m.setRq f n q).cur = m.cur := rfl

@[simp] theorem State.setMsi_pending (m : State) (f : Nat) (v : Msi) : (m.setMsi f v).pending = m.pending := rfl
@[simp] theorem State.setMsi_held (m : State) (f : Nat) (v : Msi) : (m.setMsi f v).held = m.held := rfl
@[simp] theorem State.setMsi_pace (m : State) (f : Nat) (v : Msi) : (m.setMsi f v).pace = m.pace := rfl
@[simp] theorem State.setMsi_freeCtr (m : State) (f : Nat) (v : Msi) : (m.setMsi f v).freeCtr = m.freeCtr := rfl
@[simp] theorem State.setMsi_variant (m : State) (f : Nat) (v : Msi) : (m.setMsi f v).variant = m.variant := rfl
@[simp] theorem State.setMsi_straps (m : State) (f : Nat) (v : Msi) : (m.setMsi f v).straps = m.straps := rfl
@[simp] theorem State.setMsi_profile (m : State) (f : Nat) (v : Msi) : (m.setMsi f v).profile = m.profile := rfl
@[simp] theorem State.setMsi_chainEnd (m : State) (f : Nat) (v : Msi) : (m.setMsi f v).chainEnd = m.chainEnd := rfl
@[simp] theorem State.setMsi_regs (m : State) (f : Nat) (v : Msi) : (m.setMsi f v).regs = m.regs := rfl
@[simp] theorem State.setMsi_lat (m : State) (f : Nat) (v : Msi) : (m.setMsi f v).lat = m.lat := rfl
@[simp] theorem State.setMsi_lanes (m : State) (f : Nat) (v : Msi) : (m.setMsi f v).lanes = m.lanes := rfl
@[simp] theorem State.setMsi_locks (m : State) (f : Nat) (v : Msi) : (m.setMsi f v).locks = m.locks := rfl
@[simp] theorem State.setMsi_ctxs (m : State) (f : Nat) (v : Msi) : (m.setMsi f v).ctxs = m.ctxs := rfl
@[simp] theorem State.setMsi_engOps (m : State) (f : Nat) (v : Msi) : (m.setMsi f v).engOps = m.engOps := rfl
@[simp] theorem State.setMsi_seqs (m : State) (f : Nat) (v : Msi) : (m.setMsi f v).seqs = m.seqs := rfl
@[simp] theorem State.setMsi_segTab (m : State) (f : Nat) (v : Msi) : (m.setMsi f v).segTab = m.segTab := rfl
@[simp] theorem State.setMsi_acqs (m : State) (f : Nat) (v : Msi) : (m.setMsi f v).acqs = m.acqs := rfl
@[simp] theorem State.setMsi_substs (m : State) (f : Nat) (v : Msi) : (m.setMsi f v).substs = m.substs := rfl
@[simp] theorem State.setMsi_tiles (m : State) (f : Nat) (v : Msi) : (m.setMsi f v).tiles = m.tiles := rfl
@[simp] theorem State.setMsi_flight (m : State) (f : Nat) (v : Msi) : (m.setMsi f v).flight = m.flight := rfl
@[simp] theorem State.setMsi_tscap (m : State) (f : Nat) (v : Msi) : (m.setMsi f v).tscap = m.tscap := rfl
@[simp] theorem State.setMsi_arc (m : State) (f : Nat) (v : Msi) : (m.setMsi f v).arc = m.arc := rfl
@[simp] theorem State.setMsi_written (m : State) (f : Nat) (v : Msi) : (m.setMsi f v).written = m.written := rfl
@[simp] theorem State.setMsi_poison (m : State) (f : Nat) (v : Msi) : (m.setMsi f v).poison = m.poison := rfl
@[simp] theorem State.setMsi_latent (m : State) (f : Nat) (v : Msi) : (m.setMsi f v).latent = m.latent := rfl
@[simp] theorem State.setMsi_fns (m : State) (f : Nat) (v : Msi) : (m.setMsi f v).fns = m.fns := rfl
@[simp] theorem State.setMsi_cqs (m : State) (f : Nat) (v : Msi) : (m.setMsi f v).cqs = m.cqs := rfl
@[simp] theorem State.setMsi_rqs (m : State) (f : Nat) (v : Msi) : (m.setMsi f v).rqs = m.rqs := rfl
@[simp] theorem State.setMsi_dmas (m : State) (f : Nat) (v : Msi) : (m.setMsi f v).dmas = m.dmas := rfl
@[simp] theorem State.setMsi_hostMem (m : State) (f : Nat) (v : Msi) : (m.setMsi f v).hostMem = m.hostMem := rfl
@[simp] theorem State.setMsi_cals (m : State) (f : Nat) (v : Msi) : (m.setMsi f v).cals = m.cals := rfl
@[simp] theorem State.setMsi_catalogue (m : State) (f : Nat) (v : Msi) : (m.setMsi f v).catalogue = m.catalogue := rfl
@[simp] theorem State.setMsi_nv (m : State) (f : Nat) (v : Msi) : (m.setMsi f v).nv = m.nv := rfl
@[simp] theorem State.setMsi_faultLog (m : State) (f : Nat) (v : Msi) : (m.setMsi f v).faultLog = m.faultLog := rfl
@[simp] theorem State.setMsi_pfRecs (m : State) (f : Nat) (v : Msi) : (m.setMsi f v).pfRecs = m.pfRecs := rfl
@[simp] theorem State.setMsi_wl (m : State) (f : Nat) (v : Msi) : (m.setMsi f v).wl = m.wl := rfl
@[simp] theorem State.setMsi_cur (m : State) (f : Nat) (v : Msi) : (m.setMsi f v).cur = m.cur := rfl

@[simp] theorem State.due_pending (m : State) (e : Nat) : (m.due e).pending = m.pending := rfl
@[simp] theorem State.due_held (m : State) (e : Nat) : (m.due e).held = m.held := rfl
@[simp] theorem State.due_freeCtr (m : State) (e : Nat) : (m.due e).freeCtr = m.freeCtr := rfl
@[simp] theorem State.due_variant (m : State) (e : Nat) : (m.due e).variant = m.variant := rfl
@[simp] theorem State.due_straps (m : State) (e : Nat) : (m.due e).straps = m.straps := rfl
@[simp] theorem State.due_profile (m : State) (e : Nat) : (m.due e).profile = m.profile := rfl
@[simp] theorem State.due_chainEnd (m : State) (e : Nat) : (m.due e).chainEnd = m.chainEnd := rfl
@[simp] theorem State.due_regs (m : State) (e : Nat) : (m.due e).regs = m.regs := rfl
@[simp] theorem State.due_lat (m : State) (e : Nat) : (m.due e).lat = m.lat := rfl
@[simp] theorem State.due_lanes (m : State) (e : Nat) : (m.due e).lanes = m.lanes := rfl
@[simp] theorem State.due_locks (m : State) (e : Nat) : (m.due e).locks = m.locks := rfl
@[simp] theorem State.due_ctxs (m : State) (e : Nat) : (m.due e).ctxs = m.ctxs := rfl
@[simp] theorem State.due_engOps (m : State) (e : Nat) : (m.due e).engOps = m.engOps := rfl
@[simp] theorem State.due_seqs (m : State) (e : Nat) : (m.due e).seqs = m.seqs := rfl
@[simp] theorem State.due_segTab (m : State) (e : Nat) : (m.due e).segTab = m.segTab := rfl
@[simp] theorem State.due_acqs (m : State) (e : Nat) : (m.due e).acqs = m.acqs := rfl
@[simp] theorem State.due_substs (m : State) (e : Nat) : (m.due e).substs = m.substs := rfl
@[simp] theorem State.due_tiles (m : State) (e : Nat) : (m.due e).tiles = m.tiles := rfl
@[simp] theorem State.due_flight (m : State) (e : Nat) : (m.due e).flight = m.flight := rfl
@[simp] theorem State.due_tscap (m : State) (e : Nat) : (m.due e).tscap = m.tscap := rfl
@[simp] theorem State.due_arc (m : State) (e : Nat) : (m.due e).arc = m.arc := rfl
@[simp] theorem State.due_written (m : State) (e : Nat) : (m.due e).written = m.written := rfl
@[simp] theorem State.due_poison (m : State) (e : Nat) : (m.due e).poison = m.poison := rfl
@[simp] theorem State.due_latent (m : State) (e : Nat) : (m.due e).latent = m.latent := rfl
@[simp] theorem State.due_fns (m : State) (e : Nat) : (m.due e).fns = m.fns := rfl
@[simp] theorem State.due_cqs (m : State) (e : Nat) : (m.due e).cqs = m.cqs := rfl
@[simp] theorem State.due_rqs (m : State) (e : Nat) : (m.due e).rqs = m.rqs := rfl
@[simp] theorem State.due_dmas (m : State) (e : Nat) : (m.due e).dmas = m.dmas := rfl
@[simp] theorem State.due_hostMem (m : State) (e : Nat) : (m.due e).hostMem = m.hostMem := rfl
@[simp] theorem State.due_msix (m : State) (e : Nat) : (m.due e).msix = m.msix := rfl
@[simp] theorem State.due_cals (m : State) (e : Nat) : (m.due e).cals = m.cals := rfl
@[simp] theorem State.due_catalogue (m : State) (e : Nat) : (m.due e).catalogue = m.catalogue := rfl
@[simp] theorem State.due_nv (m : State) (e : Nat) : (m.due e).nv = m.nv := rfl
@[simp] theorem State.due_faultLog (m : State) (e : Nat) : (m.due e).faultLog = m.faultLog := rfl
@[simp] theorem State.due_pfRecs (m : State) (e : Nat) : (m.due e).pfRecs = m.pfRecs := rfl
@[simp] theorem State.due_wl (m : State) (e : Nat) : (m.due e).wl = m.wl := rfl
@[simp] theorem State.due_cur (m : State) (e : Nat) : (m.due e).cur = m.cur := rfl

@[simp] theorem State.drawn_pending (m : State) : (m.drawn).pending = m.pending := rfl
@[simp] theorem State.drawn_held (m : State) : (m.drawn).held = m.held := rfl
@[simp] theorem State.drawn_pace (m : State) : (m.drawn).pace = m.pace := rfl
@[simp] theorem State.drawn_variant (m : State) : (m.drawn).variant = m.variant := rfl
@[simp] theorem State.drawn_straps (m : State) : (m.drawn).straps = m.straps := rfl
@[simp] theorem State.drawn_profile (m : State) : (m.drawn).profile = m.profile := rfl
@[simp] theorem State.drawn_chainEnd (m : State) : (m.drawn).chainEnd = m.chainEnd := rfl
@[simp] theorem State.drawn_regs (m : State) : (m.drawn).regs = m.regs := rfl
@[simp] theorem State.drawn_lat (m : State) : (m.drawn).lat = m.lat := rfl
@[simp] theorem State.drawn_lanes (m : State) : (m.drawn).lanes = m.lanes := rfl
@[simp] theorem State.drawn_locks (m : State) : (m.drawn).locks = m.locks := rfl
@[simp] theorem State.drawn_ctxs (m : State) : (m.drawn).ctxs = m.ctxs := rfl
@[simp] theorem State.drawn_engOps (m : State) : (m.drawn).engOps = m.engOps := rfl
@[simp] theorem State.drawn_seqs (m : State) : (m.drawn).seqs = m.seqs := rfl
@[simp] theorem State.drawn_segTab (m : State) : (m.drawn).segTab = m.segTab := rfl
@[simp] theorem State.drawn_acqs (m : State) : (m.drawn).acqs = m.acqs := rfl
@[simp] theorem State.drawn_substs (m : State) : (m.drawn).substs = m.substs := rfl
@[simp] theorem State.drawn_tiles (m : State) : (m.drawn).tiles = m.tiles := rfl
@[simp] theorem State.drawn_flight (m : State) : (m.drawn).flight = m.flight := rfl
@[simp] theorem State.drawn_tscap (m : State) : (m.drawn).tscap = m.tscap := rfl
@[simp] theorem State.drawn_arc (m : State) : (m.drawn).arc = m.arc := rfl
@[simp] theorem State.drawn_written (m : State) : (m.drawn).written = m.written := rfl
@[simp] theorem State.drawn_poison (m : State) : (m.drawn).poison = m.poison := rfl
@[simp] theorem State.drawn_latent (m : State) : (m.drawn).latent = m.latent := rfl
@[simp] theorem State.drawn_fns (m : State) : (m.drawn).fns = m.fns := rfl
@[simp] theorem State.drawn_cqs (m : State) : (m.drawn).cqs = m.cqs := rfl
@[simp] theorem State.drawn_rqs (m : State) : (m.drawn).rqs = m.rqs := rfl
@[simp] theorem State.drawn_dmas (m : State) : (m.drawn).dmas = m.dmas := rfl
@[simp] theorem State.drawn_hostMem (m : State) : (m.drawn).hostMem = m.hostMem := rfl
@[simp] theorem State.drawn_msix (m : State) : (m.drawn).msix = m.msix := rfl
@[simp] theorem State.drawn_cals (m : State) : (m.drawn).cals = m.cals := rfl
@[simp] theorem State.drawn_catalogue (m : State) : (m.drawn).catalogue = m.catalogue := rfl
@[simp] theorem State.drawn_nv (m : State) : (m.drawn).nv = m.nv := rfl
@[simp] theorem State.drawn_faultLog (m : State) : (m.drawn).faultLog = m.faultLog := rfl
@[simp] theorem State.drawn_pfRecs (m : State) : (m.drawn).pfRecs = m.pfRecs := rfl
@[simp] theorem State.drawn_wl (m : State) : (m.drawn).wl = m.wl := rfl
@[simp] theorem State.drawn_cur (m : State) : (m.drawn).cur = m.cur := rfl

/-! The updates of an entry by a function are sets. -/

@[simp] theorem State.modLane_eq (m : State) (t k : Nat) (f : LaneDyn → LaneDyn) : m.modLane t k f = m.setLane t k (f (m.lane t k)) := rfl
@[simp] theorem State.modCtx_eq (m : State) (i : Nat) (f : Ctx → Ctx) : m.modCtx i f = m.setCtx i (f (m.ctx i)) := rfl
@[simp] theorem State.modSeq_eq (m : State) (t : Nat) (f : SeqDyn → SeqDyn) : m.modSeq t f = m.setSeq t (f (m.seq t)) := rfl
@[simp] theorem State.modAcq_eq (m : State) (t : Nat) (f : AcqDyn → AcqDyn) : m.modAcq t f = m.setAcq t (f (m.acq t)) := rfl
@[simp] theorem State.modSubst_eq (m : State) (t : Nat) (f : SubstDyn → SubstDyn) : m.modSubst t f = m.setSubst t (f (m.subst t)) := rfl
@[simp] theorem State.modTile_eq (m : State) (t : Nat) (f : TileDyn → TileDyn) : m.modTile t f = m.setTile t (f (m.tile t)) := rfl
@[simp] theorem State.due_pace (m : State) (e : Nat) : (m.due e).pace = max m.pace e := rfl
@[simp] theorem State.drawn_freeCtr (m : State) : m.drawn.freeCtr = m.freeCtr + 1 := rfl

/-! Sparse tables. -/

/-- A read of the key just set gives the value set. -/
@[simp] theorem tabGet_tabSet_same {α : Type} (d x : α) (t : Tab α) (k : Nat) : tabGet d (tabSet t k x) k = x := by
  induction t with
  | nil => simp [tabSet, tabGet]
  | cons e t ih =>
    obtain ⟨j, y⟩ := e
    simp only [tabSet]
    split
    · simp [tabGet]
    · split
      · simp [tabGet]
      · rename_i h1 h2
        simp [tabGet, ih, Ne.symm h2]

/-- A set leaves every other key as it was. -/
theorem tabGet_tabSet_other {α : Type} (d x : α) (t : Tab α) {k j : Nat} (h : j ≠ k) : tabGet d (tabSet t k x) j = tabGet d t j := by
  induction t with
  | nil => simp [tabSet, tabGet, h.symm]
  | cons e t ih =>
    obtain ⟨i, y⟩ := e
    simp only [tabSet]
    split
    · simp [tabGet, h.symm]
    · split
      · rename_i _ h2
        subst h2
        simp [tabGet, h.symm]
      · simp [tabGet, ih]

/-- A read after a set, at any key. -/
theorem tabGet_tabSet {α : Type} (d x : α) (t : Tab α) (k j : Nat) : tabGet d (tabSet t k x) j = if j = k then x else tabGet d t j := by
  split
  · next h => subst h; simp
  · next h => exact tabGet_tabSet_other d x t h

/-! Register fields. -/

/-- A read of the field just written gives the value written. -/
@[simp] theorem regGet_regSet_same (t : RegTab) (p : Page) (f : Fld) (v : Nat) : regGet (regSet t p f v) p f = v := by
  simp [regSet, regGet]

theorem regGet_filter (t : RegTab) {p q : Page} {f g : Fld} (h : ¬(g = f ∧ q = p)) :
    regGet (t.filter fun c => !(decide (c.fld = f) && decide (c.page = p))) q g = regGet t q g := by
  induction t with
  | nil => rfl
  | cons c t ih =>
    simp only [List.filter]
    split
    · simp only [regGet, ih]
    · next hc =>
      have hc' : c.fld = f ∧ c.page = p := by simpa using hc
      have : ¬(c.fld = g ∧ c.page = q) := fun h2 => h ⟨h2.1.symm.trans hc'.1, h2.2.symm.trans hc'.2⟩
      simp only [regGet, this, if_false, ih]

/-- A write leaves every other field as it was. -/
theorem regGet_regSet_other (t : RegTab) {p q : Page} {f g : Fld} (v : Nat) (h : ¬(g = f ∧ q = p)) :
    regGet (regSet t p f v) q g = regGet t q g := by
  have h' : ¬(f = g ∧ p = q) := fun h2 => h ⟨h2.1.symm, h2.2.symm⟩
  simp only [regSet, regGet, h', if_false]
  exact regGet_filter t h

theorem State.r_of_regs {m m' : State} (h : m'.regs = m.regs) (p : Page) (f : Fld) : m'.r p f = m.r p f := by simp [State.r, h]
theorem State.l_of_lat {m m' : State} (h : m'.lat = m.lat) (p : Page) (f : Fld) : m'.l p f = m.l p f := by simp [State.l, h]

/-- A field just written holds the value, cut to its width (R447). -/
@[simp] theorem State.r_w_same (m : State) (p : Page) (f : Fld) (v : Nat) : (m.w p f v).r p f = v % 2 ^ f.w := by
  simp [State.r, State.w]

/-- A write of one field leaves the others. -/
theorem State.r_w_other (m : State) {p q : Page} {f g : Fld} (v : Nat) (h : ¬(g = f ∧ q = p)) : (m.w p f v).r q g = m.r q g :=
  regGet_regSet_other m.regs (v % 2 ^ f.w) h

/-- A read of any field after a write of one. -/
theorem State.r_w (m : State) (p q : Page) (f g : Fld) (v : Nat) :
    (m.w p f v).r q g = if g = f ∧ q = p then v % 2 ^ f.w else m.r q g := by
  split
  · next h => obtain ⟨rfl, rfl⟩ := h; simp
  · next h => exact m.r_w_other v h

/-! What stands beside the pages: a read after a set, and the updates that leave each reader. -/

@[simp] theorem State.lane_setLane (m : State) (t k : Nat) (d : LaneDyn) : (m.setLane t k d).lane t k = d := by
  simp [State.lane, State.setLane]
theorem State.lane_setLane_any (m : State) (t k : Nat) (d : LaneDyn) (t' k' : Nat) :
    (m.setLane t k d).lane t' k' = if t' * 10 + k' = t * 10 + k then d else m.lane t' k' := tabGet_tabSet _ _ _ _ _
@[simp] theorem State.w_lane (m : State) (p : Page) (f : Fld) (v : Nat) (t₁ k₁ : Nat) : (m.w p f v).lane t₁ k₁ = m.lane t₁ k₁ := rfl
@[simp] theorem State.setCtx_lane (m : State) (i : Nat) (c : Ctx) (t₁ k₁ : Nat) : (m.setCtx i c).lane t₁ k₁ = m.lane t₁ k₁ := rfl
@[simp] theorem State.setSeq_lane (m : State) (t : Nat) (q : SeqDyn) (t₁ k₁ : Nat) : (m.setSeq t q).lane t₁ k₁ = m.lane t₁ k₁ := rfl
@[simp] theorem State.setAcq_lane (m : State) (t : Nat) (q : AcqDyn) (t₁ k₁ : Nat) : (m.setAcq t q).lane t₁ k₁ = m.lane t₁ k₁ := rfl
@[simp] theorem State.setSubst_lane (m : State) (t : Nat) (q : SubstDyn) (t₁ k₁ : Nat) : (m.setSubst t q).lane t₁ k₁ = m.lane t₁ k₁ := rfl
@[simp] theorem State.setTile_lane (m : State) (t : Nat) (q : TileDyn) (t₁ k₁ : Nat) : (m.setTile t q).lane t₁ k₁ = m.lane t₁ k₁ := rfl
@[simp] theorem State.setFn_lane (m : State) (f : Nat) (q : FnDyn) (t₁ k₁ : Nat) : (m.setFn f q).lane t₁ k₁ = m.lane t₁ k₁ := rfl
@[simp] theorem State.setCq_lane (m : State) (f n : Nat) (q : CmdQ) (t₁ k₁ : Nat) : (m.setCq f n q).lane t₁ k₁ = m.lane t₁ k₁ := rfl
@[simp] theorem State.setRq_lane (m : State) (f n : Nat) (q : ResQ) (t₁ k₁ : Nat) : (m.setRq f n q).lane t₁ k₁ = m.lane t₁ k₁ := rfl
@[simp] theorem State.setMsi_lane (m : State) (f : Nat) (v : Msi) (t₁ k₁ : Nat) : (m.setMsi f v).lane t₁ k₁ = m.lane t₁ k₁ := rfl
@[simp] theorem State.due_lane (m : State) (e : Nat) (t₁ k₁ : Nat) : (m.due e).lane t₁ k₁ = m.lane t₁ k₁ := rfl
@[simp] theorem State.drawn_lane (m : State) (t₁ k₁ : Nat) : (m.drawn).lane t₁ k₁ = m.lane t₁ k₁ := rfl

@[simp] theorem State.ctx_setCtx (m : State) (i : Nat) (c : Ctx) : (m.setCtx i c).ctx i = c := by
  simp [State.ctx, State.setCtx]
theorem State.ctx_setCtx_any (m : State) (i : Nat) (c : Ctx) (i' : Nat) :
    (m.setCtx i c).ctx i' = if i' = i then c else m.ctx i' := tabGet_tabSet _ _ _ _ _
@[simp] theorem State.w_ctx (m : State) (p : Page) (f : Fld) (v : Nat) (i₁ : Nat) : (m.w p f v).ctx i₁ = m.ctx i₁ := rfl
@[simp] theorem State.setLane_ctx (m : State) (t k : Nat) (d : LaneDyn) (i₁ : Nat) : (m.setLane t k d).ctx i₁ = m.ctx i₁ := rfl
@[simp] theorem State.setSeq_ctx (m : State) (t : Nat) (q : SeqDyn) (i₁ : Nat) : (m.setSeq t q).ctx i₁ = m.ctx i₁ := rfl
@[simp] theorem State.setAcq_ctx (m : State) (t : Nat) (q : AcqDyn) (i₁ : Nat) : (m.setAcq t q).ctx i₁ = m.ctx i₁ := rfl
@[simp] theorem State.setSubst_ctx (m : State) (t : Nat) (q : SubstDyn) (i₁ : Nat) : (m.setSubst t q).ctx i₁ = m.ctx i₁ := rfl
@[simp] theorem State.setTile_ctx (m : State) (t : Nat) (q : TileDyn) (i₁ : Nat) : (m.setTile t q).ctx i₁ = m.ctx i₁ := rfl
@[simp] theorem State.setFn_ctx (m : State) (f : Nat) (q : FnDyn) (i₁ : Nat) : (m.setFn f q).ctx i₁ = m.ctx i₁ := rfl
@[simp] theorem State.setCq_ctx (m : State) (f n : Nat) (q : CmdQ) (i₁ : Nat) : (m.setCq f n q).ctx i₁ = m.ctx i₁ := rfl
@[simp] theorem State.setRq_ctx (m : State) (f n : Nat) (q : ResQ) (i₁ : Nat) : (m.setRq f n q).ctx i₁ = m.ctx i₁ := rfl
@[simp] theorem State.setMsi_ctx (m : State) (f : Nat) (v : Msi) (i₁ : Nat) : (m.setMsi f v).ctx i₁ = m.ctx i₁ := rfl
@[simp] theorem State.due_ctx (m : State) (e : Nat) (i₁ : Nat) : (m.due e).ctx i₁ = m.ctx i₁ := rfl
@[simp] theorem State.drawn_ctx (m : State) (i₁ : Nat) : (m.drawn).ctx i₁ = m.ctx i₁ := rfl

@[simp] theorem State.seq_setSeq (m : State) (t : Nat) (q : SeqDyn) : (m.setSeq t q).seq t = q := by
  simp [State.seq, State.setSeq]
theorem State.seq_setSeq_any (m : State) (t : Nat) (q : SeqDyn) (t' : Nat) :
    (m.setSeq t q).seq t' = if t' = t then q else m.seq t' := tabGet_tabSet _ _ _ _ _
@[simp] theorem State.w_seq (m : State) (p : Page) (f : Fld) (v : Nat) (t₁ : Nat) : (m.w p f v).seq t₁ = m.seq t₁ := rfl
@[simp] theorem State.setLane_seq (m : State) (t k : Nat) (d : LaneDyn) (t₁ : Nat) : (m.setLane t k d).seq t₁ = m.seq t₁ := rfl
@[simp] theorem State.setCtx_seq (m : State) (i : Nat) (c : Ctx) (t₁ : Nat) : (m.setCtx i c).seq t₁ = m.seq t₁ := rfl
@[simp] theorem State.setAcq_seq (m : State) (t : Nat) (q : AcqDyn) (t₁ : Nat) : (m.setAcq t q).seq t₁ = m.seq t₁ := rfl
@[simp] theorem State.setSubst_seq (m : State) (t : Nat) (q : SubstDyn) (t₁ : Nat) : (m.setSubst t q).seq t₁ = m.seq t₁ := rfl
@[simp] theorem State.setTile_seq (m : State) (t : Nat) (q : TileDyn) (t₁ : Nat) : (m.setTile t q).seq t₁ = m.seq t₁ := rfl
@[simp] theorem State.setFn_seq (m : State) (f : Nat) (q : FnDyn) (t₁ : Nat) : (m.setFn f q).seq t₁ = m.seq t₁ := rfl
@[simp] theorem State.setCq_seq (m : State) (f n : Nat) (q : CmdQ) (t₁ : Nat) : (m.setCq f n q).seq t₁ = m.seq t₁ := rfl
@[simp] theorem State.setRq_seq (m : State) (f n : Nat) (q : ResQ) (t₁ : Nat) : (m.setRq f n q).seq t₁ = m.seq t₁ := rfl
@[simp] theorem State.setMsi_seq (m : State) (f : Nat) (v : Msi) (t₁ : Nat) : (m.setMsi f v).seq t₁ = m.seq t₁ := rfl
@[simp] theorem State.due_seq (m : State) (e : Nat) (t₁ : Nat) : (m.due e).seq t₁ = m.seq t₁ := rfl
@[simp] theorem State.drawn_seq (m : State) (t₁ : Nat) : (m.drawn).seq t₁ = m.seq t₁ := rfl

@[simp] theorem State.acq_setAcq (m : State) (t : Nat) (q : AcqDyn) : (m.setAcq t q).acq t = q := by
  simp [State.acq, State.setAcq]
theorem State.acq_setAcq_any (m : State) (t : Nat) (q : AcqDyn) (t' : Nat) :
    (m.setAcq t q).acq t' = if t' = t then q else m.acq t' := tabGet_tabSet _ _ _ _ _
@[simp] theorem State.w_acq (m : State) (p : Page) (f : Fld) (v : Nat) (t₁ : Nat) : (m.w p f v).acq t₁ = m.acq t₁ := rfl
@[simp] theorem State.setLane_acq (m : State) (t k : Nat) (d : LaneDyn) (t₁ : Nat) : (m.setLane t k d).acq t₁ = m.acq t₁ := rfl
@[simp] theorem State.setCtx_acq (m : State) (i : Nat) (c : Ctx) (t₁ : Nat) : (m.setCtx i c).acq t₁ = m.acq t₁ := rfl
@[simp] theorem State.setSeq_acq (m : State) (t : Nat) (q : SeqDyn) (t₁ : Nat) : (m.setSeq t q).acq t₁ = m.acq t₁ := rfl
@[simp] theorem State.setSubst_acq (m : State) (t : Nat) (q : SubstDyn) (t₁ : Nat) : (m.setSubst t q).acq t₁ = m.acq t₁ := rfl
@[simp] theorem State.setTile_acq (m : State) (t : Nat) (q : TileDyn) (t₁ : Nat) : (m.setTile t q).acq t₁ = m.acq t₁ := rfl
@[simp] theorem State.setFn_acq (m : State) (f : Nat) (q : FnDyn) (t₁ : Nat) : (m.setFn f q).acq t₁ = m.acq t₁ := rfl
@[simp] theorem State.setCq_acq (m : State) (f n : Nat) (q : CmdQ) (t₁ : Nat) : (m.setCq f n q).acq t₁ = m.acq t₁ := rfl
@[simp] theorem State.setRq_acq (m : State) (f n : Nat) (q : ResQ) (t₁ : Nat) : (m.setRq f n q).acq t₁ = m.acq t₁ := rfl
@[simp] theorem State.setMsi_acq (m : State) (f : Nat) (v : Msi) (t₁ : Nat) : (m.setMsi f v).acq t₁ = m.acq t₁ := rfl
@[simp] theorem State.due_acq (m : State) (e : Nat) (t₁ : Nat) : (m.due e).acq t₁ = m.acq t₁ := rfl
@[simp] theorem State.drawn_acq (m : State) (t₁ : Nat) : (m.drawn).acq t₁ = m.acq t₁ := rfl

@[simp] theorem State.subst_setSubst (m : State) (t : Nat) (q : SubstDyn) : (m.setSubst t q).subst t = q := by
  simp [State.subst, State.setSubst]
theorem State.subst_setSubst_any (m : State) (t : Nat) (q : SubstDyn) (t' : Nat) :
    (m.setSubst t q).subst t' = if t' = t then q else m.subst t' := tabGet_tabSet _ _ _ _ _
@[simp] theorem State.w_subst (m : State) (p : Page) (f : Fld) (v : Nat) (t₁ : Nat) : (m.w p f v).subst t₁ = m.subst t₁ := rfl
@[simp] theorem State.setLane_subst (m : State) (t k : Nat) (d : LaneDyn) (t₁ : Nat) : (m.setLane t k d).subst t₁ = m.subst t₁ := rfl
@[simp] theorem State.setCtx_subst (m : State) (i : Nat) (c : Ctx) (t₁ : Nat) : (m.setCtx i c).subst t₁ = m.subst t₁ := rfl
@[simp] theorem State.setSeq_subst (m : State) (t : Nat) (q : SeqDyn) (t₁ : Nat) : (m.setSeq t q).subst t₁ = m.subst t₁ := rfl
@[simp] theorem State.setAcq_subst (m : State) (t : Nat) (q : AcqDyn) (t₁ : Nat) : (m.setAcq t q).subst t₁ = m.subst t₁ := rfl
@[simp] theorem State.setTile_subst (m : State) (t : Nat) (q : TileDyn) (t₁ : Nat) : (m.setTile t q).subst t₁ = m.subst t₁ := rfl
@[simp] theorem State.setFn_subst (m : State) (f : Nat) (q : FnDyn) (t₁ : Nat) : (m.setFn f q).subst t₁ = m.subst t₁ := rfl
@[simp] theorem State.setCq_subst (m : State) (f n : Nat) (q : CmdQ) (t₁ : Nat) : (m.setCq f n q).subst t₁ = m.subst t₁ := rfl
@[simp] theorem State.setRq_subst (m : State) (f n : Nat) (q : ResQ) (t₁ : Nat) : (m.setRq f n q).subst t₁ = m.subst t₁ := rfl
@[simp] theorem State.setMsi_subst (m : State) (f : Nat) (v : Msi) (t₁ : Nat) : (m.setMsi f v).subst t₁ = m.subst t₁ := rfl
@[simp] theorem State.due_subst (m : State) (e : Nat) (t₁ : Nat) : (m.due e).subst t₁ = m.subst t₁ := rfl
@[simp] theorem State.drawn_subst (m : State) (t₁ : Nat) : (m.drawn).subst t₁ = m.subst t₁ := rfl

@[simp] theorem State.tile_setTile (m : State) (t : Nat) (q : TileDyn) : (m.setTile t q).tile t = q := by
  simp [State.tile, State.setTile]
theorem State.tile_setTile_any (m : State) (t : Nat) (q : TileDyn) (t' : Nat) :
    (m.setTile t q).tile t' = if t' = t then q else m.tile t' := tabGet_tabSet _ _ _ _ _
@[simp] theorem State.w_tile (m : State) (p : Page) (f : Fld) (v : Nat) (t₁ : Nat) : (m.w p f v).tile t₁ = m.tile t₁ := rfl
@[simp] theorem State.setLane_tile (m : State) (t k : Nat) (d : LaneDyn) (t₁ : Nat) : (m.setLane t k d).tile t₁ = m.tile t₁ := rfl
@[simp] theorem State.setCtx_tile (m : State) (i : Nat) (c : Ctx) (t₁ : Nat) : (m.setCtx i c).tile t₁ = m.tile t₁ := rfl
@[simp] theorem State.setSeq_tile (m : State) (t : Nat) (q : SeqDyn) (t₁ : Nat) : (m.setSeq t q).tile t₁ = m.tile t₁ := rfl
@[simp] theorem State.setAcq_tile (m : State) (t : Nat) (q : AcqDyn) (t₁ : Nat) : (m.setAcq t q).tile t₁ = m.tile t₁ := rfl
@[simp] theorem State.setSubst_tile (m : State) (t : Nat) (q : SubstDyn) (t₁ : Nat) : (m.setSubst t q).tile t₁ = m.tile t₁ := rfl
@[simp] theorem State.setFn_tile (m : State) (f : Nat) (q : FnDyn) (t₁ : Nat) : (m.setFn f q).tile t₁ = m.tile t₁ := rfl
@[simp] theorem State.setCq_tile (m : State) (f n : Nat) (q : CmdQ) (t₁ : Nat) : (m.setCq f n q).tile t₁ = m.tile t₁ := rfl
@[simp] theorem State.setRq_tile (m : State) (f n : Nat) (q : ResQ) (t₁ : Nat) : (m.setRq f n q).tile t₁ = m.tile t₁ := rfl
@[simp] theorem State.setMsi_tile (m : State) (f : Nat) (v : Msi) (t₁ : Nat) : (m.setMsi f v).tile t₁ = m.tile t₁ := rfl
@[simp] theorem State.due_tile (m : State) (e : Nat) (t₁ : Nat) : (m.due e).tile t₁ = m.tile t₁ := rfl
@[simp] theorem State.drawn_tile (m : State) (t₁ : Nat) : (m.drawn).tile t₁ = m.tile t₁ := rfl

@[simp] theorem State.fn_setFn (m : State) (f : Nat) (q : FnDyn) : (m.setFn f q).fn f = q := by
  simp [State.fn, State.setFn]
theorem State.fn_setFn_any (m : State) (f : Nat) (q : FnDyn) (f' : Nat) :
    (m.setFn f q).fn f' = if f' = f then q else m.fn f' := tabGet_tabSet _ _ _ _ _
@[simp] theorem State.w_fn (m : State) (p : Page) (f : Fld) (v : Nat) (f₁ : Nat) : (m.w p f v).fn f₁ = m.fn f₁ := rfl
@[simp] theorem State.setLane_fn (m : State) (t k : Nat) (d : LaneDyn) (f₁ : Nat) : (m.setLane t k d).fn f₁ = m.fn f₁ := rfl
@[simp] theorem State.setCtx_fn (m : State) (i : Nat) (c : Ctx) (f₁ : Nat) : (m.setCtx i c).fn f₁ = m.fn f₁ := rfl
@[simp] theorem State.setSeq_fn (m : State) (t : Nat) (q : SeqDyn) (f₁ : Nat) : (m.setSeq t q).fn f₁ = m.fn f₁ := rfl
@[simp] theorem State.setAcq_fn (m : State) (t : Nat) (q : AcqDyn) (f₁ : Nat) : (m.setAcq t q).fn f₁ = m.fn f₁ := rfl
@[simp] theorem State.setSubst_fn (m : State) (t : Nat) (q : SubstDyn) (f₁ : Nat) : (m.setSubst t q).fn f₁ = m.fn f₁ := rfl
@[simp] theorem State.setTile_fn (m : State) (t : Nat) (q : TileDyn) (f₁ : Nat) : (m.setTile t q).fn f₁ = m.fn f₁ := rfl
@[simp] theorem State.setCq_fn (m : State) (f n : Nat) (q : CmdQ) (f₁ : Nat) : (m.setCq f n q).fn f₁ = m.fn f₁ := rfl
@[simp] theorem State.setRq_fn (m : State) (f n : Nat) (q : ResQ) (f₁ : Nat) : (m.setRq f n q).fn f₁ = m.fn f₁ := rfl
@[simp] theorem State.setMsi_fn (m : State) (f : Nat) (v : Msi) (f₁ : Nat) : (m.setMsi f v).fn f₁ = m.fn f₁ := rfl
@[simp] theorem State.due_fn (m : State) (e : Nat) (f₁ : Nat) : (m.due e).fn f₁ = m.fn f₁ := rfl
@[simp] theorem State.drawn_fn (m : State) (f₁ : Nat) : (m.drawn).fn f₁ = m.fn f₁ := rfl

@[simp] theorem State.cq_setCq (m : State) (f n : Nat) (q : CmdQ) : (m.setCq f n q).cq f n = q := by
  simp [State.cq, State.setCq]
theorem State.cq_setCq_any (m : State) (f n : Nat) (q : CmdQ) (f' n' : Nat) :
    (m.setCq f n q).cq f' n' = if f' * 8 + n' = f * 8 + n then q else m.cq f' n' := tabGet_tabSet _ _ _ _ _
@[simp] theorem State.w_cq (m : State) (p : Page) (f : Fld) (v : Nat) (f₁ n₁ : Nat) : (m.w p f v).cq f₁ n₁ = m.cq f₁ n₁ := rfl
@[simp] theorem State.setLane_cq (m : State) (t k : Nat) (d : LaneDyn) (f₁ n₁ : Nat) : (m.setLane t k d).cq f₁ n₁ = m.cq f₁ n₁ := rfl
@[simp] theorem State.setCtx_cq (m : State) (i : Nat) (c : Ctx) (f₁ n₁ : Nat) : (m.setCtx i c).cq f₁ n₁ = m.cq f₁ n₁ := rfl
@[simp] theorem State.setSeq_cq (m : State) (t : Nat) (q : SeqDyn) (f₁ n₁ : Nat) : (m.setSeq t q).cq f₁ n₁ = m.cq f₁ n₁ := rfl
@[simp] theorem State.setAcq_cq (m : State) (t : Nat) (q : AcqDyn) (f₁ n₁ : Nat) : (m.setAcq t q).cq f₁ n₁ = m.cq f₁ n₁ := rfl
@[simp] theorem State.setSubst_cq (m : State) (t : Nat) (q : SubstDyn) (f₁ n₁ : Nat) : (m.setSubst t q).cq f₁ n₁ = m.cq f₁ n₁ := rfl
@[simp] theorem State.setTile_cq (m : State) (t : Nat) (q : TileDyn) (f₁ n₁ : Nat) : (m.setTile t q).cq f₁ n₁ = m.cq f₁ n₁ := rfl
@[simp] theorem State.setFn_cq (m : State) (f : Nat) (q : FnDyn) (f₁ n₁ : Nat) : (m.setFn f q).cq f₁ n₁ = m.cq f₁ n₁ := rfl
@[simp] theorem State.setRq_cq (m : State) (f n : Nat) (q : ResQ) (f₁ n₁ : Nat) : (m.setRq f n q).cq f₁ n₁ = m.cq f₁ n₁ := rfl
@[simp] theorem State.setMsi_cq (m : State) (f : Nat) (v : Msi) (f₁ n₁ : Nat) : (m.setMsi f v).cq f₁ n₁ = m.cq f₁ n₁ := rfl
@[simp] theorem State.due_cq (m : State) (e : Nat) (f₁ n₁ : Nat) : (m.due e).cq f₁ n₁ = m.cq f₁ n₁ := rfl
@[simp] theorem State.drawn_cq (m : State) (f₁ n₁ : Nat) : (m.drawn).cq f₁ n₁ = m.cq f₁ n₁ := rfl

@[simp] theorem State.rq_setRq (m : State) (f n : Nat) (q : ResQ) : (m.setRq f n q).rq f n = q := by
  simp [State.rq, State.setRq]
theorem State.rq_setRq_any (m : State) (f n : Nat) (q : ResQ) (f' n' : Nat) :
    (m.setRq f n q).rq f' n' = if f' * 16 + n' = f * 16 + n then q else m.rq f' n' := tabGet_tabSet _ _ _ _ _
@[simp] theorem State.w_rq (m : State) (p : Page) (f : Fld) (v : Nat) (f₁ n₁ : Nat) : (m.w p f v).rq f₁ n₁ = m.rq f₁ n₁ := rfl
@[simp] theorem State.setLane_rq (m : State) (t k : Nat) (d : LaneDyn) (f₁ n₁ : Nat) : (m.setLane t k d).rq f₁ n₁ = m.rq f₁ n₁ := rfl
@[simp] theorem State.setCtx_rq (m : State) (i : Nat) (c : Ctx) (f₁ n₁ : Nat) : (m.setCtx i c).rq f₁ n₁ = m.rq f₁ n₁ := rfl
@[simp] theorem State.setSeq_rq (m : State) (t : Nat) (q : SeqDyn) (f₁ n₁ : Nat) : (m.setSeq t q).rq f₁ n₁ = m.rq f₁ n₁ := rfl
@[simp] theorem State.setAcq_rq (m : State) (t : Nat) (q : AcqDyn) (f₁ n₁ : Nat) : (m.setAcq t q).rq f₁ n₁ = m.rq f₁ n₁ := rfl
@[simp] theorem State.setSubst_rq (m : State) (t : Nat) (q : SubstDyn) (f₁ n₁ : Nat) : (m.setSubst t q).rq f₁ n₁ = m.rq f₁ n₁ := rfl
@[simp] theorem State.setTile_rq (m : State) (t : Nat) (q : TileDyn) (f₁ n₁ : Nat) : (m.setTile t q).rq f₁ n₁ = m.rq f₁ n₁ := rfl
@[simp] theorem State.setFn_rq (m : State) (f : Nat) (q : FnDyn) (f₁ n₁ : Nat) : (m.setFn f q).rq f₁ n₁ = m.rq f₁ n₁ := rfl
@[simp] theorem State.setCq_rq (m : State) (f n : Nat) (q : CmdQ) (f₁ n₁ : Nat) : (m.setCq f n q).rq f₁ n₁ = m.rq f₁ n₁ := rfl
@[simp] theorem State.setMsi_rq (m : State) (f : Nat) (v : Msi) (f₁ n₁ : Nat) : (m.setMsi f v).rq f₁ n₁ = m.rq f₁ n₁ := rfl
@[simp] theorem State.due_rq (m : State) (e : Nat) (f₁ n₁ : Nat) : (m.due e).rq f₁ n₁ = m.rq f₁ n₁ := rfl
@[simp] theorem State.drawn_rq (m : State) (f₁ n₁ : Nat) : (m.drawn).rq f₁ n₁ = m.rq f₁ n₁ := rfl

/-! Register reads after the other updates. -/

@[simp] theorem State.w_l (m : State) (p : Page) (f : Fld) (v : Nat) (x : Page) (y : Fld) : (m.w p f v).l x y = m.l x y := rfl
@[simp] theorem State.setLane_r (m : State) (t k : Nat) (d : LaneDyn) (x : Page) (y : Fld) : (m.setLane t k d).r x y = m.r x y := rfl
@[simp] theorem State.setLane_l (m : State) (t k : Nat) (d : LaneDyn) (x : Page) (y : Fld) : (m.setLane t k d).l x y = m.l x y := rfl
@[simp] theorem State.setCtx_r (m : State) (i : Nat) (c : Ctx) (x : Page) (y : Fld) : (m.setCtx i c).r x y = m.r x y := rfl
@[simp] theorem State.setCtx_l (m : State) (i : Nat) (c : Ctx) (x : Page) (y : Fld) : (m.setCtx i c).l x y = m.l x y := rfl
@[simp] theorem State.setSeq_r (m : State) (t : Nat) (q : SeqDyn) (x : Page) (y : Fld) : (m.setSeq t q).r x y = m.r x y := rfl
@[simp] theorem State.setSeq_l (m : State) (t : Nat) (q : SeqDyn) (x : Page) (y : Fld) : (m.setSeq t q).l x y = m.l x y := rfl
@[simp] theorem State.setAcq_r (m : State) (t : Nat) (q : AcqDyn) (x : Page) (y : Fld) : (m.setAcq t q).r x y = m.r x y := rfl
@[simp] theorem State.setAcq_l (m : State) (t : Nat) (q : AcqDyn) (x : Page) (y : Fld) : (m.setAcq t q).l x y = m.l x y := rfl
@[simp] theorem State.setSubst_r (m : State) (t : Nat) (q : SubstDyn) (x : Page) (y : Fld) : (m.setSubst t q).r x y = m.r x y := rfl
@[simp] theorem State.setSubst_l (m : State) (t : Nat) (q : SubstDyn) (x : Page) (y : Fld) : (m.setSubst t q).l x y = m.l x y := rfl
@[simp] theorem State.setTile_r (m : State) (t : Nat) (q : TileDyn) (x : Page) (y : Fld) : (m.setTile t q).r x y = m.r x y := rfl
@[simp] theorem State.setTile_l (m : State) (t : Nat) (q : TileDyn) (x : Page) (y : Fld) : (m.setTile t q).l x y = m.l x y := rfl
@[simp] theorem State.setFn_r (m : State) (f : Nat) (q : FnDyn) (x : Page) (y : Fld) : (m.setFn f q).r x y = m.r x y := rfl
@[simp] theorem State.setFn_l (m : State) (f : Nat) (q : FnDyn) (x : Page) (y : Fld) : (m.setFn f q).l x y = m.l x y := rfl
@[simp] theorem State.setCq_r (m : State) (f n : Nat) (q : CmdQ) (x : Page) (y : Fld) : (m.setCq f n q).r x y = m.r x y := rfl
@[simp] theorem State.setCq_l (m : State) (f n : Nat) (q : CmdQ) (x : Page) (y : Fld) : (m.setCq f n q).l x y = m.l x y := rfl
@[simp] theorem State.setRq_r (m : State) (f n : Nat) (q : ResQ) (x : Page) (y : Fld) : (m.setRq f n q).r x y = m.r x y := rfl
@[simp] theorem State.setRq_l (m : State) (f n : Nat) (q : ResQ) (x : Page) (y : Fld) : (m.setRq f n q).l x y = m.l x y := rfl
@[simp] theorem State.setMsi_r (m : State) (f : Nat) (v : Msi) (x : Page) (y : Fld) : (m.setMsi f v).r x y = m.r x y := rfl
@[simp] theorem State.setMsi_l (m : State) (f : Nat) (v : Msi) (x : Page) (y : Fld) : (m.setMsi f v).l x y = m.l x y := rfl
@[simp] theorem State.due_r (m : State) (e : Nat) (x : Page) (y : Fld) : (m.due e).r x y = m.r x y := rfl
@[simp] theorem State.due_l (m : State) (e : Nat) (x : Page) (y : Fld) : (m.due e).l x y = m.l x y := rfl
@[simp] theorem State.drawn_r (m : State) (x : Page) (y : Fld) : (m.drawn).r x y = m.r x y := rfl
@[simp] theorem State.drawn_l (m : State) (x : Page) (y : Fld) : (m.drawn).l x y = m.l x y := rfl

end Sys2Proof.Machine
end

