-- ==== Sys2Proof/Laws/Memory.lean ====
section
/-! SUPPORT. The byte memories of the model (the Archive of R242 and R243, and the bytes written into host memory): every operation
keeps the canonical form, and what a read gives after a write. -/

set_option Elab.async false

namespace Sys2Proof.Machine

/-- The canonical form: strictly rising addresses, and no byte that an unlisted address would read as. -/
theorem Memory.wf_iff (m : List Host.Cell) :
    Memory.wf m = true ↔ m.Pairwise (fun c d => c.1 < d.1) ∧ ∀ c ∈ m, c.2 ≠ 0 := by
  induction m with
  | nil => simp [Memory.wf]
  | cons c m ih =>
    cases m with
    | nil => simp [Memory.wf]
    | cons d m =>
      simp only [Memory.wf, Bool.and_eq_true, decide_eq_true_eq, bne_iff_ne, ih, List.pairwise_cons, List.mem_cons]
      constructor
      · rintro ⟨⟨h0, h1⟩, ⟨h2, h3⟩, h4⟩
        refine ⟨⟨?_, h2, h3⟩, ?_⟩
        · rintro e (rfl | he)
          · exact h1
          · exact Nat.lt_trans h1 (h2 e he)
        · rintro e (rfl | he)
          · exact h0
          · exact h4 e he
      · rintro ⟨⟨h1, h2, h3⟩, h4⟩
        exact ⟨⟨h4 c (.inl rfl), h1 d (.inl rfl)⟩, ⟨h2, h3⟩, fun e he => h4 e (.inr he)⟩

theorem Memory.wf_tail {c : Host.Cell} {m : List Host.Cell} (h : Memory.wf (c :: m) = true) : Memory.wf m = true := by
  rw [Memory.wf_iff] at h ⊢
  exact ⟨(List.pairwise_cons.mp h.1).2, fun d hd => h.2 d (List.mem_cons_of_mem _ hd)⟩

/-- An address below the first one listed reads as 0. -/
theorem memGet_low {m : List Host.Cell} {a : Nat} (h : ∀ c ∈ m, a < c.1) : memGet m a = 0 := by
  induction m with
  | nil => rfl
  | cons c m ih =>
    have hc := h c (List.mem_cons_self ..)
    have : ¬ c.1 = a := by omega
    simp [memGet, this, ih (fun d hd => h d (List.mem_cons_of_mem _ hd))]

/-- Every address that a set lists was listed before, or is the address set. -/
theorem mem_memSet {m : List Host.Cell} {a : Nat} {v : Byte} {c : Host.Cell} (h : c ∈ memSet m a v) :
    c ∈ m ∨ (c = (a, v) ∧ v ≠ 0) := by
  induction m with
  | nil =>
    simp only [memSet] at h
    split at h
    · cases h
    · next hv => exact .inr ⟨by simpa using h, hv⟩
  | cons d m ih =>
    obtain ⟨b, x⟩ := d
    simp only [memSet] at h
    split at h
    · split at h
      · exact .inl h
      · next hv =>
        rcases List.mem_cons.mp h with rfl | h
        · exact .inr ⟨rfl, hv⟩
        · exact .inl h
    · split at h
      · split at h
        · exact .inl (List.mem_cons_of_mem _ h)
        · next hv =>
          rcases List.mem_cons.mp h with rfl | h
          · exact .inr ⟨rfl, hv⟩
          · exact .inl (List.mem_cons_of_mem _ h)
      · rcases List.mem_cons.mp h with rfl | h
        · exact .inl (List.mem_cons_self ..)
        · rcases ih h with h | h
          · exact .inl (List.mem_cons_of_mem _ h)
          · exact .inr h

/-- A byte store keeps the canonical form. -/
theorem memSet_wf {m : List Host.Cell} (a : Nat) (v : Byte) (h : Memory.wf m = true) : Memory.wf (memSet m a v) = true := by
  induction m with
  | nil => simp only [memSet]; split <;> simp_all [Memory.wf]
  | cons d m ih =>
    obtain ⟨b, x⟩ := d
    have ht := Memory.wf_tail h
    rw [Memory.wf_iff] at h
    obtain ⟨hp, hz⟩ := h
    have hp' := List.pairwise_cons.mp hp
    simp only [memSet]
    split
    · next hab =>
      split
      · exact (Memory.wf_iff _).mpr ⟨hp, hz⟩
      · next hv =>
        refine (Memory.wf_iff _).mpr ⟨List.pairwise_cons.mpr ⟨?_, hp⟩, ?_⟩
        · intro c hc
          rcases List.mem_cons.mp hc with rfl | hc
          · exact hab
          · exact Nat.lt_trans hab (hp'.1 c hc)
        · intro c hc
          rcases List.mem_cons.mp hc with rfl | hc
          · exact hv
          · exact hz c hc
    · next hab =>
      split
      · next hb =>
        subst hb
        split
        · exact ht
        · next hv =>
          refine (Memory.wf_iff _).mpr ⟨List.pairwise_cons.mpr ⟨hp'.1, hp'.2⟩, ?_⟩
          intro c hc
          rcases List.mem_cons.mp hc with rfl | hc
          · exact hv
          · exact hz c (List.mem_cons_of_mem _ hc)
      · next hne =>
        have ih' := (Memory.wf_iff _).mp (ih ht)
        refine (Memory.wf_iff _).mpr ⟨List.pairwise_cons.mpr ⟨?_, ih'.1⟩, ?_⟩
        · intro c hc
          rcases mem_memSet hc with hc | ⟨rfl, _⟩
          · exact hp'.1 c hc
          · show b < a; omega
        · intro c hc
          rcases List.mem_cons.mp hc with rfl | hc
          · exact hz _ (List.mem_cons_self ..)
          · exact ih'.2 c hc

/-- A store of bytes keeps the canonical form. -/
theorem memStore_wf {m : List Host.Cell} (a : Nat) (bs : List Byte) (h : Memory.wf m = true) : Memory.wf (memStore m a bs) = true := by
  induction bs generalizing m a with
  | nil => exact h
  | cons b bs ih => exact ih (a + 1) (memSet_wf a b h)

/-- An erasure keeps the canonical form. -/
theorem memErase_wf {m : List Host.Cell} (a n : Nat) (h : Memory.wf m = true) : Memory.wf (memErase m a n) = true := by
  rw [Memory.wf_iff] at h ⊢
  exact ⟨h.1.filter _, fun c hc => h.2 c (List.mem_filter.mp hc).1⟩

/-- A byte store leaves every other address as it was. -/
theorem memGet_memSet_other (m : List Host.Cell) {a b : Nat} (v : Byte) (h : b ≠ a) : memGet (memSet m a v) b = memGet m b := by
  induction m with
  | nil => simp only [memSet]; split <;> simp [memGet, h.symm]
  | cons d m ih =>
    obtain ⟨c, x⟩ := d
    simp only [memSet]
    split
    · split <;> simp [memGet, h.symm]
    · split
      · next hc => subst hc; split <;> simp [memGet, h.symm]
      · simp [memGet, ih]

/-- The byte just stored reads back. -/
theorem memGet_memSet_same {m : List Host.Cell} (a : Nat) (v : Byte) (h : Memory.wf m = true) : memGet (memSet m a v) a = v := by
  induction m with
  | nil => simp only [memSet]; split <;> simp_all [memGet]
  | cons d m ih =>
    obtain ⟨c, x⟩ := d
    have ht := Memory.wf_tail h
    have hp := List.pairwise_cons.mp ((Memory.wf_iff _).mp h).1
    simp only [memSet]
    split
    · next hab =>
      split
      · next hv =>
        rw [hv]
        refine memGet_low fun e he => ?_
        rcases List.mem_cons.mp he with rfl | he
        · exact hab
        · exact Nat.lt_trans hab (hp.1 e he)
      · simp [memGet]
    · split
      · next hc =>
        subst hc
        split
        · next hv => rw [hv]; exact memGet_low fun e he => hp.1 e he
        · simp [memGet]
      · next hne => simp [memGet, Ne.symm hne, ih ht]

/-- A store of bytes leaves every address outside them as it was. -/
theorem memGet_memStore_other (m : List Host.Cell) {a b : Nat} (bs : List Byte) (h : b < a ∨ a + bs.length ≤ b) :
    memGet (memStore m a bs) b = memGet m b := by
  induction bs generalizing m a with
  | nil => rfl
  | cons x bs ih =>
    simp only [List.length_cons] at h
    rw [memStore, ih _ (by omega), memGet_memSet_other _ _ (by omega)]

/-- The bytes just stored read back. -/
theorem memGet_memStore_at {m : List Host.Cell} (a : Nat) (bs : List Byte) (i : Nat) (hi : i < bs.length) (h : Memory.wf m = true) :
    memGet (memStore m a bs) (a + i) = bs[i] := by
  induction bs generalizing m a i with
  | nil => simp at hi
  | cons x bs ih =>
    cases i with
    | zero => rw [memStore, memGet_memStore_other _ _ (by omega)]; exact memGet_memSet_same a x h
    | succ i =>
      have := ih (a + 1) i (by simpa using hi) (memSet_wf a x h)
      rw [memStore, show a + (i + 1) = a + 1 + i by omega, this]; rfl

/-- A load of the bytes just stored gives them. -/
theorem memLoad_memStore {m : List Host.Cell} (a : Nat) (bs : List Byte) (h : Memory.wf m = true) :
    memLoad (memStore m a bs) a bs.length = bs := by
  refine List.ext_getElem (by simp [memLoad]) fun i h1 h2 => ?_
  simp only [memLoad, List.getElem_map, List.getElem_range]
  exact memGet_memStore_at a bs i h2 h

/-- An erased range reads as zeros, and the rest as before. -/
theorem memGet_memErase (m : List Host.Cell) (a n b : Nat) :
    memGet (memErase m a n) b = if b < a ∨ a + n ≤ b then memGet m b else 0 := by
  induction m with
  | nil => simp [memErase, memGet]
  | cons c m ih =>
    obtain ⟨d, x⟩ := c
    have e : memErase ((d, x) :: m) a n = if d < a ∨ a + n ≤ d then (d, x) :: memErase m a n else memErase m a n := by
      simp only [memErase, List.filter_cons, Bool.or_eq_true, decide_eq_true_eq]
    rw [e]
    by_cases hd : d < a ∨ a + n ≤ d
    · rw [if_pos hd]
      simp only [memGet]
      by_cases hb : d = b
      · subst hb; simp [hd]
      · simp [hb, ih]
    · rw [if_neg hd, ih]
      by_cases hb : d = b
      · subst hb; simp [hd]
      · simp [memGet, hb]

/-- A write to the Archive keeps its canonical form. -/
theorem State.arcPut_wf (m : State) (a : Nat) (bs : List Byte) (h : Memory.wf m.arc = true) : Memory.wf (m.arcPut a bs).arc = true := by
  unfold State.arcPut
  dsimp only
  split
  · exact h
  · exact memStore_wf a bs h

/-- A page that becomes unwritten keeps the Archive's canonical form. -/
theorem State.arcClear_wf (m : State) (p n : Nat) (h : Memory.wf m.arc = true) : Memory.wf (m.arcClear p n).arc = true :=
  memErase_wf _ _ h

/-- Bytes outside a write to the Archive stay. -/
theorem State.arcPut_other (m : State) (a b : Nat) (bs : List Byte) (h : b < a ∨ a + bs.length ≤ b) :
    memGet (m.arcPut a bs).arc b = memGet m.arc b := by
  unfold State.arcPut
  dsimp only
  split
  · rfl
  · exact memGet_memStore_other _ _ h

/-- A read of what was just written to the Archive gives it. -/
theorem State.arcGet_arcPut (m : State) (a : Nat) (bs : List Byte) (h : Memory.wf m.arc = true) :
    (m.arcPut a bs).arcGet a bs.length = bs := by
  unfold State.arcPut
  dsimp only
  split
  · next h0 => simp [State.arcGet, memLoad, List.eq_nil_of_length_eq_zero h0]
  · exact memLoad_memStore a bs h

end Sys2Proof.Machine
end

