-- ==== Sys2Proof/Laws/Ops.lean ====
section
/-! SUPPORT. What each shared operation of `Machine/Ops.lean`, `LaneOps.lean` and `RunOps.lean` can change: for every field of State that
an operation leaves, one lemma, and for register fields what a read then gives. -/

set_option Elab.async false

namespace Sys2Proof.Machine

/-- A fold of updates leaves what every update leaves. -/
theorem foldl_keeps {α β : Type} (f : State → α → State) (g : State → β) (h : ∀ m x, g (f m x) = g m) (l : List α) (m : State) :
    g (l.foldl f m) = g m := by
  induction l generalizing m with
  | nil => rfl
  | cons x l ih => simp [List.foldl, ih, h]

/-- A fold of updates keeps a property that every update keeps. -/
theorem foldl_preserves {α : Type} (f : State → α → State) (P : State → Prop) (h : ∀ m x, P m → P (f m x)) (l : List α) (m : State)
    (hm : P m) : P (l.foldl f m) := by
  induction l generalizing m with
  | nil => exact hm
  | cons x l ih => exact ih _ (h m x hm)

@[simp] theorem State.message_pending (m : State) (k v : Nat) : (m.message k v).pending = m.pending := by
  unfold State.message; dsimp only; split
  · rfl
  · split <;> rfl
@[simp] theorem State.message_held (m : State) (k v : Nat) : (m.message k v).held = m.held := by
  unfold State.message; dsimp only; split
  · rfl
  · split <;> rfl
@[simp] theorem State.message_pace (m : State) (k v : Nat) : (m.message k v).pace = m.pace := by
  unfold State.message; dsimp only; split
  · rfl
  · split <;> rfl
@[simp] theorem State.message_freeCtr (m : State) (k v : Nat) : (m.message k v).freeCtr = m.freeCtr := by
  unfold State.message; dsimp only; split
  · rfl
  · split <;> rfl
@[simp] theorem State.message_variant (m : State) (k v : Nat) : (m.message k v).variant = m.variant := by
  unfold State.message; dsimp only; split
  · rfl
  · split <;> rfl
@[simp] theorem State.message_straps (m : State) (k v : Nat) : (m.message k v).straps = m.straps := by
  unfold State.message; dsimp only; split
  · rfl
  · split <;> rfl
@[simp] theorem State.message_profile (m : State) (k v : Nat) : (m.message k v).profile = m.profile := by
  unfold State.message; dsimp only; split
  · rfl
  · split <;> rfl
@[simp] theorem State.message_chainEnd (m : State) (k v : Nat) : (m.message k v).chainEnd = m.chainEnd := by
  unfold State.message; dsimp only; split
  · rfl
  · split <;> rfl
@[simp] theorem State.message_regs (m : State) (k v : Nat) : (m.message k v).regs = m.regs := by
  unfold State.message; dsimp only; split
  · rfl
  · split <;> rfl
@[simp] theorem State.message_lat (m : State) (k v : Nat) : (m.message k v).lat = m.lat := by
  unfold State.message; dsimp only; split
  · rfl
  · split <;> rfl
@[simp] theorem State.message_lanes (m : State) (k v : Nat) : (m.message k v).lanes = m.lanes := by
  unfold State.message; dsimp only; split
  · rfl
  · split <;> rfl
@[simp] theorem State.message_locks (m : State) (k v : Nat) : (m.message k v).locks = m.locks := by
  unfold State.message; dsimp only; split
  · rfl
  · split <;> rfl
@[simp] theorem State.message_ctxs (m : State) (k v : Nat) : (m.message k v).ctxs = m.ctxs := by
  unfold State.message; dsimp only; split
  · rfl
  · split <;> rfl
@[simp] theorem State.message_engOps (m : State) (k v : Nat) : (m.message k v).engOps = m.engOps := by
  unfold State.message; dsimp only; split
  · rfl
  · split <;> rfl
@[simp] theorem State.message_seqs (m : State) (k v : Nat) : (m.message k v).seqs = m.seqs := by
  unfold State.message; dsimp only; split
  · rfl
  · split <;> rfl
@[simp] theorem State.message_segTab (m : State) (k v : Nat) : (m.message k v).segTab = m.segTab := by
  unfold State.message; dsimp only; split
  · rfl
  · split <;> rfl
@[simp] theorem State.message_acqs (m : State) (k v : Nat) : (m.message k v).acqs = m.acqs := by
  unfold State.message; dsimp only; split
  · rfl
  · split <;> rfl
@[simp] theorem State.message_substs (m : State) (k v : Nat) : (m.message k v).substs = m.substs := by
  unfold State.message; dsimp only; split
  · rfl
  · split <;> rfl
@[simp] theorem State.message_tiles (m : State) (k v : Nat) : (m.message k v).tiles = m.tiles := by
  unfold State.message; dsimp only; split
  · rfl
  · split <;> rfl
@[simp] theorem State.message_flight (m : State) (k v : Nat) : (m.message k v).flight = m.flight := by
  unfold State.message; dsimp only; split
  · rfl
  · split <;> rfl
@[simp] theorem State.message_tscap (m : State) (k v : Nat) : (m.message k v).tscap = m.tscap := by
  unfold State.message; dsimp only; split
  · rfl
  · split <;> rfl
@[simp] theorem State.message_arc (m : State) (k v : Nat) : (m.message k v).arc = m.arc := by
  unfold State.message; dsimp only; split
  · rfl
  · split <;> rfl
@[simp] theorem State.message_written (m : State) (k v : Nat) : (m.message k v).written = m.written := by
  unfold State.message; dsimp only; split
  · rfl
  · split <;> rfl
@[simp] theorem State.message_poison (m : State) (k v : Nat) : (m.message k v).poison = m.poison := by
  unfold State.message; dsimp only; split
  · rfl
  · split <;> rfl
@[simp] theorem State.message_latent (m : State) (k v : Nat) : (m.message k v).latent = m.latent := by
  unfold State.message; dsimp only; split
  · rfl
  · split <;> rfl
@[simp] theorem State.message_fns (m : State) (k v : Nat) : (m.message k v).fns = m.fns := by
  unfold State.message; dsimp only; split
  · rfl
  · split <;> rfl
@[simp] theorem State.message_cqs (m : State) (k v : Nat) : (m.message k v).cqs = m.cqs := by
  unfold State.message; dsimp only; split
  · rfl
  · split <;> rfl
@[simp] theorem State.message_rqs (m : State) (k v : Nat) : (m.message k v).rqs = m.rqs := by
  unfold State.message; dsimp only; split
  · rfl
  · split <;> rfl
@[simp] theorem State.message_dmas (m : State) (k v : Nat) : (m.message k v).dmas = m.dmas := by
  unfold State.message; dsimp only; split
  · rfl
  · split <;> rfl
@[simp] theorem State.message_hostMem (m : State) (k v : Nat) : (m.message k v).hostMem = m.hostMem := by
  unfold State.message; dsimp only; split
  · rfl
  · split <;> rfl
@[simp] theorem State.message_cals (m : State) (k v : Nat) : (m.message k v).cals = m.cals := by
  unfold State.message; dsimp only; split
  · rfl
  · split <;> rfl
@[simp] theorem State.message_catalogue (m : State) (k v : Nat) : (m.message k v).catalogue = m.catalogue := by
  unfold State.message; dsimp only; split
  · rfl
  · split <;> rfl
@[simp] theorem State.message_nv (m : State) (k v : Nat) : (m.message k v).nv = m.nv := by
  unfold State.message; dsimp only; split
  · rfl
  · split <;> rfl
@[simp] theorem State.message_faultLog (m : State) (k v : Nat) : (m.message k v).faultLog = m.faultLog := by
  unfold State.message; dsimp only; split
  · rfl
  · split <;> rfl
@[simp] theorem State.message_pfRecs (m : State) (k v : Nat) : (m.message k v).pfRecs = m.pfRecs := by
  unfold State.message; dsimp only; split
  · rfl
  · split <;> rfl
@[simp] theorem State.message_wl (m : State) (k v : Nat) : (m.message k v).wl = m.wl := by
  unfold State.message; dsimp only; split
  · rfl
  · split <;> rfl
@[simp] theorem State.message_cur (m : State) (k v : Nat) : (m.message k v).cur = m.cur := by
  unfold State.message; dsimp only; split
  · rfl
  · split <;> rfl

/-! A message changes the count of messages and nothing else (R415). -/

@[simp] theorem signal_pending (b a : State) (p : Page) : (signal b a p).pending = a.pending := by
  unfold signal; exact foldl_keeps _ (·.pending) (fun m x => by split <;> simp) _ _
@[simp] theorem signal_held (b a : State) (p : Page) : (signal b a p).held = a.held := by
  unfold signal; exact foldl_keeps _ (·.held) (fun m x => by split <;> simp) _ _
@[simp] theorem signal_pace (b a : State) (p : Page) : (signal b a p).pace = a.pace := by
  unfold signal; exact foldl_keeps _ (·.pace) (fun m x => by split <;> simp) _ _
@[simp] theorem signal_freeCtr (b a : State) (p : Page) : (signal b a p).freeCtr = a.freeCtr := by
  unfold signal; exact foldl_keeps _ (·.freeCtr) (fun m x => by split <;> simp) _ _
@[simp] theorem signal_variant (b a : State) (p : Page) : (signal b a p).variant = a.variant := by
  unfold signal; exact foldl_keeps _ (·.variant) (fun m x => by split <;> simp) _ _
@[simp] theorem signal_straps (b a : State) (p : Page) : (signal b a p).straps = a.straps := by
  unfold signal; exact foldl_keeps _ (·.straps) (fun m x => by split <;> simp) _ _
@[simp] theorem signal_profile (b a : State) (p : Page) : (signal b a p).profile = a.profile := by
  unfold signal; exact foldl_keeps _ (·.profile) (fun m x => by split <;> simp) _ _
@[simp] theorem signal_chainEnd (b a : State) (p : Page) : (signal b a p).chainEnd = a.chainEnd := by
  unfold signal; exact foldl_keeps _ (·.chainEnd) (fun m x => by split <;> simp) _ _
@[simp] theorem signal_regs (b a : State) (p : Page) : (signal b a p).regs = a.regs := by
  unfold signal; exact foldl_keeps _ (·.regs) (fun m x => by split <;> simp) _ _
@[simp] theorem signal_lat (b a : State) (p : Page) : (signal b a p).lat = a.lat := by
  unfold signal; exact foldl_keeps _ (·.lat) (fun m x => by split <;> simp) _ _
@[simp] theorem signal_lanes (b a : State) (p : Page) : (signal b a p).lanes = a.lanes := by
  unfold signal; exact foldl_keeps _ (·.lanes) (fun m x => by split <;> simp) _ _
@[simp] theorem signal_locks (b a : State) (p : Page) : (signal b a p).locks = a.locks := by
  unfold signal; exact foldl_keeps _ (·.locks) (fun m x => by split <;> simp) _ _
@[simp] theorem signal_ctxs (b a : State) (p : Page) : (signal b a p).ctxs = a.ctxs := by
  unfold signal; exact foldl_keeps _ (·.ctxs) (fun m x => by split <;> simp) _ _
@[simp] theorem signal_engOps (b a : State) (p : Page) : (signal b a p).engOps = a.engOps := by
  unfold signal; exact foldl_keeps _ (·.engOps) (fun m x => by split <;> simp) _ _
@[simp] theorem signal_seqs (b a : State) (p : Page) : (signal b a p).seqs = a.seqs := by
  unfold signal; exact foldl_keeps _ (·.seqs) (fun m x => by split <;> simp) _ _
@[simp] theorem signal_segTab (b a : State) (p : Page) : (signal b a p).segTab = a.segTab := by
  unfold signal; exact foldl_keeps _ (·.segTab) (fun m x => by split <;> simp) _ _
@[simp] theorem signal_acqs (b a : State) (p : Page) : (signal b a p).acqs = a.acqs := by
  unfold signal; exact foldl_keeps _ (·.acqs) (fun m x => by split <;> simp) _ _
@[simp] theorem signal_substs (b a : State) (p : Page) : (signal b a p).substs = a.substs := by
  unfold signal; exact foldl_keeps _ (·.substs) (fun m x => by split <;> simp) _ _
@[simp] theorem signal_tiles (b a : State) (p : Page) : (signal b a p).tiles = a.tiles := by
  unfold signal; exact foldl_keeps _ (·.tiles) (fun m x => by split <;> simp) _ _
@[simp] theorem signal_flight (b a : State) (p : Page) : (signal b a p).flight = a.flight := by
  unfold signal; exact foldl_keeps _ (·.flight) (fun m x => by split <;> simp) _ _
@[simp] theorem signal_tscap (b a : State) (p : Page) : (signal b a p).tscap = a.tscap := by
  unfold signal; exact foldl_keeps _ (·.tscap) (fun m x => by split <;> simp) _ _
@[simp] theorem signal_arc (b a : State) (p : Page) : (signal b a p).arc = a.arc := by
  unfold signal; exact foldl_keeps _ (·.arc) (fun m x => by split <;> simp) _ _
@[simp] theorem signal_written (b a : State) (p : Page) : (signal b a p).written = a.written := by
  unfold signal; exact foldl_keeps _ (·.written) (fun m x => by split <;> simp) _ _
@[simp] theorem signal_poison (b a : State) (p : Page) : (signal b a p).poison = a.poison := by
  unfold signal; exact foldl_keeps _ (·.poison) (fun m x => by split <;> simp) _ _
@[simp] theorem signal_latent (b a : State) (p : Page) : (signal b a p).latent = a.latent := by
  unfold signal; exact foldl_keeps _ (·.latent) (fun m x => by split <;> simp) _ _
@[simp] theorem signal_fns (b a : State) (p : Page) : (signal b a p).fns = a.fns := by
  unfold signal; exact foldl_keeps _ (·.fns) (fun m x => by split <;> simp) _ _
@[simp] theorem signal_cqs (b a : State) (p : Page) : (signal b a p).cqs = a.cqs := by
  unfold signal; exact foldl_keeps _ (·.cqs) (fun m x => by split <;> simp) _ _
@[simp] theorem signal_rqs (b a : State) (p : Page) : (signal b a p).rqs = a.rqs := by
  unfold signal; exact foldl_keeps _ (·.rqs) (fun m x => by split <;> simp) _ _
@[simp] theorem signal_dmas (b a : State) (p : Page) : (signal b a p).dmas = a.dmas := by
  unfold signal; exact foldl_keeps _ (·.dmas) (fun m x => by split <;> simp) _ _
@[simp] theorem signal_hostMem (b a : State) (p : Page) : (signal b a p).hostMem = a.hostMem := by
  unfold signal; exact foldl_keeps _ (·.hostMem) (fun m x => by split <;> simp) _ _
@[simp] theorem signal_cals (b a : State) (p : Page) : (signal b a p).cals = a.cals := by
  unfold signal; exact foldl_keeps _ (·.cals) (fun m x => by split <;> simp) _ _
@[simp] theorem signal_catalogue (b a : State) (p : Page) : (signal b a p).catalogue = a.catalogue := by
  unfold signal; exact foldl_keeps _ (·.catalogue) (fun m x => by split <;> simp) _ _
@[simp] theorem signal_nv (b a : State) (p : Page) : (signal b a p).nv = a.nv := by
  unfold signal; exact foldl_keeps _ (·.nv) (fun m x => by split <;> simp) _ _
@[simp] theorem signal_faultLog (b a : State) (p : Page) : (signal b a p).faultLog = a.faultLog := by
  unfold signal; exact foldl_keeps _ (·.faultLog) (fun m x => by split <;> simp) _ _
@[simp] theorem signal_pfRecs (b a : State) (p : Page) : (signal b a p).pfRecs = a.pfRecs := by
  unfold signal; exact foldl_keeps _ (·.pfRecs) (fun m x => by split <;> simp) _ _
@[simp] theorem signal_wl (b a : State) (p : Page) : (signal b a p).wl = a.wl := by
  unfold signal; exact foldl_keeps _ (·.wl) (fun m x => by split <;> simp) _ _
@[simp] theorem signal_cur (b a : State) (p : Page) : (signal b a p).cur = a.cur := by
  unfold signal; exact foldl_keeps _ (·.cur) (fun m x => by split <;> simp) _ _

@[simp] theorem State.flag_pending (m : State) (p : Page) (f : Fld) : (m.flag p f).pending = m.pending := by simp [State.flag]
@[simp] theorem State.flag_held (m : State) (p : Page) (f : Fld) : (m.flag p f).held = m.held := by simp [State.flag]
@[simp] theorem State.flag_pace (m : State) (p : Page) (f : Fld) : (m.flag p f).pace = m.pace := by simp [State.flag]
@[simp] theorem State.flag_freeCtr (m : State) (p : Page) (f : Fld) : (m.flag p f).freeCtr = m.freeCtr := by simp [State.flag]
@[simp] theorem State.flag_variant (m : State) (p : Page) (f : Fld) : (m.flag p f).variant = m.variant := by simp [State.flag]
@[simp] theorem State.flag_straps (m : State) (p : Page) (f : Fld) : (m.flag p f).straps = m.straps := by simp [State.flag]
@[simp] theorem State.flag_profile (m : State) (p : Page) (f : Fld) : (m.flag p f).profile = m.profile := by simp [State.flag]
@[simp] theorem State.flag_chainEnd (m : State) (p : Page) (f : Fld) : (m.flag p f).chainEnd = m.chainEnd := by simp [State.flag]
@[simp] theorem State.flag_lat (m : State) (p : Page) (f : Fld) : (m.flag p f).lat = m.lat := by simp [State.flag]
@[simp] theorem State.flag_lanes (m : State) (p : Page) (f : Fld) : (m.flag p f).lanes = m.lanes := by simp [State.flag]
@[simp] theorem State.flag_locks (m : State) (p : Page) (f : Fld) : (m.flag p f).locks = m.locks := by simp [State.flag]
@[simp] theorem State.flag_ctxs (m : State) (p : Page) (f : Fld) : (m.flag p f).ctxs = m.ctxs := by simp [State.flag]
@[simp] theorem State.flag_engOps (m : State) (p : Page) (f : Fld) : (m.flag p f).engOps = m.engOps := by simp [State.flag]
@[simp] theorem State.flag_seqs (m : State) (p : Page) (f : Fld) : (m.flag p f).seqs = m.seqs := by simp [State.flag]
@[simp] theorem State.flag_segTab (m : State) (p : Page) (f : Fld) : (m.flag p f).segTab = m.segTab := by simp [State.flag]
@[simp] theorem State.flag_acqs (m : State) (p : Page) (f : Fld) : (m.flag p f).acqs = m.acqs := by simp [State.flag]
@[simp] theorem State.flag_substs (m : State) (p : Page) (f : Fld) : (m.flag p f).substs = m.substs := by simp [State.flag]
@[simp] theorem State.flag_tiles (m : State) (p : Page) (f : Fld) : (m.flag p f).tiles = m.tiles := by simp [State.flag]
@[simp] theorem State.flag_flight (m : State) (p : Page) (f : Fld) : (m.flag p f).flight = m.flight := by simp [State.flag]
@[simp] theorem State.flag_tscap (m : State) (p : Page) (f : Fld) : (m.flag p f).tscap = m.tscap := by simp [State.flag]
@[simp] theorem State.flag_arc (m : State) (p : Page) (f : Fld) : (m.flag p f).arc = m.arc := by simp [State.flag]
@[simp] theorem State.flag_written (m : State) (p : Page) (f : Fld) : (m.flag p f).written = m.written := by simp [State.flag]
@[simp] theorem State.flag_poison (m : State) (p : Page) (f : Fld) : (m.flag p f).poison = m.poison := by simp [State.flag]
@[simp] theorem State.flag_latent (m : State) (p : Page) (f : Fld) : (m.flag p f).latent = m.latent := by simp [State.flag]
@[simp] theorem State.flag_fns (m : State) (p : Page) (f : Fld) : (m.flag p f).fns = m.fns := by simp [State.flag]
@[simp] theorem State.flag_cqs (m : State) (p : Page) (f : Fld) : (m.flag p f).cqs = m.cqs := by simp [State.flag]
@[simp] theorem State.flag_rqs (m : State) (p : Page) (f : Fld) : (m.flag p f).rqs = m.rqs := by simp [State.flag]
@[simp] theorem State.flag_dmas (m : State) (p : Page) (f : Fld) : (m.flag p f).dmas = m.dmas := by simp [State.flag]
@[simp] theorem State.flag_hostMem (m : State) (p : Page) (f : Fld) : (m.flag p f).hostMem = m.hostMem := by simp [State.flag]
@[simp] theorem State.flag_cals (m : State) (p : Page) (f : Fld) : (m.flag p f).cals = m.cals := by simp [State.flag]
@[simp] theorem State.flag_catalogue (m : State) (p : Page) (f : Fld) : (m.flag p f).catalogue = m.catalogue := by simp [State.flag]
@[simp] theorem State.flag_nv (m : State) (p : Page) (f : Fld) : (m.flag p f).nv = m.nv := by simp [State.flag]
@[simp] theorem State.flag_faultLog (m : State) (p : Page) (f : Fld) : (m.flag p f).faultLog = m.faultLog := by simp [State.flag]
@[simp] theorem State.flag_pfRecs (m : State) (p : Page) (f : Fld) : (m.flag p f).pfRecs = m.pfRecs := by simp [State.flag]
@[simp] theorem State.flag_wl (m : State) (p : Page) (f : Fld) : (m.flag p f).wl = m.wl := by simp [State.flag]
@[simp] theorem State.flag_cur (m : State) (p : Page) (f : Fld) : (m.flag p f).cur = m.cur := by simp [State.flag]

@[simp] theorem State.flagBits_pending (m : State) (p : Page) (f : Fld) (b : Nat) : (m.flagBits p f b).pending = m.pending := by simp [State.flagBits]
@[simp] theorem State.flagBits_held (m : State) (p : Page) (f : Fld) (b : Nat) : (m.flagBits p f b).held = m.held := by simp [State.flagBits]
@[simp] theorem State.flagBits_pace (m : State) (p : Page) (f : Fld) (b : Nat) : (m.flagBits p f b).pace = m.pace := by simp [State.flagBits]
@[simp] theorem State.flagBits_freeCtr (m : State) (p : Page) (f : Fld) (b : Nat) : (m.flagBits p f b).freeCtr = m.freeCtr := by simp [State.flagBits]
@[simp] theorem State.flagBits_variant (m : State) (p : Page) (f : Fld) (b : Nat) : (m.flagBits p f b).variant = m.variant := by simp [State.flagBits]
@[simp] theorem State.flagBits_straps (m : State) (p : Page) (f : Fld) (b : Nat) : (m.flagBits p f b).straps = m.straps := by simp [State.flagBits]
@[simp] theorem State.flagBits_profile (m : State) (p : Page) (f : Fld) (b : Nat) : (m.flagBits p f b).profile = m.profile := by simp [State.flagBits]
@[simp] theorem State.flagBits_chainEnd (m : State) (p : Page) (f : Fld) (b : Nat) : (m.flagBits p f b).chainEnd = m.chainEnd := by simp [State.flagBits]
@[simp] theorem State.flagBits_lat (m : State) (p : Page) (f : Fld) (b : Nat) : (m.flagBits p f b).lat = m.lat := by simp [State.flagBits]
@[simp] theorem State.flagBits_lanes (m : State) (p : Page) (f : Fld) (b : Nat) : (m.flagBits p f b).lanes = m.lanes := by simp [State.flagBits]
@[simp] theorem State.flagBits_locks (m : State) (p : Page) (f : Fld) (b : Nat) : (m.flagBits p f b).locks = m.locks := by simp [State.flagBits]
@[simp] theorem State.flagBits_ctxs (m : State) (p : Page) (f : Fld) (b : Nat) : (m.flagBits p f b).ctxs = m.ctxs := by simp [State.flagBits]
@[simp] theorem State.flagBits_engOps (m : State) (p : Page) (f : Fld) (b : Nat) : (m.flagBits p f b).engOps = m.engOps := by simp [State.flagBits]
@[simp] theorem State.flagBits_seqs (m : State) (p : Page) (f : Fld) (b : Nat) : (m.flagBits p f b).seqs = m.seqs := by simp [State.flagBits]
@[simp] theorem State.flagBits_segTab (m : State) (p : Page) (f : Fld) (b : Nat) : (m.flagBits p f b).segTab = m.segTab := by simp [State.flagBits]
@[simp] theorem State.flagBits_acqs (m : State) (p : Page) (f : Fld) (b : Nat) : (m.flagBits p f b).acqs = m.acqs := by simp [State.flagBits]
@[simp] theorem State.flagBits_substs (m : State) (p : Page) (f : Fld) (b : Nat) : (m.flagBits p f b).substs = m.substs := by simp [State.flagBits]
@[simp] theorem State.flagBits_tiles (m : State) (p : Page) (f : Fld) (b : Nat) : (m.flagBits p f b).tiles = m.tiles := by simp [State.flagBits]
@[simp] theorem State.flagBits_flight (m : State) (p : Page) (f : Fld) (b : Nat) : (m.flagBits p f b).flight = m.flight := by simp [State.flagBits]
@[simp] theorem State.flagBits_tscap (m : State) (p : Page) (f : Fld) (b : Nat) : (m.flagBits p f b).tscap = m.tscap := by simp [State.flagBits]
@[simp] theorem State.flagBits_arc (m : State) (p : Page) (f : Fld) (b : Nat) : (m.flagBits p f b).arc = m.arc := by simp [State.flagBits]
@[simp] theorem State.flagBits_written (m : State) (p : Page) (f : Fld) (b : Nat) : (m.flagBits p f b).written = m.written := by simp [State.flagBits]
@[simp] theorem State.flagBits_poison (m : State) (p : Page) (f : Fld) (b : Nat) : (m.flagBits p f b).poison = m.poison := by simp [State.flagBits]
@[simp] theorem State.flagBits_latent (m : State) (p : Page) (f : Fld) (b : Nat) : (m.flagBits p f b).latent = m.latent := by simp [State.flagBits]
@[simp] theorem State.flagBits_fns (m : State) (p : Page) (f : Fld) (b : Nat) : (m.flagBits p f b).fns = m.fns := by simp [State.flagBits]
@[simp] theorem State.flagBits_cqs (m : State) (p : Page) (f : Fld) (b : Nat) : (m.flagBits p f b).cqs = m.cqs := by simp [State.flagBits]
@[simp] theorem State.flagBits_rqs (m : State) (p : Page) (f : Fld) (b : Nat) : (m.flagBits p f b).rqs = m.rqs := by simp [State.flagBits]
@[simp] theorem State.flagBits_dmas (m : State) (p : Page) (f : Fld) (b : Nat) : (m.flagBits p f b).dmas = m.dmas := by simp [State.flagBits]
@[simp] theorem State.flagBits_hostMem (m : State) (p : Page) (f : Fld) (b : Nat) : (m.flagBits p f b).hostMem = m.hostMem := by simp [State.flagBits]
@[simp] theorem State.flagBits_cals (m : State) (p : Page) (f : Fld) (b : Nat) : (m.flagBits p f b).cals = m.cals := by simp [State.flagBits]
@[simp] theorem State.flagBits_catalogue (m : State) (p : Page) (f : Fld) (b : Nat) : (m.flagBits p f b).catalogue = m.catalogue := by simp [State.flagBits]
@[simp] theorem State.flagBits_nv (m : State) (p : Page) (f : Fld) (b : Nat) : (m.flagBits p f b).nv = m.nv := by simp [State.flagBits]
@[simp] theorem State.flagBits_faultLog (m : State) (p : Page) (f : Fld) (b : Nat) : (m.flagBits p f b).faultLog = m.faultLog := by simp [State.flagBits]
@[simp] theorem State.flagBits_pfRecs (m : State) (p : Page) (f : Fld) (b : Nat) : (m.flagBits p f b).pfRecs = m.pfRecs := by simp [State.flagBits]
@[simp] theorem State.flagBits_wl (m : State) (p : Page) (f : Fld) (b : Nat) : (m.flagBits p f b).wl = m.wl := by simp [State.flagBits]
@[simp] theorem State.flagBits_cur (m : State) (p : Page) (f : Fld) (b : Nat) : (m.flagBits p f b).cur = m.cur := by simp [State.flagBits]

@[simp] theorem State.inc_pending (m : State) (p : Page) (f : Fld) : (m.inc p f).pending = m.pending := rfl
@[simp] theorem State.inc_held (m : State) (p : Page) (f : Fld) : (m.inc p f).held = m.held := rfl
@[simp] theorem State.inc_pace (m : State) (p : Page) (f : Fld) : (m.inc p f).pace = m.pace := rfl
@[simp] theorem State.inc_freeCtr (m : State) (p : Page) (f : Fld) : (m.inc p f).freeCtr = m.freeCtr := rfl
@[simp] theorem State.inc_variant (m : State) (p : Page) (f : Fld) : (m.inc p f).variant = m.variant := rfl
@[simp] theorem State.inc_straps (m : State) (p : Page) (f : Fld) : (m.inc p f).straps = m.straps := rfl
@[simp] theorem State.inc_profile (m : State) (p : Page) (f : Fld) : (m.inc p f).profile = m.profile := rfl
@[simp] theorem State.inc_chainEnd (m : State) (p : Page) (f : Fld) : (m.inc p f).chainEnd = m.chainEnd := rfl
@[simp] theorem State.inc_lat (m : State) (p : Page) (f : Fld) : (m.inc p f).lat = m.lat := rfl
@[simp] theorem State.inc_lanes (m : State) (p : Page) (f : Fld) : (m.inc p f).lanes = m.lanes := rfl
@[simp] theorem State.inc_locks (m : State) (p : Page) (f : Fld) : (m.inc p f).locks = m.locks := rfl
@[simp] theorem State.inc_ctxs (m : State) (p : Page) (f : Fld) : (m.inc p f).ctxs = m.ctxs := rfl
@[simp] theorem State.inc_engOps (m : State) (p : Page) (f : Fld) : (m.inc p f).engOps = m.engOps := rfl
@[simp] theorem State.inc_seqs (m : State) (p : Page) (f : Fld) : (m.inc p f).seqs = m.seqs := rfl
@[simp] theorem State.inc_segTab (m : State) (p : Page) (f : Fld) : (m.inc p f).segTab = m.segTab := rfl
@[simp] theorem State.inc_acqs (m : State) (p : Page) (f : Fld) : (m.inc p f).acqs = m.acqs := rfl
@[simp] theorem State.inc_substs (m : State) (p : Page) (f : Fld) : (m.inc p f).substs = m.substs := rfl
@[simp] theorem State.inc_tiles (m : State) (p : Page) (f : Fld) : (m.inc p f).tiles = m.tiles := rfl
@[simp] theorem State.inc_flight (m : State) (p : Page) (f : Fld) : (m.inc p f).flight = m.flight := rfl
@[simp] theorem State.inc_tscap (m : State) (p : Page) (f : Fld) : (m.inc p f).tscap = m.tscap := rfl
@[simp] theorem State.inc_arc (m : State) (p : Page) (f : Fld) : (m.inc p f).arc = m.arc := rfl
@[simp] theorem State.inc_written (m : State) (p : Page) (f : Fld) : (m.inc p f).written = m.written := rfl
@[simp] theorem State.inc_poison (m : State) (p : Page) (f : Fld) : (m.inc p f).poison = m.poison := rfl
@[simp] theorem State.inc_latent (m : State) (p : Page) (f : Fld) : (m.inc p f).latent = m.latent := rfl
@[simp] theorem State.inc_fns (m : State) (p : Page) (f : Fld) : (m.inc p f).fns = m.fns := rfl
@[simp] theorem State.inc_cqs (m : State) (p : Page) (f : Fld) : (m.inc p f).cqs = m.cqs := rfl
@[simp] theorem State.inc_rqs (m : State) (p : Page) (f : Fld) : (m.inc p f).rqs = m.rqs := rfl
@[simp] theorem State.inc_dmas (m : State) (p : Page) (f : Fld) : (m.inc p f).dmas = m.dmas := rfl
@[simp] theorem State.inc_hostMem (m : State) (p : Page) (f : Fld) : (m.inc p f).hostMem = m.hostMem := rfl
@[simp] theorem State.inc_msix (m : State) (p : Page) (f : Fld) : (m.inc p f).msix = m.msix := rfl
@[simp] theorem State.inc_cals (m : State) (p : Page) (f : Fld) : (m.inc p f).cals = m.cals := rfl
@[simp] theorem State.inc_catalogue (m : State) (p : Page) (f : Fld) : (m.inc p f).catalogue = m.catalogue := rfl
@[simp] theorem State.inc_nv (m : State) (p : Page) (f : Fld) : (m.inc p f).nv = m.nv := rfl
@[simp] theorem State.inc_faultLog (m : State) (p : Page) (f : Fld) : (m.inc p f).faultLog = m.faultLog := rfl
@[simp] theorem State.inc_pfRecs (m : State) (p : Page) (f : Fld) : (m.inc p f).pfRecs = m.pfRecs := rfl
@[simp] theorem State.inc_wl (m : State) (p : Page) (f : Fld) : (m.inc p f).wl = m.wl := rfl
@[simp] theorem State.inc_cur (m : State) (p : Page) (f : Fld) : (m.inc p f).cur = m.cur := rfl

@[simp] theorem State.incBy_pending (m : State) (p : Page) (f : Fld) (n : Nat) : (m.incBy p f n).pending = m.pending := rfl
@[simp] theorem State.incBy_held (m : State) (p : Page) (f : Fld) (n : Nat) : (m.incBy p f n).held = m.held := rfl
@[simp] theorem State.incBy_pace (m : State) (p : Page) (f : Fld) (n : Nat) : (m.incBy p f n).pace = m.pace := rfl
@[simp] theorem State.incBy_freeCtr (m : State) (p : Page) (f : Fld) (n : Nat) : (m.incBy p f n).freeCtr = m.freeCtr := rfl
@[simp] theorem State.incBy_variant (m : State) (p : Page) (f : Fld) (n : Nat) : (m.incBy p f n).variant = m.variant := rfl
@[simp] theorem State.incBy_straps (m : State) (p : Page) (f : Fld) (n : Nat) : (m.incBy p f n).straps = m.straps := rfl
@[simp] theorem State.incBy_profile (m : State) (p : Page) (f : Fld) (n : Nat) : (m.incBy p f n).profile = m.profile := rfl
@[simp] theorem State.incBy_chainEnd (m : State) (p : Page) (f : Fld) (n : Nat) : (m.incBy p f n).chainEnd = m.chainEnd := rfl
@[simp] theorem State.incBy_lat (m : State) (p : Page) (f : Fld) (n : Nat) : (m.incBy p f n).lat = m.lat := rfl
@[simp] theorem State.incBy_lanes (m : State) (p : Page) (f : Fld) (n : Nat) : (m.incBy p f n).lanes = m.lanes := rfl
@[simp] theorem State.incBy_locks (m : State) (p : Page) (f : Fld) (n : Nat) : (m.incBy p f n).locks = m.locks := rfl
@[simp] theorem State.incBy_ctxs (m : State) (p : Page) (f : Fld) (n : Nat) : (m.incBy p f n).ctxs = m.ctxs := rfl
@[simp] theorem State.incBy_engOps (m : State) (p : Page) (f : Fld) (n : Nat) : (m.incBy p f n).engOps = m.engOps := rfl
@[simp] theorem State.incBy_seqs (m : State) (p : Page) (f : Fld) (n : Nat) : (m.incBy p f n).seqs = m.seqs := rfl
@[simp] theorem State.incBy_segTab (m : State) (p : Page) (f : Fld) (n : Nat) : (m.incBy p f n).segTab = m.segTab := rfl
@[simp] theorem State.incBy_acqs (m : State) (p : Page) (f : Fld) (n : Nat) : (m.incBy p f n).acqs = m.acqs := rfl
@[simp] theorem State.incBy_substs (m : State) (p : Page) (f : Fld) (n : Nat) : (m.incBy p f n).substs = m.substs := rfl
@[simp] theorem State.incBy_tiles (m : State) (p : Page) (f : Fld) (n : Nat) : (m.incBy p f n).tiles = m.tiles := rfl
@[simp] theorem State.incBy_flight (m : State) (p : Page) (f : Fld) (n : Nat) : (m.incBy p f n).flight = m.flight := rfl
@[simp] theorem State.incBy_tscap (m : State) (p : Page) (f : Fld) (n : Nat) : (m.incBy p f n).tscap = m.tscap := rfl
@[simp] theorem State.incBy_arc (m : State) (p : Page) (f : Fld) (n : Nat) : (m.incBy p f n).arc = m.arc := rfl
@[simp] theorem State.incBy_written (m : State) (p : Page) (f : Fld) (n : Nat) : (m.incBy p f n).written = m.written := rfl
@[simp] theorem State.incBy_poison (m : State) (p : Page) (f : Fld) (n : Nat) : (m.incBy p f n).poison = m.poison := rfl
@[simp] theorem State.incBy_latent (m : State) (p : Page) (f : Fld) (n : Nat) : (m.incBy p f n).latent = m.latent := rfl
@[simp] theorem State.incBy_fns (m : State) (p : Page) (f : Fld) (n : Nat) : (m.incBy p f n).fns = m.fns := rfl
@[simp] theorem State.incBy_cqs (m : State) (p : Page) (f : Fld) (n : Nat) : (m.incBy p f n).cqs = m.cqs := rfl
@[simp] theorem State.incBy_rqs (m : State) (p : Page) (f : Fld) (n : Nat) : (m.incBy p f n).rqs = m.rqs := rfl
@[simp] theorem State.incBy_dmas (m : State) (p : Page) (f : Fld) (n : Nat) : (m.incBy p f n).dmas = m.dmas := rfl
@[simp] theorem State.incBy_hostMem (m : State) (p : Page) (f : Fld) (n : Nat) : (m.incBy p f n).hostMem = m.hostMem := rfl
@[simp] theorem State.incBy_msix (m : State) (p : Page) (f : Fld) (n : Nat) : (m.incBy p f n).msix = m.msix := rfl
@[simp] theorem State.incBy_cals (m : State) (p : Page) (f : Fld) (n : Nat) : (m.incBy p f n).cals = m.cals := rfl
@[simp] theorem State.incBy_catalogue (m : State) (p : Page) (f : Fld) (n : Nat) : (m.incBy p f n).catalogue = m.catalogue := rfl
@[simp] theorem State.incBy_nv (m : State) (p : Page) (f : Fld) (n : Nat) : (m.incBy p f n).nv = m.nv := rfl
@[simp] theorem State.incBy_faultLog (m : State) (p : Page) (f : Fld) (n : Nat) : (m.incBy p f n).faultLog = m.faultLog := rfl
@[simp] theorem State.incBy_pfRecs (m : State) (p : Page) (f : Fld) (n : Nat) : (m.incBy p f n).pfRecs = m.pfRecs := rfl
@[simp] theorem State.incBy_wl (m : State) (p : Page) (f : Fld) (n : Nat) : (m.incBy p f n).wl = m.wl := rfl
@[simp] theorem State.incBy_cur (m : State) (p : Page) (f : Fld) (n : Nat) : (m.incBy p f n).cur = m.cur := rfl

@[simp] theorem State.incSat_pending (m : State) (p : Page) (f : Fld) : (m.incSat p f).pending = m.pending := rfl
@[simp] theorem State.incSat_held (m : State) (p : Page) (f : Fld) : (m.incSat p f).held = m.held := rfl
@[simp] theorem State.incSat_pace (m : State) (p : Page) (f : Fld) : (m.incSat p f).pace = m.pace := rfl
@[simp] theorem State.incSat_freeCtr (m : State) (p : Page) (f : Fld) : (m.incSat p f).freeCtr = m.freeCtr := rfl
@[simp] theorem State.incSat_variant (m : State) (p : Page) (f : Fld) : (m.incSat p f).variant = m.variant := rfl
@[simp] theorem State.incSat_straps (m : State) (p : Page) (f : Fld) : (m.incSat p f).straps = m.straps := rfl
@[simp] theorem State.incSat_profile (m : State) (p : Page) (f : Fld) : (m.incSat p f).profile = m.profile := rfl
@[simp] theorem State.incSat_chainEnd (m : State) (p : Page) (f : Fld) : (m.incSat p f).chainEnd = m.chainEnd := rfl
@[simp] theorem State.incSat_lat (m : State) (p : Page) (f : Fld) : (m.incSat p f).lat = m.lat := rfl
@[simp] theorem State.incSat_lanes (m : State) (p : Page) (f : Fld) : (m.incSat p f).lanes = m.lanes := rfl
@[simp] theorem State.incSat_locks (m : State) (p : Page) (f : Fld) : (m.incSat p f).locks = m.locks := rfl
@[simp] theorem State.incSat_ctxs (m : State) (p : Page) (f : Fld) : (m.incSat p f).ctxs = m.ctxs := rfl
@[simp] theorem State.incSat_engOps (m : State) (p : Page) (f : Fld) : (m.incSat p f).engOps = m.engOps := rfl
@[simp] theorem State.incSat_seqs (m : State) (p : Page) (f : Fld) : (m.incSat p f).seqs = m.seqs := rfl
@[simp] theorem State.incSat_segTab (m : State) (p : Page) (f : Fld) : (m.incSat p f).segTab = m.segTab := rfl
@[simp] theorem State.incSat_acqs (m : State) (p : Page) (f : Fld) : (m.incSat p f).acqs = m.acqs := rfl
@[simp] theorem State.incSat_substs (m : State) (p : Page) (f : Fld) : (m.incSat p f).substs = m.substs := rfl
@[simp] theorem State.incSat_tiles (m : State) (p : Page) (f : Fld) : (m.incSat p f).tiles = m.tiles := rfl
@[simp] theorem State.incSat_flight (m : State) (p : Page) (f : Fld) : (m.incSat p f).flight = m.flight := rfl
@[simp] theorem State.incSat_tscap (m : State) (p : Page) (f : Fld) : (m.incSat p f).tscap = m.tscap := rfl
@[simp] theorem State.incSat_arc (m : State) (p : Page) (f : Fld) : (m.incSat p f).arc = m.arc := rfl
@[simp] theorem State.incSat_written (m : State) (p : Page) (f : Fld) : (m.incSat p f).written = m.written := rfl
@[simp] theorem State.incSat_poison (m : State) (p : Page) (f : Fld) : (m.incSat p f).poison = m.poison := rfl
@[simp] theorem State.incSat_latent (m : State) (p : Page) (f : Fld) : (m.incSat p f).latent = m.latent := rfl
@[simp] theorem State.incSat_fns (m : State) (p : Page) (f : Fld) : (m.incSat p f).fns = m.fns := rfl
@[simp] theorem State.incSat_cqs (m : State) (p : Page) (f : Fld) : (m.incSat p f).cqs = m.cqs := rfl
@[simp] theorem State.incSat_rqs (m : State) (p : Page) (f : Fld) : (m.incSat p f).rqs = m.rqs := rfl
@[simp] theorem State.incSat_dmas (m : State) (p : Page) (f : Fld) : (m.incSat p f).dmas = m.dmas := rfl
@[simp] theorem State.incSat_hostMem (m : State) (p : Page) (f : Fld) : (m.incSat p f).hostMem = m.hostMem := rfl
@[simp] theorem State.incSat_msix (m : State) (p : Page) (f : Fld) : (m.incSat p f).msix = m.msix := rfl
@[simp] theorem State.incSat_cals (m : State) (p : Page) (f : Fld) : (m.incSat p f).cals = m.cals := rfl
@[simp] theorem State.incSat_catalogue (m : State) (p : Page) (f : Fld) : (m.incSat p f).catalogue = m.catalogue := rfl
@[simp] theorem State.incSat_nv (m : State) (p : Page) (f : Fld) : (m.incSat p f).nv = m.nv := rfl
@[simp] theorem State.incSat_faultLog (m : State) (p : Page) (f : Fld) : (m.incSat p f).faultLog = m.faultLog := rfl
@[simp] theorem State.incSat_pfRecs (m : State) (p : Page) (f : Fld) : (m.incSat p f).pfRecs = m.pfRecs := rfl
@[simp] theorem State.incSat_wl (m : State) (p : Page) (f : Fld) : (m.incSat p f).wl = m.wl := rfl
@[simp] theorem State.incSat_cur (m : State) (p : Page) (f : Fld) : (m.incSat p f).cur = m.cur := rfl

@[simp] theorem State.rstFld_pending (m : State) (p : Page) (f : Fld) : (m.rstFld p f).pending = m.pending := rfl
@[simp] theorem State.rstFld_held (m : State) (p : Page) (f : Fld) : (m.rstFld p f).held = m.held := rfl
@[simp] theorem State.rstFld_pace (m : State) (p : Page) (f : Fld) : (m.rstFld p f).pace = m.pace := rfl
@[simp] theorem State.rstFld_freeCtr (m : State) (p : Page) (f : Fld) : (m.rstFld p f).freeCtr = m.freeCtr := rfl
@[simp] theorem State.rstFld_variant (m : State) (p : Page) (f : Fld) : (m.rstFld p f).variant = m.variant := rfl
@[simp] theorem State.rstFld_straps (m : State) (p : Page) (f : Fld) : (m.rstFld p f).straps = m.straps := rfl
@[simp] theorem State.rstFld_profile (m : State) (p : Page) (f : Fld) : (m.rstFld p f).profile = m.profile := rfl
@[simp] theorem State.rstFld_chainEnd (m : State) (p : Page) (f : Fld) : (m.rstFld p f).chainEnd = m.chainEnd := rfl
@[simp] theorem State.rstFld_lat (m : State) (p : Page) (f : Fld) : (m.rstFld p f).lat = m.lat := rfl
@[simp] theorem State.rstFld_lanes (m : State) (p : Page) (f : Fld) : (m.rstFld p f).lanes = m.lanes := rfl
@[simp] theorem State.rstFld_locks (m : State) (p : Page) (f : Fld) : (m.rstFld p f).locks = m.locks := rfl
@[simp] theorem State.rstFld_ctxs (m : State) (p : Page) (f : Fld) : (m.rstFld p f).ctxs = m.ctxs := rfl
@[simp] theorem State.rstFld_engOps (m : State) (p : Page) (f : Fld) : (m.rstFld p f).engOps = m.engOps := rfl
@[simp] theorem State.rstFld_seqs (m : State) (p : Page) (f : Fld) : (m.rstFld p f).seqs = m.seqs := rfl
@[simp] theorem State.rstFld_segTab (m : State) (p : Page) (f : Fld) : (m.rstFld p f).segTab = m.segTab := rfl
@[simp] theorem State.rstFld_acqs (m : State) (p : Page) (f : Fld) : (m.rstFld p f).acqs = m.acqs := rfl
@[simp] theorem State.rstFld_substs (m : State) (p : Page) (f : Fld) : (m.rstFld p f).substs = m.substs := rfl
@[simp] theorem State.rstFld_tiles (m : State) (p : Page) (f : Fld) : (m.rstFld p f).tiles = m.tiles := rfl
@[simp] theorem State.rstFld_flight (m : State) (p : Page) (f : Fld) : (m.rstFld p f).flight = m.flight := rfl
@[simp] theorem State.rstFld_tscap (m : State) (p : Page) (f : Fld) : (m.rstFld p f).tscap = m.tscap := rfl
@[simp] theorem State.rstFld_arc (m : State) (p : Page) (f : Fld) : (m.rstFld p f).arc = m.arc := rfl
@[simp] theorem State.rstFld_written (m : State) (p : Page) (f : Fld) : (m.rstFld p f).written = m.written := rfl
@[simp] theorem State.rstFld_poison (m : State) (p : Page) (f : Fld) : (m.rstFld p f).poison = m.poison := rfl
@[simp] theorem State.rstFld_latent (m : State) (p : Page) (f : Fld) : (m.rstFld p f).latent = m.latent := rfl
@[simp] theorem State.rstFld_fns (m : State) (p : Page) (f : Fld) : (m.rstFld p f).fns = m.fns := rfl
@[simp] theorem State.rstFld_cqs (m : State) (p : Page) (f : Fld) : (m.rstFld p f).cqs = m.cqs := rfl
@[simp] theorem State.rstFld_rqs (m : State) (p : Page) (f : Fld) : (m.rstFld p f).rqs = m.rqs := rfl
@[simp] theorem State.rstFld_dmas (m : State) (p : Page) (f : Fld) : (m.rstFld p f).dmas = m.dmas := rfl
@[simp] theorem State.rstFld_hostMem (m : State) (p : Page) (f : Fld) : (m.rstFld p f).hostMem = m.hostMem := rfl
@[simp] theorem State.rstFld_msix (m : State) (p : Page) (f : Fld) : (m.rstFld p f).msix = m.msix := rfl
@[simp] theorem State.rstFld_cals (m : State) (p : Page) (f : Fld) : (m.rstFld p f).cals = m.cals := rfl
@[simp] theorem State.rstFld_catalogue (m : State) (p : Page) (f : Fld) : (m.rstFld p f).catalogue = m.catalogue := rfl
@[simp] theorem State.rstFld_nv (m : State) (p : Page) (f : Fld) : (m.rstFld p f).nv = m.nv := rfl
@[simp] theorem State.rstFld_faultLog (m : State) (p : Page) (f : Fld) : (m.rstFld p f).faultLog = m.faultLog := rfl
@[simp] theorem State.rstFld_pfRecs (m : State) (p : Page) (f : Fld) : (m.rstFld p f).pfRecs = m.pfRecs := rfl
@[simp] theorem State.rstFld_wl (m : State) (p : Page) (f : Fld) : (m.rstFld p f).wl = m.wl := rfl
@[simp] theorem State.rstFld_cur (m : State) (p : Page) (f : Fld) : (m.rstFld p f).cur = m.cur := rfl

@[simp] theorem State.ws_pending (m : State) (p : Page) (l : List (Fld × Nat)) : (m.ws p l).pending = m.pending := by
  induction l generalizing m with
  | nil => rfl
  | cons x l ih => simp [State.ws, ih]
@[simp] theorem State.ws_held (m : State) (p : Page) (l : List (Fld × Nat)) : (m.ws p l).held = m.held := by
  induction l generalizing m with
  | nil => rfl
  | cons x l ih => simp [State.ws, ih]
@[simp] theorem State.ws_pace (m : State) (p : Page) (l : List (Fld × Nat)) : (m.ws p l).pace = m.pace := by
  induction l generalizing m with
  | nil => rfl
  | cons x l ih => simp [State.ws, ih]
@[simp] theorem State.ws_freeCtr (m : State) (p : Page) (l : List (Fld × Nat)) : (m.ws p l).freeCtr = m.freeCtr := by
  induction l generalizing m with
  | nil => rfl
  | cons x l ih => simp [State.ws, ih]
@[simp] theorem State.ws_variant (m : State) (p : Page) (l : List (Fld × Nat)) : (m.ws p l).variant = m.variant := by
  induction l generalizing m with
  | nil => rfl
  | cons x l ih => simp [State.ws, ih]
@[simp] theorem State.ws_straps (m : State) (p : Page) (l : List (Fld × Nat)) : (m.ws p l).straps = m.straps := by
  induction l generalizing m with
  | nil => rfl
  | cons x l ih => simp [State.ws, ih]
@[simp] theorem State.ws_profile (m : State) (p : Page) (l : List (Fld × Nat)) : (m.ws p l).profile = m.profile := by
  induction l generalizing m with
  | nil => rfl
  | cons x l ih => simp [State.ws, ih]
@[simp] theorem State.ws_chainEnd (m : State) (p : Page) (l : List (Fld × Nat)) : (m.ws p l).chainEnd = m.chainEnd := by
  induction l generalizing m with
  | nil => rfl
  | cons x l ih => simp [State.ws, ih]
@[simp] theorem State.ws_lat (m : State) (p : Page) (l : List (Fld × Nat)) : (m.ws p l).lat = m.lat := by
  induction l generalizing m with
  | nil => rfl
  | cons x l ih => simp [State.ws, ih]
@[simp] theorem State.ws_lanes (m : State) (p : Page) (l : List (Fld × Nat)) : (m.ws p l).lanes = m.lanes := by
  induction l generalizing m with
  | nil => rfl
  | cons x l ih => simp [State.ws, ih]
@[simp] theorem State.ws_locks (m : State) (p : Page) (l : List (Fld × Nat)) : (m.ws p l).locks = m.locks := by
  induction l generalizing m with
  | nil => rfl
  | cons x l ih => simp [State.ws, ih]
@[simp] theorem State.ws_ctxs (m : State) (p : Page) (l : List (Fld × Nat)) : (m.ws p l).ctxs = m.ctxs := by
  induction l generalizing m with
  | nil => rfl
  | cons x l ih => simp [State.ws, ih]
@[simp] theorem State.ws_engOps (m : State) (p : Page) (l : List (Fld × Nat)) : (m.ws p l).engOps = m.engOps := by
  induction l generalizing m with
  | nil => rfl
  | cons x l ih => simp [State.ws, ih]
@[simp] theorem State.ws_seqs (m : State) (p : Page) (l : List (Fld × Nat)) : (m.ws p l).seqs = m.seqs := by
  induction l generalizing m with
  | nil => rfl
  | cons x l ih => simp [State.ws, ih]
@[simp] theorem State.ws_segTab (m : State) (p : Page) (l : List (Fld × Nat)) : (m.ws p l).segTab = m.segTab := by
  induction l generalizing m with
  | nil => rfl
  | cons x l ih => simp [State.ws, ih]
@[simp] theorem State.ws_acqs (m : State) (p : Page) (l : List (Fld × Nat)) : (m.ws p l).acqs = m.acqs := by
  induction l generalizing m with
  | nil => rfl
  | cons x l ih => simp [State.ws, ih]
@[simp] theorem State.ws_substs (m : State) (p : Page) (l : List (Fld × Nat)) : (m.ws p l).substs = m.substs := by
  induction l generalizing m with
  | nil => rfl
  | cons x l ih => simp [State.ws, ih]
@[simp] theorem State.ws_tiles (m : State) (p : Page) (l : List (Fld × Nat)) : (m.ws p l).tiles = m.tiles := by
  induction l generalizing m with
  | nil => rfl
  | cons x l ih => simp [State.ws, ih]
@[simp] theorem State.ws_flight (m : State) (p : Page) (l : List (Fld × Nat)) : (m.ws p l).flight = m.flight := by
  induction l generalizing m with
  | nil => rfl
  | cons x l ih => simp [State.ws, ih]
@[simp] theorem State.ws_tscap (m : State) (p : Page) (l : List (Fld × Nat)) : (m.ws p l).tscap = m.tscap := by
  induction l generalizing m with
  | nil => rfl
  | cons x l ih => simp [State.ws, ih]
@[simp] theorem State.ws_arc (m : State) (p : Page) (l : List (Fld × Nat)) : (m.ws p l).arc = m.arc := by
  induction l generalizing m with
  | nil => rfl
  | cons x l ih => simp [State.ws, ih]
@[simp] theorem State.ws_written (m : State) (p : Page) (l : List (Fld × Nat)) : (m.ws p l).written = m.written := by
  induction l generalizing m with
  | nil => rfl
  | cons x l ih => simp [State.ws, ih]
@[simp] theorem State.ws_poison (m : State) (p : Page) (l : List (Fld × Nat)) : (m.ws p l).poison = m.poison := by
  induction l generalizing m with
  | nil => rfl
  | cons x l ih => simp [State.ws, ih]
@[simp] theorem State.ws_latent (m : State) (p : Page) (l : List (Fld × Nat)) : (m.ws p l).latent = m.latent := by
  induction l generalizing m with
  | nil => rfl
  | cons x l ih => simp [State.ws, ih]
@[simp] theorem State.ws_fns (m : State) (p : Page) (l : List (Fld × Nat)) : (m.ws p l).fns = m.fns := by
  induction l generalizing m with
  | nil => rfl
  | cons x l ih => simp [State.ws, ih]
@[simp] theorem State.ws_cqs (m : State) (p : Page) (l : List (Fld × Nat)) : (m.ws p l).cqs = m.cqs := by
  induction l generalizing m with
  | nil => rfl
  | cons x l ih => simp [State.ws, ih]
@[simp] theorem State.ws_rqs (m : State) (p : Page) (l : List (Fld × Nat)) : (m.ws p l).rqs = m.rqs := by
  induction l generalizing m with
  | nil => rfl
  | cons x l ih => simp [State.ws, ih]
@[simp] theorem State.ws_dmas (m : State) (p : Page) (l : List (Fld × Nat)) : (m.ws p l).dmas = m.dmas := by
  induction l generalizing m with
  | nil => rfl
  | cons x l ih => simp [State.ws, ih]
@[simp] theorem State.ws_hostMem (m : State) (p : Page) (l : List (Fld × Nat)) : (m.ws p l).hostMem = m.hostMem := by
  induction l generalizing m with
  | nil => rfl
  | cons x l ih => simp [State.ws, ih]
@[simp] theorem State.ws_msix (m : State) (p : Page) (l : List (Fld × Nat)) : (m.ws p l).msix = m.msix := by
  induction l generalizing m with
  | nil => rfl
  | cons x l ih => simp [State.ws, ih]
@[simp] theorem State.ws_cals (m : State) (p : Page) (l : List (Fld × Nat)) : (m.ws p l).cals = m.cals := by
  induction l generalizing m with
  | nil => rfl
  | cons x l ih => simp [State.ws, ih]
@[simp] theorem State.ws_catalogue (m : State) (p : Page) (l : List (Fld × Nat)) : (m.ws p l).catalogue = m.catalogue := by
  induction l generalizing m with
  | nil => rfl
  | cons x l ih => simp [State.ws, ih]
@[simp] theorem State.ws_nv (m : State) (p : Page) (l : List (Fld × Nat)) : (m.ws p l).nv = m.nv := by
  induction l generalizing m with
  | nil => rfl
  | cons x l ih => simp [State.ws, ih]
@[simp] theorem State.ws_faultLog (m : State) (p : Page) (l : List (Fld × Nat)) : (m.ws p l).faultLog = m.faultLog := by
  induction l generalizing m with
  | nil => rfl
  | cons x l ih => simp [State.ws, ih]
@[simp] theorem State.ws_pfRecs (m : State) (p : Page) (l : List (Fld × Nat)) : (m.ws p l).pfRecs = m.pfRecs := by
  induction l generalizing m with
  | nil => rfl
  | cons x l ih => simp [State.ws, ih]
@[simp] theorem State.ws_wl (m : State) (p : Page) (l : List (Fld × Nat)) : (m.ws p l).wl = m.wl := by
  induction l generalizing m with
  | nil => rfl
  | cons x l ih => simp [State.ws, ih]
@[simp] theorem State.ws_cur (m : State) (p : Page) (l : List (Fld × Nat)) : (m.ws p l).cur = m.cur := by
  induction l generalizing m with
  | nil => rfl
  | cons x l ih => simp [State.ws, ih]

@[simp] theorem State.latch_pending (m : State) (p : Page) (l : List Fld) : (m.latch p l).pending = m.pending := by
  induction l generalizing m with
  | nil => rfl
  | cons x l ih => simp [State.latch, ih]
@[simp] theorem State.latch_held (m : State) (p : Page) (l : List Fld) : (m.latch p l).held = m.held := by
  induction l generalizing m with
  | nil => rfl
  | cons x l ih => simp [State.latch, ih]
@[simp] theorem State.latch_pace (m : State) (p : Page) (l : List Fld) : (m.latch p l).pace = m.pace := by
  induction l generalizing m with
  | nil => rfl
  | cons x l ih => simp [State.latch, ih]
@[simp] theorem State.latch_freeCtr (m : State) (p : Page) (l : List Fld) : (m.latch p l).freeCtr = m.freeCtr := by
  induction l generalizing m with
  | nil => rfl
  | cons x l ih => simp [State.latch, ih]
@[simp] theorem State.latch_variant (m : State) (p : Page) (l : List Fld) : (m.latch p l).variant = m.variant := by
  induction l generalizing m with
  | nil => rfl
  | cons x l ih => simp [State.latch, ih]
@[simp] theorem State.latch_straps (m : State) (p : Page) (l : List Fld) : (m.latch p l).straps = m.straps := by
  induction l generalizing m with
  | nil => rfl
  | cons x l ih => simp [State.latch, ih]
@[simp] theorem State.latch_profile (m : State) (p : Page) (l : List Fld) : (m.latch p l).profile = m.profile := by
  induction l generalizing m with
  | nil => rfl
  | cons x l ih => simp [State.latch, ih]
@[simp] theorem State.latch_chainEnd (m : State) (p : Page) (l : List Fld) : (m.latch p l).chainEnd = m.chainEnd := by
  induction l generalizing m with
  | nil => rfl
  | cons x l ih => simp [State.latch, ih]
@[simp] theorem State.latch_regs (m : State) (p : Page) (l : List Fld) : (m.latch p l).regs = m.regs := by
  induction l generalizing m with
  | nil => rfl
  | cons x l ih => simp [State.latch, ih]
@[simp] theorem State.latch_lanes (m : State) (p : Page) (l : List Fld) : (m.latch p l).lanes = m.lanes := by
  induction l generalizing m with
  | nil => rfl
  | cons x l ih => simp [State.latch, ih]
@[simp] theorem State.latch_locks (m : State) (p : Page) (l : List Fld) : (m.latch p l).locks = m.locks := by
  induction l generalizing m with
  | nil => rfl
  | cons x l ih => simp [State.latch, ih]
@[simp] theorem State.latch_ctxs (m : State) (p : Page) (l : List Fld) : (m.latch p l).ctxs = m.ctxs := by
  induction l generalizing m with
  | nil => rfl
  | cons x l ih => simp [State.latch, ih]
@[simp] theorem State.latch_engOps (m : State) (p : Page) (l : List Fld) : (m.latch p l).engOps = m.engOps := by
  induction l generalizing m with
  | nil => rfl
  | cons x l ih => simp [State.latch, ih]
@[simp] theorem State.latch_seqs (m : State) (p : Page) (l : List Fld) : (m.latch p l).seqs = m.seqs := by
  induction l generalizing m with
  | nil => rfl
  | cons x l ih => simp [State.latch, ih]
@[simp] theorem State.latch_segTab (m : State) (p : Page) (l : List Fld) : (m.latch p l).segTab = m.segTab := by
  induction l generalizing m with
  | nil => rfl
  | cons x l ih => simp [State.latch, ih]
@[simp] theorem State.latch_acqs (m : State) (p : Page) (l : List Fld) : (m.latch p l).acqs = m.acqs := by
  induction l generalizing m with
  | nil => rfl
  | cons x l ih => simp [State.latch, ih]
@[simp] theorem State.latch_substs (m : State) (p : Page) (l : List Fld) : (m.latch p l).substs = m.substs := by
  induction l generalizing m with
  | nil => rfl
  | cons x l ih => simp [State.latch, ih]
@[simp] theorem State.latch_tiles (m : State) (p : Page) (l : List Fld) : (m.latch p l).tiles = m.tiles := by
  induction l generalizing m with
  | nil => rfl
  | cons x l ih => simp [State.latch, ih]
@[simp] theorem State.latch_flight (m : State) (p : Page) (l : List Fld) : (m.latch p l).flight = m.flight := by
  induction l generalizing m with
  | nil => rfl
  | cons x l ih => simp [State.latch, ih]
@[simp] theorem State.latch_tscap (m : State) (p : Page) (l : List Fld) : (m.latch p l).tscap = m.tscap := by
  induction l generalizing m with
  | nil => rfl
  | cons x l ih => simp [State.latch, ih]
@[simp] theorem State.latch_arc (m : State) (p : Page) (l : List Fld) : (m.latch p l).arc = m.arc := by
  induction l generalizing m with
  | nil => rfl
  | cons x l ih => simp [State.latch, ih]
@[simp] theorem State.latch_written (m : State) (p : Page) (l : List Fld) : (m.latch p l).written = m.written := by
  induction l generalizing m with
  | nil => rfl
  | cons x l ih => simp [State.latch, ih]
@[simp] theorem State.latch_poison (m : State) (p : Page) (l : List Fld) : (m.latch p l).poison = m.poison := by
  induction l generalizing m with
  | nil => rfl
  | cons x l ih => simp [State.latch, ih]
@[simp] theorem State.latch_latent (m : State) (p : Page) (l : List Fld) : (m.latch p l).latent = m.latent := by
  induction l generalizing m with
  | nil => rfl
  | cons x l ih => simp [State.latch, ih]
@[simp] theorem State.latch_fns (m : State) (p : Page) (l : List Fld) : (m.latch p l).fns = m.fns := by
  induction l generalizing m with
  | nil => rfl
  | cons x l ih => simp [State.latch, ih]
@[simp] theorem State.latch_cqs (m : State) (p : Page) (l : List Fld) : (m.latch p l).cqs = m.cqs := by
  induction l generalizing m with
  | nil => rfl
  | cons x l ih => simp [State.latch, ih]
@[simp] theorem State.latch_rqs (m : State) (p : Page) (l : List Fld) : (m.latch p l).rqs = m.rqs := by
  induction l generalizing m with
  | nil => rfl
  | cons x l ih => simp [State.latch, ih]
@[simp] theorem State.latch_dmas (m : State) (p : Page) (l : List Fld) : (m.latch p l).dmas = m.dmas := by
  induction l generalizing m with
  | nil => rfl
  | cons x l ih => simp [State.latch, ih]
@[simp] theorem State.latch_hostMem (m : State) (p : Page) (l : List Fld) : (m.latch p l).hostMem = m.hostMem := by
  induction l generalizing m with
  | nil => rfl
  | cons x l ih => simp [State.latch, ih]
@[simp] theorem State.latch_msix (m : State) (p : Page) (l : List Fld) : (m.latch p l).msix = m.msix := by
  induction l generalizing m with
  | nil => rfl
  | cons x l ih => simp [State.latch, ih]
@[simp] theorem State.latch_cals (m : State) (p : Page) (l : List Fld) : (m.latch p l).cals = m.cals := by
  induction l generalizing m with
  | nil => rfl
  | cons x l ih => simp [State.latch, ih]
@[simp] theorem State.latch_catalogue (m : State) (p : Page) (l : List Fld) : (m.latch p l).catalogue = m.catalogue := by
  induction l generalizing m with
  | nil => rfl
  | cons x l ih => simp [State.latch, ih]
@[simp] theorem State.latch_nv (m : State) (p : Page) (l : List Fld) : (m.latch p l).nv = m.nv := by
  induction l generalizing m with
  | nil => rfl
  | cons x l ih => simp [State.latch, ih]
@[simp] theorem State.latch_faultLog (m : State) (p : Page) (l : List Fld) : (m.latch p l).faultLog = m.faultLog := by
  induction l generalizing m with
  | nil => rfl
  | cons x l ih => simp [State.latch, ih]
@[simp] theorem State.latch_pfRecs (m : State) (p : Page) (l : List Fld) : (m.latch p l).pfRecs = m.pfRecs := by
  induction l generalizing m with
  | nil => rfl
  | cons x l ih => simp [State.latch, ih]
@[simp] theorem State.latch_wl (m : State) (p : Page) (l : List Fld) : (m.latch p l).wl = m.wl := by
  induction l generalizing m with
  | nil => rfl
  | cons x l ih => simp [State.latch, ih]
@[simp] theorem State.latch_cur (m : State) (p : Page) (l : List Fld) : (m.latch p l).cur = m.cur := by
  induction l generalizing m with
  | nil => rfl
  | cons x l ih => simp [State.latch, ih]

@[simp] theorem State.hwLive_pending (m : State) (p : Page) (l : List (Fld × Nat)) : (m.hwLive p l).pending = m.pending := by
  unfold State.hwLive; exact foldl_keeps _ (·.pending) (fun m x => by dsimp only; split <;> rfl) _ _
@[simp] theorem State.hwLive_held (m : State) (p : Page) (l : List (Fld × Nat)) : (m.hwLive p l).held = m.held := by
  unfold State.hwLive; exact foldl_keeps _ (·.held) (fun m x => by dsimp only; split <;> rfl) _ _
@[simp] theorem State.hwLive_pace (m : State) (p : Page) (l : List (Fld × Nat)) : (m.hwLive p l).pace = m.pace := by
  unfold State.hwLive; exact foldl_keeps _ (·.pace) (fun m x => by dsimp only; split <;> rfl) _ _
@[simp] theorem State.hwLive_freeCtr (m : State) (p : Page) (l : List (Fld × Nat)) : (m.hwLive p l).freeCtr = m.freeCtr := by
  unfold State.hwLive; exact foldl_keeps _ (·.freeCtr) (fun m x => by dsimp only; split <;> rfl) _ _
@[simp] theorem State.hwLive_variant (m : State) (p : Page) (l : List (Fld × Nat)) : (m.hwLive p l).variant = m.variant := by
  unfold State.hwLive; exact foldl_keeps _ (·.variant) (fun m x => by dsimp only; split <;> rfl) _ _
@[simp] theorem State.hwLive_straps (m : State) (p : Page) (l : List (Fld × Nat)) : (m.hwLive p l).straps = m.straps := by
  unfold State.hwLive; exact foldl_keeps _ (·.straps) (fun m x => by dsimp only; split <;> rfl) _ _
@[simp] theorem State.hwLive_profile (m : State) (p : Page) (l : List (Fld × Nat)) : (m.hwLive p l).profile = m.profile := by
  unfold State.hwLive; exact foldl_keeps _ (·.profile) (fun m x => by dsimp only; split <;> rfl) _ _
@[simp] theorem State.hwLive_chainEnd (m : State) (p : Page) (l : List (Fld × Nat)) : (m.hwLive p l).chainEnd = m.chainEnd := by
  unfold State.hwLive; exact foldl_keeps _ (·.chainEnd) (fun m x => by dsimp only; split <;> rfl) _ _
@[simp] theorem State.hwLive_lat (m : State) (p : Page) (l : List (Fld × Nat)) : (m.hwLive p l).lat = m.lat := by
  unfold State.hwLive; exact foldl_keeps _ (·.lat) (fun m x => by dsimp only; split <;> rfl) _ _
@[simp] theorem State.hwLive_lanes (m : State) (p : Page) (l : List (Fld × Nat)) : (m.hwLive p l).lanes = m.lanes := by
  unfold State.hwLive; exact foldl_keeps _ (·.lanes) (fun m x => by dsimp only; split <;> rfl) _ _
@[simp] theorem State.hwLive_locks (m : State) (p : Page) (l : List (Fld × Nat)) : (m.hwLive p l).locks = m.locks := by
  unfold State.hwLive; exact foldl_keeps _ (·.locks) (fun m x => by dsimp only; split <;> rfl) _ _
@[simp] theorem State.hwLive_ctxs (m : State) (p : Page) (l : List (Fld × Nat)) : (m.hwLive p l).ctxs = m.ctxs := by
  unfold State.hwLive; exact foldl_keeps _ (·.ctxs) (fun m x => by dsimp only; split <;> rfl) _ _
@[simp] theorem State.hwLive_engOps (m : State) (p : Page) (l : List (Fld × Nat)) : (m.hwLive p l).engOps = m.engOps := by
  unfold State.hwLive; exact foldl_keeps _ (·.engOps) (fun m x => by dsimp only; split <;> rfl) _ _
@[simp] theorem State.hwLive_seqs (m : State) (p : Page) (l : List (Fld × Nat)) : (m.hwLive p l).seqs = m.seqs := by
  unfold State.hwLive; exact foldl_keeps _ (·.seqs) (fun m x => by dsimp only; split <;> rfl) _ _
@[simp] theorem State.hwLive_segTab (m : State) (p : Page) (l : List (Fld × Nat)) : (m.hwLive p l).segTab = m.segTab := by
  unfold State.hwLive; exact foldl_keeps _ (·.segTab) (fun m x => by dsimp only; split <;> rfl) _ _
@[simp] theorem State.hwLive_acqs (m : State) (p : Page) (l : List (Fld × Nat)) : (m.hwLive p l).acqs = m.acqs := by
  unfold State.hwLive; exact foldl_keeps _ (·.acqs) (fun m x => by dsimp only; split <;> rfl) _ _
@[simp] theorem State.hwLive_substs (m : State) (p : Page) (l : List (Fld × Nat)) : (m.hwLive p l).substs = m.substs := by
  unfold State.hwLive; exact foldl_keeps _ (·.substs) (fun m x => by dsimp only; split <;> rfl) _ _
@[simp] theorem State.hwLive_tiles (m : State) (p : Page) (l : List (Fld × Nat)) : (m.hwLive p l).tiles = m.tiles := by
  unfold State.hwLive; exact foldl_keeps _ (·.tiles) (fun m x => by dsimp only; split <;> rfl) _ _
@[simp] theorem State.hwLive_flight (m : State) (p : Page) (l : List (Fld × Nat)) : (m.hwLive p l).flight = m.flight := by
  unfold State.hwLive; exact foldl_keeps _ (·.flight) (fun m x => by dsimp only; split <;> rfl) _ _
@[simp] theorem State.hwLive_tscap (m : State) (p : Page) (l : List (Fld × Nat)) : (m.hwLive p l).tscap = m.tscap := by
  unfold State.hwLive; exact foldl_keeps _ (·.tscap) (fun m x => by dsimp only; split <;> rfl) _ _
@[simp] theorem State.hwLive_arc (m : State) (p : Page) (l : List (Fld × Nat)) : (m.hwLive p l).arc = m.arc := by
  unfold State.hwLive; exact foldl_keeps _ (·.arc) (fun m x => by dsimp only; split <;> rfl) _ _
@[simp] theorem State.hwLive_written (m : State) (p : Page) (l : List (Fld × Nat)) : (m.hwLive p l).written = m.written := by
  unfold State.hwLive; exact foldl_keeps _ (·.written) (fun m x => by dsimp only; split <;> rfl) _ _
@[simp] theorem State.hwLive_poison (m : State) (p : Page) (l : List (Fld × Nat)) : (m.hwLive p l).poison = m.poison := by
  unfold State.hwLive; exact foldl_keeps _ (·.poison) (fun m x => by dsimp only; split <;> rfl) _ _
@[simp] theorem State.hwLive_latent (m : State) (p : Page) (l : List (Fld × Nat)) : (m.hwLive p l).latent = m.latent := by
  unfold State.hwLive; exact foldl_keeps _ (·.latent) (fun m x => by dsimp only; split <;> rfl) _ _
@[simp] theorem State.hwLive_fns (m : State) (p : Page) (l : List (Fld × Nat)) : (m.hwLive p l).fns = m.fns := by
  unfold State.hwLive; exact foldl_keeps _ (·.fns) (fun m x => by dsimp only; split <;> rfl) _ _
@[simp] theorem State.hwLive_cqs (m : State) (p : Page) (l : List (Fld × Nat)) : (m.hwLive p l).cqs = m.cqs := by
  unfold State.hwLive; exact foldl_keeps _ (·.cqs) (fun m x => by dsimp only; split <;> rfl) _ _
@[simp] theorem State.hwLive_rqs (m : State) (p : Page) (l : List (Fld × Nat)) : (m.hwLive p l).rqs = m.rqs := by
  unfold State.hwLive; exact foldl_keeps _ (·.rqs) (fun m x => by dsimp only; split <;> rfl) _ _
@[simp] theorem State.hwLive_dmas (m : State) (p : Page) (l : List (Fld × Nat)) : (m.hwLive p l).dmas = m.dmas := by
  unfold State.hwLive; exact foldl_keeps _ (·.dmas) (fun m x => by dsimp only; split <;> rfl) _ _
@[simp] theorem State.hwLive_hostMem (m : State) (p : Page) (l : List (Fld × Nat)) : (m.hwLive p l).hostMem = m.hostMem := by
  unfold State.hwLive; exact foldl_keeps _ (·.hostMem) (fun m x => by dsimp only; split <;> rfl) _ _
@[simp] theorem State.hwLive_msix (m : State) (p : Page) (l : List (Fld × Nat)) : (m.hwLive p l).msix = m.msix := by
  unfold State.hwLive; exact foldl_keeps _ (·.msix) (fun m x => by dsimp only; split <;> rfl) _ _
@[simp] theorem State.hwLive_cals (m : State) (p : Page) (l : List (Fld × Nat)) : (m.hwLive p l).cals = m.cals := by
  unfold State.hwLive; exact foldl_keeps _ (·.cals) (fun m x => by dsimp only; split <;> rfl) _ _
@[simp] theorem State.hwLive_catalogue (m : State) (p : Page) (l : List (Fld × Nat)) : (m.hwLive p l).catalogue = m.catalogue := by
  unfold State.hwLive; exact foldl_keeps _ (·.catalogue) (fun m x => by dsimp only; split <;> rfl) _ _
@[simp] theorem State.hwLive_nv (m : State) (p : Page) (l : List (Fld × Nat)) : (m.hwLive p l).nv = m.nv := by
  unfold State.hwLive; exact foldl_keeps _ (·.nv) (fun m x => by dsimp only; split <;> rfl) _ _
@[simp] theorem State.hwLive_faultLog (m : State) (p : Page) (l : List (Fld × Nat)) : (m.hwLive p l).faultLog = m.faultLog := by
  unfold State.hwLive; exact foldl_keeps _ (·.faultLog) (fun m x => by dsimp only; split <;> rfl) _ _
@[simp] theorem State.hwLive_pfRecs (m : State) (p : Page) (l : List (Fld × Nat)) : (m.hwLive p l).pfRecs = m.pfRecs := by
  unfold State.hwLive; exact foldl_keeps _ (·.pfRecs) (fun m x => by dsimp only; split <;> rfl) _ _
@[simp] theorem State.hwLive_wl (m : State) (p : Page) (l : List (Fld × Nat)) : (m.hwLive p l).wl = m.wl := by
  unfold State.hwLive; exact foldl_keeps _ (·.wl) (fun m x => by dsimp only; split <;> rfl) _ _
@[simp] theorem State.hwLive_cur (m : State) (p : Page) (l : List (Fld × Nat)) : (m.hwLive p l).cur = m.cur := by
  unfold State.hwLive; exact foldl_keeps _ (·.cur) (fun m x => by dsimp only; split <;> rfl) _ _

@[simp] theorem State.answer_pending (m : State) (k st r : Nat) : (m.answer k st r).pending = m.pending := rfl
@[simp] theorem State.answer_held (m : State) (k st r : Nat) : (m.answer k st r).held = m.held := rfl
@[simp] theorem State.answer_pace (m : State) (k st r : Nat) : (m.answer k st r).pace = m.pace := rfl
@[simp] theorem State.answer_freeCtr (m : State) (k st r : Nat) : (m.answer k st r).freeCtr = m.freeCtr := rfl
@[simp] theorem State.answer_variant (m : State) (k st r : Nat) : (m.answer k st r).variant = m.variant := rfl
@[simp] theorem State.answer_straps (m : State) (k st r : Nat) : (m.answer k st r).straps = m.straps := rfl
@[simp] theorem State.answer_profile (m : State) (k st r : Nat) : (m.answer k st r).profile = m.profile := rfl
@[simp] theorem State.answer_chainEnd (m : State) (k st r : Nat) : (m.answer k st r).chainEnd = m.chainEnd := rfl
@[simp] theorem State.answer_regs (m : State) (k st r : Nat) : (m.answer k st r).regs = m.regs := rfl
@[simp] theorem State.answer_lat (m : State) (k st r : Nat) : (m.answer k st r).lat = m.lat := rfl
@[simp] theorem State.answer_lanes (m : State) (k st r : Nat) : (m.answer k st r).lanes = m.lanes := rfl
@[simp] theorem State.answer_locks (m : State) (k st r : Nat) : (m.answer k st r).locks = m.locks := rfl
@[simp] theorem State.answer_ctxs (m : State) (k st r : Nat) : (m.answer k st r).ctxs = m.ctxs := rfl
@[simp] theorem State.answer_engOps (m : State) (k st r : Nat) : (m.answer k st r).engOps = m.engOps := rfl
@[simp] theorem State.answer_seqs (m : State) (k st r : Nat) : (m.answer k st r).seqs = m.seqs := rfl
@[simp] theorem State.answer_segTab (m : State) (k st r : Nat) : (m.answer k st r).segTab = m.segTab := rfl
@[simp] theorem State.answer_acqs (m : State) (k st r : Nat) : (m.answer k st r).acqs = m.acqs := rfl
@[simp] theorem State.answer_substs (m : State) (k st r : Nat) : (m.answer k st r).substs = m.substs := rfl
@[simp] theorem State.answer_tiles (m : State) (k st r : Nat) : (m.answer k st r).tiles = m.tiles := rfl
@[simp] theorem State.answer_flight (m : State) (k st r : Nat) : (m.answer k st r).flight = m.flight := rfl
@[simp] theorem State.answer_tscap (m : State) (k st r : Nat) : (m.answer k st r).tscap = m.tscap := rfl
@[simp] theorem State.answer_arc (m : State) (k st r : Nat) : (m.answer k st r).arc = m.arc := rfl
@[simp] theorem State.answer_written (m : State) (k st r : Nat) : (m.answer k st r).written = m.written := rfl
@[simp] theorem State.answer_poison (m : State) (k st r : Nat) : (m.answer k st r).poison = m.poison := rfl
@[simp] theorem State.answer_latent (m : State) (k st r : Nat) : (m.answer k st r).latent = m.latent := rfl
@[simp] theorem State.answer_cqs (m : State) (k st r : Nat) : (m.answer k st r).cqs = m.cqs := rfl
@[simp] theorem State.answer_rqs (m : State) (k st r : Nat) : (m.answer k st r).rqs = m.rqs := rfl
@[simp] theorem State.answer_dmas (m : State) (k st r : Nat) : (m.answer k st r).dmas = m.dmas := rfl
@[simp] theorem State.answer_hostMem (m : State) (k st r : Nat) : (m.answer k st r).hostMem = m.hostMem := rfl
@[simp] theorem State.answer_msix (m : State) (k st r : Nat) : (m.answer k st r).msix = m.msix := rfl
@[simp] theorem State.answer_cals (m : State) (k st r : Nat) : (m.answer k st r).cals = m.cals := rfl
@[simp] theorem State.answer_catalogue (m : State) (k st r : Nat) : (m.answer k st r).catalogue = m.catalogue := rfl
@[simp] theorem State.answer_nv (m : State) (k st r : Nat) : (m.answer k st r).nv = m.nv := rfl
@[simp] theorem State.answer_faultLog (m : State) (k st r : Nat) : (m.answer k st r).faultLog = m.faultLog := rfl
@[simp] theorem State.answer_pfRecs (m : State) (k st r : Nat) : (m.answer k st r).pfRecs = m.pfRecs := rfl
@[simp] theorem State.answer_wl (m : State) (k st r : Nat) : (m.answer k st r).wl = m.wl := rfl
@[simp] theorem State.answer_cur (m : State) (k st r : Nat) : (m.answer k st r).cur = m.cur := rfl

@[simp] theorem State.setSw_pending (m : State) (t k : Nat) (x : Sw) (e : Nat) : (m.setSw t k x e).pending = m.pending := rfl
@[simp] theorem State.setSw_held (m : State) (t k : Nat) (x : Sw) (e : Nat) : (m.setSw t k x e).held = m.held := rfl
@[simp] theorem State.setSw_pace (m : State) (t k : Nat) (x : Sw) (e : Nat) : (m.setSw t k x e).pace = m.pace := rfl
@[simp] theorem State.setSw_freeCtr (m : State) (t k : Nat) (x : Sw) (e : Nat) : (m.setSw t k x e).freeCtr = m.freeCtr := rfl
@[simp] theorem State.setSw_variant (m : State) (t k : Nat) (x : Sw) (e : Nat) : (m.setSw t k x e).variant = m.variant := rfl
@[simp] theorem State.setSw_straps (m : State) (t k : Nat) (x : Sw) (e : Nat) : (m.setSw t k x e).straps = m.straps := rfl
@[simp] theorem State.setSw_profile (m : State) (t k : Nat) (x : Sw) (e : Nat) : (m.setSw t k x e).profile = m.profile := rfl
@[simp] theorem State.setSw_chainEnd (m : State) (t k : Nat) (x : Sw) (e : Nat) : (m.setSw t k x e).chainEnd = m.chainEnd := rfl
@[simp] theorem State.setSw_lat (m : State) (t k : Nat) (x : Sw) (e : Nat) : (m.setSw t k x e).lat = m.lat := rfl
@[simp] theorem State.setSw_locks (m : State) (t k : Nat) (x : Sw) (e : Nat) : (m.setSw t k x e).locks = m.locks := rfl
@[simp] theorem State.setSw_ctxs (m : State) (t k : Nat) (x : Sw) (e : Nat) : (m.setSw t k x e).ctxs = m.ctxs := rfl
@[simp] theorem State.setSw_engOps (m : State) (t k : Nat) (x : Sw) (e : Nat) : (m.setSw t k x e).engOps = m.engOps := rfl
@[simp] theorem State.setSw_seqs (m : State) (t k : Nat) (x : Sw) (e : Nat) : (m.setSw t k x e).seqs = m.seqs := rfl
@[simp] theorem State.setSw_segTab (m : State) (t k : Nat) (x : Sw) (e : Nat) : (m.setSw t k x e).segTab = m.segTab := rfl
@[simp] theorem State.setSw_acqs (m : State) (t k : Nat) (x : Sw) (e : Nat) : (m.setSw t k x e).acqs = m.acqs := rfl
@[simp] theorem State.setSw_substs (m : State) (t k : Nat) (x : Sw) (e : Nat) : (m.setSw t k x e).substs = m.substs := rfl
@[simp] theorem State.setSw_tiles (m : State) (t k : Nat) (x : Sw) (e : Nat) : (m.setSw t k x e).tiles = m.tiles := rfl
@[simp] theorem State.setSw_flight (m : State) (t k : Nat) (x : Sw) (e : Nat) : (m.setSw t k x e).flight = m.flight := rfl
@[simp] theorem State.setSw_tscap (m : State) (t k : Nat) (x : Sw) (e : Nat) : (m.setSw t k x e).tscap = m.tscap := rfl
@[simp] theorem State.setSw_arc (m : State) (t k : Nat) (x : Sw) (e : Nat) : (m.setSw t k x e).arc = m.arc := rfl
@[simp] theorem State.setSw_written (m : State) (t k : Nat) (x : Sw) (e : Nat) : (m.setSw t k x e).written = m.written := rfl
@[simp] theorem State.setSw_poison (m : State) (t k : Nat) (x : Sw) (e : Nat) : (m.setSw t k x e).poison = m.poison := rfl
@[simp] theorem State.setSw_latent (m : State) (t k : Nat) (x : Sw) (e : Nat) : (m.setSw t k x e).latent = m.latent := rfl
@[simp] theorem State.setSw_fns (m : State) (t k : Nat) (x : Sw) (e : Nat) : (m.setSw t k x e).fns = m.fns := rfl
@[simp] theorem State.setSw_cqs (m : State) (t k : Nat) (x : Sw) (e : Nat) : (m.setSw t k x e).cqs = m.cqs := rfl
@[simp] theorem State.setSw_rqs (m : State) (t k : Nat) (x : Sw) (e : Nat) : (m.setSw t k x e).rqs = m.rqs := rfl
@[simp] theorem State.setSw_dmas (m : State) (t k : Nat) (x : Sw) (e : Nat) : (m.setSw t k x e).dmas = m.dmas := rfl
@[simp] theorem State.setSw_hostMem (m : State) (t k : Nat) (x : Sw) (e : Nat) : (m.setSw t k x e).hostMem = m.hostMem := rfl
@[simp] theorem State.setSw_msix (m : State) (t k : Nat) (x : Sw) (e : Nat) : (m.setSw t k x e).msix = m.msix := rfl
@[simp] theorem State.setSw_cals (m : State) (t k : Nat) (x : Sw) (e : Nat) : (m.setSw t k x e).cals = m.cals := rfl
@[simp] theorem State.setSw_catalogue (m : State) (t k : Nat) (x : Sw) (e : Nat) : (m.setSw t k x e).catalogue = m.catalogue := rfl
@[simp] theorem State.setSw_nv (m : State) (t k : Nat) (x : Sw) (e : Nat) : (m.setSw t k x e).nv = m.nv := rfl
@[simp] theorem State.setSw_faultLog (m : State) (t k : Nat) (x : Sw) (e : Nat) : (m.setSw t k x e).faultLog = m.faultLog := rfl
@[simp] theorem State.setSw_pfRecs (m : State) (t k : Nat) (x : Sw) (e : Nat) : (m.setSw t k x e).pfRecs = m.pfRecs := rfl
@[simp] theorem State.setSw_wl (m : State) (t k : Nat) (x : Sw) (e : Nat) : (m.setSw t k x e).wl = m.wl := rfl
@[simp] theorem State.setSw_cur (m : State) (t k : Nat) (x : Sw) (e : Nat) : (m.setSw t k x e).cur = m.cur := rfl

@[simp] theorem State.ignore_pending (m : State) (k : Nat) (p : Page) (off : Nat) : (m.ignore k p off).pending = m.pending := by
  unfold State.ignore; simp only [signal_pending, State.incSat_pending, State.w_pending]; split <;> rfl
@[simp] theorem State.ignore_held (m : State) (k : Nat) (p : Page) (off : Nat) : (m.ignore k p off).held = m.held := by
  unfold State.ignore; simp only [signal_held, State.incSat_held, State.w_held]; split <;> rfl
@[simp] theorem State.ignore_pace (m : State) (k : Nat) (p : Page) (off : Nat) : (m.ignore k p off).pace = m.pace := by
  unfold State.ignore; simp only [signal_pace, State.incSat_pace, State.w_pace]; split <;> rfl
@[simp] theorem State.ignore_freeCtr (m : State) (k : Nat) (p : Page) (off : Nat) : (m.ignore k p off).freeCtr = m.freeCtr := by
  unfold State.ignore; simp only [signal_freeCtr, State.incSat_freeCtr, State.w_freeCtr]; split <;> rfl
@[simp] theorem State.ignore_variant (m : State) (k : Nat) (p : Page) (off : Nat) : (m.ignore k p off).variant = m.variant := by
  unfold State.ignore; simp only [signal_variant, State.incSat_variant, State.w_variant]; split <;> rfl
@[simp] theorem State.ignore_straps (m : State) (k : Nat) (p : Page) (off : Nat) : (m.ignore k p off).straps = m.straps := by
  unfold State.ignore; simp only [signal_straps, State.incSat_straps, State.w_straps]; split <;> rfl
@[simp] theorem State.ignore_profile (m : State) (k : Nat) (p : Page) (off : Nat) : (m.ignore k p off).profile = m.profile := by
  unfold State.ignore; simp only [signal_profile, State.incSat_profile, State.w_profile]; split <;> rfl
@[simp] theorem State.ignore_chainEnd (m : State) (k : Nat) (p : Page) (off : Nat) : (m.ignore k p off).chainEnd = m.chainEnd := by
  unfold State.ignore; simp only [signal_chainEnd, State.incSat_chainEnd, State.w_chainEnd]; split <;> rfl
@[simp] theorem State.ignore_lat (m : State) (k : Nat) (p : Page) (off : Nat) : (m.ignore k p off).lat = m.lat := by
  unfold State.ignore; simp only [signal_lat, State.incSat_lat, State.w_lat]; split <;> rfl
@[simp] theorem State.ignore_lanes (m : State) (k : Nat) (p : Page) (off : Nat) : (m.ignore k p off).lanes = m.lanes := by
  unfold State.ignore; simp only [signal_lanes, State.incSat_lanes, State.w_lanes]; split <;> rfl
@[simp] theorem State.ignore_locks (m : State) (k : Nat) (p : Page) (off : Nat) : (m.ignore k p off).locks = m.locks := by
  unfold State.ignore; simp only [signal_locks, State.incSat_locks, State.w_locks]; split <;> rfl
@[simp] theorem State.ignore_ctxs (m : State) (k : Nat) (p : Page) (off : Nat) : (m.ignore k p off).ctxs = m.ctxs := by
  unfold State.ignore; simp only [signal_ctxs, State.incSat_ctxs, State.w_ctxs]; split <;> rfl
@[simp] theorem State.ignore_engOps (m : State) (k : Nat) (p : Page) (off : Nat) : (m.ignore k p off).engOps = m.engOps := by
  unfold State.ignore; simp only [signal_engOps, State.incSat_engOps, State.w_engOps]; split <;> rfl
@[simp] theorem State.ignore_seqs (m : State) (k : Nat) (p : Page) (off : Nat) : (m.ignore k p off).seqs = m.seqs := by
  unfold State.ignore; simp only [signal_seqs, State.incSat_seqs, State.w_seqs]; split <;> rfl
@[simp] theorem State.ignore_segTab (m : State) (k : Nat) (p : Page) (off : Nat) : (m.ignore k p off).segTab = m.segTab := by
  unfold State.ignore; simp only [signal_segTab, State.incSat_segTab, State.w_segTab]; split <;> rfl
@[simp] theorem State.ignore_acqs (m : State) (k : Nat) (p : Page) (off : Nat) : (m.ignore k p off).acqs = m.acqs := by
  unfold State.ignore; simp only [signal_acqs, State.incSat_acqs, State.w_acqs]; split <;> rfl
@[simp] theorem State.ignore_substs (m : State) (k : Nat) (p : Page) (off : Nat) : (m.ignore k p off).substs = m.substs := by
  unfold State.ignore; simp only [signal_substs, State.incSat_substs, State.w_substs]; split <;> rfl
@[simp] theorem State.ignore_tiles (m : State) (k : Nat) (p : Page) (off : Nat) : (m.ignore k p off).tiles = m.tiles := by
  unfold State.ignore; simp only [signal_tiles, State.incSat_tiles, State.w_tiles]; split <;> rfl
@[simp] theorem State.ignore_flight (m : State) (k : Nat) (p : Page) (off : Nat) : (m.ignore k p off).flight = m.flight := by
  unfold State.ignore; simp only [signal_flight, State.incSat_flight, State.w_flight]; split <;> rfl
@[simp] theorem State.ignore_tscap (m : State) (k : Nat) (p : Page) (off : Nat) : (m.ignore k p off).tscap = m.tscap := by
  unfold State.ignore; simp only [signal_tscap, State.incSat_tscap, State.w_tscap]; split <;> rfl
@[simp] theorem State.ignore_arc (m : State) (k : Nat) (p : Page) (off : Nat) : (m.ignore k p off).arc = m.arc := by
  unfold State.ignore; simp only [signal_arc, State.incSat_arc, State.w_arc]; split <;> rfl
@[simp] theorem State.ignore_written (m : State) (k : Nat) (p : Page) (off : Nat) : (m.ignore k p off).written = m.written := by
  unfold State.ignore; simp only [signal_written, State.incSat_written, State.w_written]; split <;> rfl
@[simp] theorem State.ignore_poison (m : State) (k : Nat) (p : Page) (off : Nat) : (m.ignore k p off).poison = m.poison := by
  unfold State.ignore; simp only [signal_poison, State.incSat_poison, State.w_poison]; split <;> rfl
@[simp] theorem State.ignore_latent (m : State) (k : Nat) (p : Page) (off : Nat) : (m.ignore k p off).latent = m.latent := by
  unfold State.ignore; simp only [signal_latent, State.incSat_latent, State.w_latent]; split <;> rfl
@[simp] theorem State.ignore_fns (m : State) (k : Nat) (p : Page) (off : Nat) : (m.ignore k p off).fns = m.fns := by
  unfold State.ignore; simp only [signal_fns, State.incSat_fns, State.w_fns]; split <;> rfl
@[simp] theorem State.ignore_cqs (m : State) (k : Nat) (p : Page) (off : Nat) : (m.ignore k p off).cqs = m.cqs := by
  unfold State.ignore; simp only [signal_cqs, State.incSat_cqs, State.w_cqs]; split <;> rfl
@[simp] theorem State.ignore_rqs (m : State) (k : Nat) (p : Page) (off : Nat) : (m.ignore k p off).rqs = m.rqs := by
  unfold State.ignore; simp only [signal_rqs, State.incSat_rqs, State.w_rqs]; split <;> rfl
@[simp] theorem State.ignore_dmas (m : State) (k : Nat) (p : Page) (off : Nat) : (m.ignore k p off).dmas = m.dmas := by
  unfold State.ignore; simp only [signal_dmas, State.incSat_dmas, State.w_dmas]; split <;> rfl
@[simp] theorem State.ignore_hostMem (m : State) (k : Nat) (p : Page) (off : Nat) : (m.ignore k p off).hostMem = m.hostMem := by
  unfold State.ignore; simp only [signal_hostMem, State.incSat_hostMem, State.w_hostMem]; split <;> rfl
@[simp] theorem State.ignore_cals (m : State) (k : Nat) (p : Page) (off : Nat) : (m.ignore k p off).cals = m.cals := by
  unfold State.ignore; simp only [signal_cals, State.incSat_cals, State.w_cals]; split <;> rfl
@[simp] theorem State.ignore_catalogue (m : State) (k : Nat) (p : Page) (off : Nat) : (m.ignore k p off).catalogue = m.catalogue := by
  unfold State.ignore; simp only [signal_catalogue, State.incSat_catalogue, State.w_catalogue]; split <;> rfl
@[simp] theorem State.ignore_nv (m : State) (k : Nat) (p : Page) (off : Nat) : (m.ignore k p off).nv = m.nv := by
  unfold State.ignore; simp only [signal_nv, State.incSat_nv, State.w_nv]; split <;> rfl
@[simp] theorem State.ignore_faultLog (m : State) (k : Nat) (p : Page) (off : Nat) : (m.ignore k p off).faultLog = m.faultLog := by
  unfold State.ignore; simp only [signal_faultLog, State.incSat_faultLog, State.w_faultLog]; split <;> rfl
@[simp] theorem State.ignore_pfRecs (m : State) (k : Nat) (p : Page) (off : Nat) : (m.ignore k p off).pfRecs = m.pfRecs := by
  unfold State.ignore; simp only [signal_pfRecs, State.incSat_pfRecs, State.w_pfRecs]; split <;> rfl
@[simp] theorem State.ignore_wl (m : State) (k : Nat) (p : Page) (off : Nat) : (m.ignore k p off).wl = m.wl := by
  unfold State.ignore; simp only [signal_wl, State.incSat_wl, State.w_wl]; split <;> rfl
@[simp] theorem State.ignore_cur (m : State) (k : Nat) (p : Page) (off : Nat) : (m.ignore k p off).cur = m.cur := by
  unfold State.ignore; simp only [signal_cur, State.incSat_cur, State.w_cur]; split <;> rfl

@[simp] theorem State.malformed_pending (m : State) (k : Nat) (p : Page) (off : Nat) (wr : Bool) : (m.malformed k p off wr).pending = m.pending := by
  unfold State.malformed; simp only [signal_pending, State.incSat_pending, State.w_pending]; split <;> rfl
@[simp] theorem State.malformed_held (m : State) (k : Nat) (p : Page) (off : Nat) (wr : Bool) : (m.malformed k p off wr).held = m.held := by
  unfold State.malformed; simp only [signal_held, State.incSat_held, State.w_held]; split <;> rfl
@[simp] theorem State.malformed_pace (m : State) (k : Nat) (p : Page) (off : Nat) (wr : Bool) : (m.malformed k p off wr).pace = m.pace := by
  unfold State.malformed; simp only [signal_pace, State.incSat_pace, State.w_pace]; split <;> rfl
@[simp] theorem State.malformed_freeCtr (m : State) (k : Nat) (p : Page) (off : Nat) (wr : Bool) : (m.malformed k p off wr).freeCtr = m.freeCtr := by
  unfold State.malformed; simp only [signal_freeCtr, State.incSat_freeCtr, State.w_freeCtr]; split <;> rfl
@[simp] theorem State.malformed_variant (m : State) (k : Nat) (p : Page) (off : Nat) (wr : Bool) : (m.malformed k p off wr).variant = m.variant := by
  unfold State.malformed; simp only [signal_variant, State.incSat_variant, State.w_variant]; split <;> rfl
@[simp] theorem State.malformed_straps (m : State) (k : Nat) (p : Page) (off : Nat) (wr : Bool) : (m.malformed k p off wr).straps = m.straps := by
  unfold State.malformed; simp only [signal_straps, State.incSat_straps, State.w_straps]; split <;> rfl
@[simp] theorem State.malformed_profile (m : State) (k : Nat) (p : Page) (off : Nat) (wr : Bool) : (m.malformed k p off wr).profile = m.profile := by
  unfold State.malformed; simp only [signal_profile, State.incSat_profile, State.w_profile]; split <;> rfl
@[simp] theorem State.malformed_chainEnd (m : State) (k : Nat) (p : Page) (off : Nat) (wr : Bool) : (m.malformed k p off wr).chainEnd = m.chainEnd := by
  unfold State.malformed; simp only [signal_chainEnd, State.incSat_chainEnd, State.w_chainEnd]; split <;> rfl
@[simp] theorem State.malformed_lat (m : State) (k : Nat) (p : Page) (off : Nat) (wr : Bool) : (m.malformed k p off wr).lat = m.lat := by
  unfold State.malformed; simp only [signal_lat, State.incSat_lat, State.w_lat]; split <;> rfl
@[simp] theorem State.malformed_lanes (m : State) (k : Nat) (p : Page) (off : Nat) (wr : Bool) : (m.malformed k p off wr).lanes = m.lanes := by
  unfold State.malformed; simp only [signal_lanes, State.incSat_lanes, State.w_lanes]; split <;> rfl
@[simp] theorem State.malformed_locks (m : State) (k : Nat) (p : Page) (off : Nat) (wr : Bool) : (m.malformed k p off wr).locks = m.locks := by
  unfold State.malformed; simp only [signal_locks, State.incSat_locks, State.w_locks]; split <;> rfl
@[simp] theorem State.malformed_ctxs (m : State) (k : Nat) (p : Page) (off : Nat) (wr : Bool) : (m.malformed k p off wr).ctxs = m.ctxs := by
  unfold State.malformed; simp only [signal_ctxs, State.incSat_ctxs, State.w_ctxs]; split <;> rfl
@[simp] theorem State.malformed_engOps (m : State) (k : Nat) (p : Page) (off : Nat) (wr : Bool) : (m.malformed k p off wr).engOps = m.engOps := by
  unfold State.malformed; simp only [signal_engOps, State.incSat_engOps, State.w_engOps]; split <;> rfl
@[simp] theorem State.malformed_seqs (m : State) (k : Nat) (p : Page) (off : Nat) (wr : Bool) : (m.malformed k p off wr).seqs = m.seqs := by
  unfold State.malformed; simp only [signal_seqs, State.incSat_seqs, State.w_seqs]; split <;> rfl
@[simp] theorem State.malformed_segTab (m : State) (k : Nat) (p : Page) (off : Nat) (wr : Bool) : (m.malformed k p off wr).segTab = m.segTab := by
  unfold State.malformed; simp only [signal_segTab, State.incSat_segTab, State.w_segTab]; split <;> rfl
@[simp] theorem State.malformed_acqs (m : State) (k : Nat) (p : Page) (off : Nat) (wr : Bool) : (m.malformed k p off wr).acqs = m.acqs := by
  unfold State.malformed; simp only [signal_acqs, State.incSat_acqs, State.w_acqs]; split <;> rfl
@[simp] theorem State.malformed_substs (m : State) (k : Nat) (p : Page) (off : Nat) (wr : Bool) : (m.malformed k p off wr).substs = m.substs := by
  unfold State.malformed; simp only [signal_substs, State.incSat_substs, State.w_substs]; split <;> rfl
@[simp] theorem State.malformed_tiles (m : State) (k : Nat) (p : Page) (off : Nat) (wr : Bool) : (m.malformed k p off wr).tiles = m.tiles := by
  unfold State.malformed; simp only [signal_tiles, State.incSat_tiles, State.w_tiles]; split <;> rfl
@[simp] theorem State.malformed_flight (m : State) (k : Nat) (p : Page) (off : Nat) (wr : Bool) : (m.malformed k p off wr).flight = m.flight := by
  unfold State.malformed; simp only [signal_flight, State.incSat_flight, State.w_flight]; split <;> rfl
@[simp] theorem State.malformed_tscap (m : State) (k : Nat) (p : Page) (off : Nat) (wr : Bool) : (m.malformed k p off wr).tscap = m.tscap := by
  unfold State.malformed; simp only [signal_tscap, State.incSat_tscap, State.w_tscap]; split <;> rfl
@[simp] theorem State.malformed_arc (m : State) (k : Nat) (p : Page) (off : Nat) (wr : Bool) : (m.malformed k p off wr).arc = m.arc := by
  unfold State.malformed; simp only [signal_arc, State.incSat_arc, State.w_arc]; split <;> rfl
@[simp] theorem State.malformed_written (m : State) (k : Nat) (p : Page) (off : Nat) (wr : Bool) : (m.malformed k p off wr).written = m.written := by
  unfold State.malformed; simp only [signal_written, State.incSat_written, State.w_written]; split <;> rfl
@[simp] theorem State.malformed_poison (m : State) (k : Nat) (p : Page) (off : Nat) (wr : Bool) : (m.malformed k p off wr).poison = m.poison := by
  unfold State.malformed; simp only [signal_poison, State.incSat_poison, State.w_poison]; split <;> rfl
@[simp] theorem State.malformed_latent (m : State) (k : Nat) (p : Page) (off : Nat) (wr : Bool) : (m.malformed k p off wr).latent = m.latent := by
  unfold State.malformed; simp only [signal_latent, State.incSat_latent, State.w_latent]; split <;> rfl
@[simp] theorem State.malformed_fns (m : State) (k : Nat) (p : Page) (off : Nat) (wr : Bool) : (m.malformed k p off wr).fns = m.fns := by
  unfold State.malformed; simp only [signal_fns, State.incSat_fns, State.w_fns]; split <;> rfl
@[simp] theorem State.malformed_cqs (m : State) (k : Nat) (p : Page) (off : Nat) (wr : Bool) : (m.malformed k p off wr).cqs = m.cqs := by
  unfold State.malformed; simp only [signal_cqs, State.incSat_cqs, State.w_cqs]; split <;> rfl
@[simp] theorem State.malformed_rqs (m : State) (k : Nat) (p : Page) (off : Nat) (wr : Bool) : (m.malformed k p off wr).rqs = m.rqs := by
  unfold State.malformed; simp only [signal_rqs, State.incSat_rqs, State.w_rqs]; split <;> rfl
@[simp] theorem State.malformed_dmas (m : State) (k : Nat) (p : Page) (off : Nat) (wr : Bool) : (m.malformed k p off wr).dmas = m.dmas := by
  unfold State.malformed; simp only [signal_dmas, State.incSat_dmas, State.w_dmas]; split <;> rfl
@[simp] theorem State.malformed_hostMem (m : State) (k : Nat) (p : Page) (off : Nat) (wr : Bool) : (m.malformed k p off wr).hostMem = m.hostMem := by
  unfold State.malformed; simp only [signal_hostMem, State.incSat_hostMem, State.w_hostMem]; split <;> rfl
@[simp] theorem State.malformed_cals (m : State) (k : Nat) (p : Page) (off : Nat) (wr : Bool) : (m.malformed k p off wr).cals = m.cals := by
  unfold State.malformed; simp only [signal_cals, State.incSat_cals, State.w_cals]; split <;> rfl
@[simp] theorem State.malformed_catalogue (m : State) (k : Nat) (p : Page) (off : Nat) (wr : Bool) : (m.malformed k p off wr).catalogue = m.catalogue := by
  unfold State.malformed; simp only [signal_catalogue, State.incSat_catalogue, State.w_catalogue]; split <;> rfl
@[simp] theorem State.malformed_nv (m : State) (k : Nat) (p : Page) (off : Nat) (wr : Bool) : (m.malformed k p off wr).nv = m.nv := by
  unfold State.malformed; simp only [signal_nv, State.incSat_nv, State.w_nv]; split <;> rfl
@[simp] theorem State.malformed_faultLog (m : State) (k : Nat) (p : Page) (off : Nat) (wr : Bool) : (m.malformed k p off wr).faultLog = m.faultLog := by
  unfold State.malformed; simp only [signal_faultLog, State.incSat_faultLog, State.w_faultLog]; split <;> rfl
@[simp] theorem State.malformed_pfRecs (m : State) (k : Nat) (p : Page) (off : Nat) (wr : Bool) : (m.malformed k p off wr).pfRecs = m.pfRecs := by
  unfold State.malformed; simp only [signal_pfRecs, State.incSat_pfRecs, State.w_pfRecs]; split <;> rfl
@[simp] theorem State.malformed_wl (m : State) (k : Nat) (p : Page) (off : Nat) (wr : Bool) : (m.malformed k p off wr).wl = m.wl := by
  unfold State.malformed; simp only [signal_wl, State.incSat_wl, State.w_wl]; split <;> rfl
@[simp] theorem State.malformed_cur (m : State) (k : Nat) (p : Page) (off : Nat) (wr : Bool) : (m.malformed k p off wr).cur = m.cur := by
  unfold State.malformed; simp only [signal_cur, State.incSat_cur, State.w_cur]; split <;> rfl

@[simp] theorem State.alert_pending (m : State) (b : Bool) : (m.alert b).pending = m.pending := by
  unfold State.alert; split <;> simp
@[simp] theorem State.alert_held (m : State) (b : Bool) : (m.alert b).held = m.held := by
  unfold State.alert; split <;> simp
@[simp] theorem State.alert_pace (m : State) (b : Bool) : (m.alert b).pace = m.pace := by
  unfold State.alert; split <;> simp
@[simp] theorem State.alert_freeCtr (m : State) (b : Bool) : (m.alert b).freeCtr = m.freeCtr := by
  unfold State.alert; split <;> simp
@[simp] theorem State.alert_variant (m : State) (b : Bool) : (m.alert b).variant = m.variant := by
  unfold State.alert; split <;> simp
@[simp] theorem State.alert_straps (m : State) (b : Bool) : (m.alert b).straps = m.straps := by
  unfold State.alert; split <;> simp
@[simp] theorem State.alert_profile (m : State) (b : Bool) : (m.alert b).profile = m.profile := by
  unfold State.alert; split <;> simp
@[simp] theorem State.alert_chainEnd (m : State) (b : Bool) : (m.alert b).chainEnd = m.chainEnd := by
  unfold State.alert; split <;> simp
@[simp] theorem State.alert_lat (m : State) (b : Bool) : (m.alert b).lat = m.lat := by
  unfold State.alert; split <;> simp
@[simp] theorem State.alert_lanes (m : State) (b : Bool) : (m.alert b).lanes = m.lanes := by
  unfold State.alert; split <;> simp
@[simp] theorem State.alert_locks (m : State) (b : Bool) : (m.alert b).locks = m.locks := by
  unfold State.alert; split <;> simp
@[simp] theorem State.alert_ctxs (m : State) (b : Bool) : (m.alert b).ctxs = m.ctxs := by
  unfold State.alert; split <;> simp
@[simp] theorem State.alert_engOps (m : State) (b : Bool) : (m.alert b).engOps = m.engOps := by
  unfold State.alert; split <;> simp
@[simp] theorem State.alert_seqs (m : State) (b : Bool) : (m.alert b).seqs = m.seqs := by
  unfold State.alert; split <;> simp
@[simp] theorem State.alert_segTab (m : State) (b : Bool) : (m.alert b).segTab = m.segTab := by
  unfold State.alert; split <;> simp
@[simp] theorem State.alert_acqs (m : State) (b : Bool) : (m.alert b).acqs = m.acqs := by
  unfold State.alert; split <;> simp
@[simp] theorem State.alert_substs (m : State) (b : Bool) : (m.alert b).substs = m.substs := by
  unfold State.alert; split <;> simp
@[simp] theorem State.alert_tiles (m : State) (b : Bool) : (m.alert b).tiles = m.tiles := by
  unfold State.alert; split <;> simp
@[simp] theorem State.alert_flight (m : State) (b : Bool) : (m.alert b).flight = m.flight := by
  unfold State.alert; split <;> simp
@[simp] theorem State.alert_tscap (m : State) (b : Bool) : (m.alert b).tscap = m.tscap := by
  unfold State.alert; split <;> simp
@[simp] theorem State.alert_arc (m : State) (b : Bool) : (m.alert b).arc = m.arc := by
  unfold State.alert; split <;> simp
@[simp] theorem State.alert_written (m : State) (b : Bool) : (m.alert b).written = m.written := by
  unfold State.alert; split <;> simp
@[simp] theorem State.alert_poison (m : State) (b : Bool) : (m.alert b).poison = m.poison := by
  unfold State.alert; split <;> simp
@[simp] theorem State.alert_latent (m : State) (b : Bool) : (m.alert b).latent = m.latent := by
  unfold State.alert; split <;> simp
@[simp] theorem State.alert_fns (m : State) (b : Bool) : (m.alert b).fns = m.fns := by
  unfold State.alert; split <;> simp
@[simp] theorem State.alert_cqs (m : State) (b : Bool) : (m.alert b).cqs = m.cqs := by
  unfold State.alert; split <;> simp
@[simp] theorem State.alert_rqs (m : State) (b : Bool) : (m.alert b).rqs = m.rqs := by
  unfold State.alert; split <;> simp
@[simp] theorem State.alert_dmas (m : State) (b : Bool) : (m.alert b).dmas = m.dmas := by
  unfold State.alert; split <;> simp
@[simp] theorem State.alert_hostMem (m : State) (b : Bool) : (m.alert b).hostMem = m.hostMem := by
  unfold State.alert; split <;> simp
@[simp] theorem State.alert_cals (m : State) (b : Bool) : (m.alert b).cals = m.cals := by
  unfold State.alert; split <;> simp
@[simp] theorem State.alert_catalogue (m : State) (b : Bool) : (m.alert b).catalogue = m.catalogue := by
  unfold State.alert; split <;> simp
@[simp] theorem State.alert_nv (m : State) (b : Bool) : (m.alert b).nv = m.nv := by
  unfold State.alert; split <;> simp
@[simp] theorem State.alert_faultLog (m : State) (b : Bool) : (m.alert b).faultLog = m.faultLog := by
  unfold State.alert; split <;> simp
@[simp] theorem State.alert_pfRecs (m : State) (b : Bool) : (m.alert b).pfRecs = m.pfRecs := by
  unfold State.alert; split <;> simp
@[simp] theorem State.alert_wl (m : State) (b : Bool) : (m.alert b).wl = m.wl := by
  unfold State.alert; split <;> simp
@[simp] theorem State.alert_cur (m : State) (b : Bool) : (m.alert b).cur = m.cur := by
  unfold State.alert; split <;> simp

@[simp] theorem State.logFault_pending (m : State) (t k c : Nat) (v : Int) : (m.logFault t k c v).pending = m.pending := rfl
@[simp] theorem State.logFault_held (m : State) (t k c : Nat) (v : Int) : (m.logFault t k c v).held = m.held := rfl
@[simp] theorem State.logFault_pace (m : State) (t k c : Nat) (v : Int) : (m.logFault t k c v).pace = m.pace := rfl
@[simp] theorem State.logFault_freeCtr (m : State) (t k c : Nat) (v : Int) : (m.logFault t k c v).freeCtr = m.freeCtr := rfl
@[simp] theorem State.logFault_variant (m : State) (t k c : Nat) (v : Int) : (m.logFault t k c v).variant = m.variant := rfl
@[simp] theorem State.logFault_straps (m : State) (t k c : Nat) (v : Int) : (m.logFault t k c v).straps = m.straps := rfl
@[simp] theorem State.logFault_profile (m : State) (t k c : Nat) (v : Int) : (m.logFault t k c v).profile = m.profile := rfl
@[simp] theorem State.logFault_chainEnd (m : State) (t k c : Nat) (v : Int) : (m.logFault t k c v).chainEnd = m.chainEnd := rfl
@[simp] theorem State.logFault_regs (m : State) (t k c : Nat) (v : Int) : (m.logFault t k c v).regs = m.regs := rfl
@[simp] theorem State.logFault_lat (m : State) (t k c : Nat) (v : Int) : (m.logFault t k c v).lat = m.lat := rfl
@[simp] theorem State.logFault_lanes (m : State) (t k c : Nat) (v : Int) : (m.logFault t k c v).lanes = m.lanes := rfl
@[simp] theorem State.logFault_locks (m : State) (t k c : Nat) (v : Int) : (m.logFault t k c v).locks = m.locks := rfl
@[simp] theorem State.logFault_ctxs (m : State) (t k c : Nat) (v : Int) : (m.logFault t k c v).ctxs = m.ctxs := rfl
@[simp] theorem State.logFault_engOps (m : State) (t k c : Nat) (v : Int) : (m.logFault t k c v).engOps = m.engOps := rfl
@[simp] theorem State.logFault_seqs (m : State) (t k c : Nat) (v : Int) : (m.logFault t k c v).seqs = m.seqs := rfl
@[simp] theorem State.logFault_segTab (m : State) (t k c : Nat) (v : Int) : (m.logFault t k c v).segTab = m.segTab := rfl
@[simp] theorem State.logFault_acqs (m : State) (t k c : Nat) (v : Int) : (m.logFault t k c v).acqs = m.acqs := rfl
@[simp] theorem State.logFault_substs (m : State) (t k c : Nat) (v : Int) : (m.logFault t k c v).substs = m.substs := rfl
@[simp] theorem State.logFault_tiles (m : State) (t k c : Nat) (v : Int) : (m.logFault t k c v).tiles = m.tiles := rfl
@[simp] theorem State.logFault_flight (m : State) (t k c : Nat) (v : Int) : (m.logFault t k c v).flight = m.flight := rfl
@[simp] theorem State.logFault_tscap (m : State) (t k c : Nat) (v : Int) : (m.logFault t k c v).tscap = m.tscap := rfl
@[simp] theorem State.logFault_arc (m : State) (t k c : Nat) (v : Int) : (m.logFault t k c v).arc = m.arc := rfl
@[simp] theorem State.logFault_written (m : State) (t k c : Nat) (v : Int) : (m.logFault t k c v).written = m.written := rfl
@[simp] theorem State.logFault_poison (m : State) (t k c : Nat) (v : Int) : (m.logFault t k c v).poison = m.poison := rfl
@[simp] theorem State.logFault_latent (m : State) (t k c : Nat) (v : Int) : (m.logFault t k c v).latent = m.latent := rfl
@[simp] theorem State.logFault_fns (m : State) (t k c : Nat) (v : Int) : (m.logFault t k c v).fns = m.fns := rfl
@[simp] theorem State.logFault_cqs (m : State) (t k c : Nat) (v : Int) : (m.logFault t k c v).cqs = m.cqs := rfl
@[simp] theorem State.logFault_rqs (m : State) (t k c : Nat) (v : Int) : (m.logFault t k c v).rqs = m.rqs := rfl
@[simp] theorem State.logFault_dmas (m : State) (t k c : Nat) (v : Int) : (m.logFault t k c v).dmas = m.dmas := rfl
@[simp] theorem State.logFault_hostMem (m : State) (t k c : Nat) (v : Int) : (m.logFault t k c v).hostMem = m.hostMem := rfl
@[simp] theorem State.logFault_msix (m : State) (t k c : Nat) (v : Int) : (m.logFault t k c v).msix = m.msix := rfl
@[simp] theorem State.logFault_cals (m : State) (t k c : Nat) (v : Int) : (m.logFault t k c v).cals = m.cals := rfl
@[simp] theorem State.logFault_catalogue (m : State) (t k c : Nat) (v : Int) : (m.logFault t k c v).catalogue = m.catalogue := rfl
@[simp] theorem State.logFault_nv (m : State) (t k c : Nat) (v : Int) : (m.logFault t k c v).nv = m.nv := rfl
@[simp] theorem State.logFault_pfRecs (m : State) (t k c : Nat) (v : Int) : (m.logFault t k c v).pfRecs = m.pfRecs := rfl
@[simp] theorem State.logFault_wl (m : State) (t k c : Nat) (v : Int) : (m.logFault t k c v).wl = m.wl := rfl
@[simp] theorem State.logFault_cur (m : State) (t k c : Nat) (v : Int) : (m.logFault t k c v).cur = m.cur := rfl

@[simp] theorem State.loopAt_pending (m : State) (t k : Nat) (c : Option Nat) : (m.loopAt t k c).pending = m.pending := by simp [State.loopAt]
@[simp] theorem State.loopAt_held (m : State) (t k : Nat) (c : Option Nat) : (m.loopAt t k c).held = m.held := by simp [State.loopAt]
@[simp] theorem State.loopAt_pace (m : State) (t k : Nat) (c : Option Nat) : (m.loopAt t k c).pace = m.pace := by simp [State.loopAt]
@[simp] theorem State.loopAt_freeCtr (m : State) (t k : Nat) (c : Option Nat) : (m.loopAt t k c).freeCtr = m.freeCtr := by simp [State.loopAt]
@[simp] theorem State.loopAt_variant (m : State) (t k : Nat) (c : Option Nat) : (m.loopAt t k c).variant = m.variant := by simp [State.loopAt]
@[simp] theorem State.loopAt_straps (m : State) (t k : Nat) (c : Option Nat) : (m.loopAt t k c).straps = m.straps := by simp [State.loopAt]
@[simp] theorem State.loopAt_profile (m : State) (t k : Nat) (c : Option Nat) : (m.loopAt t k c).profile = m.profile := by simp [State.loopAt]
@[simp] theorem State.loopAt_chainEnd (m : State) (t k : Nat) (c : Option Nat) : (m.loopAt t k c).chainEnd = m.chainEnd := by simp [State.loopAt]
@[simp] theorem State.loopAt_lat (m : State) (t k : Nat) (c : Option Nat) : (m.loopAt t k c).lat = m.lat := by simp [State.loopAt]
@[simp] theorem State.loopAt_lanes (m : State) (t k : Nat) (c : Option Nat) : (m.loopAt t k c).lanes = m.lanes := by simp [State.loopAt]
@[simp] theorem State.loopAt_locks (m : State) (t k : Nat) (c : Option Nat) : (m.loopAt t k c).locks = m.locks := by simp [State.loopAt]
@[simp] theorem State.loopAt_ctxs (m : State) (t k : Nat) (c : Option Nat) : (m.loopAt t k c).ctxs = m.ctxs := by simp [State.loopAt]
@[simp] theorem State.loopAt_engOps (m : State) (t k : Nat) (c : Option Nat) : (m.loopAt t k c).engOps = m.engOps := by simp [State.loopAt]
@[simp] theorem State.loopAt_seqs (m : State) (t k : Nat) (c : Option Nat) : (m.loopAt t k c).seqs = m.seqs := by simp [State.loopAt]
@[simp] theorem State.loopAt_segTab (m : State) (t k : Nat) (c : Option Nat) : (m.loopAt t k c).segTab = m.segTab := by simp [State.loopAt]
@[simp] theorem State.loopAt_acqs (m : State) (t k : Nat) (c : Option Nat) : (m.loopAt t k c).acqs = m.acqs := by simp [State.loopAt]
@[simp] theorem State.loopAt_substs (m : State) (t k : Nat) (c : Option Nat) : (m.loopAt t k c).substs = m.substs := by simp [State.loopAt]
@[simp] theorem State.loopAt_tiles (m : State) (t k : Nat) (c : Option Nat) : (m.loopAt t k c).tiles = m.tiles := by simp [State.loopAt]
@[simp] theorem State.loopAt_flight (m : State) (t k : Nat) (c : Option Nat) : (m.loopAt t k c).flight = m.flight := by simp [State.loopAt]
@[simp] theorem State.loopAt_tscap (m : State) (t k : Nat) (c : Option Nat) : (m.loopAt t k c).tscap = m.tscap := by simp [State.loopAt]
@[simp] theorem State.loopAt_arc (m : State) (t k : Nat) (c : Option Nat) : (m.loopAt t k c).arc = m.arc := by simp [State.loopAt]
@[simp] theorem State.loopAt_written (m : State) (t k : Nat) (c : Option Nat) : (m.loopAt t k c).written = m.written := by simp [State.loopAt]
@[simp] theorem State.loopAt_poison (m : State) (t k : Nat) (c : Option Nat) : (m.loopAt t k c).poison = m.poison := by simp [State.loopAt]
@[simp] theorem State.loopAt_latent (m : State) (t k : Nat) (c : Option Nat) : (m.loopAt t k c).latent = m.latent := by simp [State.loopAt]
@[simp] theorem State.loopAt_fns (m : State) (t k : Nat) (c : Option Nat) : (m.loopAt t k c).fns = m.fns := by simp [State.loopAt]
@[simp] theorem State.loopAt_cqs (m : State) (t k : Nat) (c : Option Nat) : (m.loopAt t k c).cqs = m.cqs := by simp [State.loopAt]
@[simp] theorem State.loopAt_rqs (m : State) (t k : Nat) (c : Option Nat) : (m.loopAt t k c).rqs = m.rqs := by simp [State.loopAt]
@[simp] theorem State.loopAt_dmas (m : State) (t k : Nat) (c : Option Nat) : (m.loopAt t k c).dmas = m.dmas := by simp [State.loopAt]
@[simp] theorem State.loopAt_hostMem (m : State) (t k : Nat) (c : Option Nat) : (m.loopAt t k c).hostMem = m.hostMem := by simp [State.loopAt]
@[simp] theorem State.loopAt_cals (m : State) (t k : Nat) (c : Option Nat) : (m.loopAt t k c).cals = m.cals := by simp [State.loopAt]
@[simp] theorem State.loopAt_catalogue (m : State) (t k : Nat) (c : Option Nat) : (m.loopAt t k c).catalogue = m.catalogue := by simp [State.loopAt]
@[simp] theorem State.loopAt_nv (m : State) (t k : Nat) (c : Option Nat) : (m.loopAt t k c).nv = m.nv := by simp [State.loopAt]
@[simp] theorem State.loopAt_faultLog (m : State) (t k : Nat) (c : Option Nat) : (m.loopAt t k c).faultLog = m.faultLog := by simp [State.loopAt]
@[simp] theorem State.loopAt_pfRecs (m : State) (t k : Nat) (c : Option Nat) : (m.loopAt t k c).pfRecs = m.pfRecs := by simp [State.loopAt]
@[simp] theorem State.loopAt_wl (m : State) (t k : Nat) (c : Option Nat) : (m.loopAt t k c).wl = m.wl := by simp [State.loopAt]
@[simp] theorem State.loopAt_cur (m : State) (t k : Nat) (c : Option Nat) : (m.loopAt t k c).cur = m.cur := by simp [State.loopAt]

@[simp] theorem State.fireProd_pending (m : State) (t k e h : Nat) (b : Bool) : (m.fireProd t k e h b).pending = m.pending := by
  unfold State.fireProd; split
  · rfl
  · split <;> simp
@[simp] theorem State.fireProd_held (m : State) (t k e h : Nat) (b : Bool) : (m.fireProd t k e h b).held = m.held := by
  unfold State.fireProd; split
  · rfl
  · split <;> simp
@[simp] theorem State.fireProd_pace (m : State) (t k e h : Nat) (b : Bool) : (m.fireProd t k e h b).pace = m.pace := by
  unfold State.fireProd; split
  · rfl
  · split <;> simp
@[simp] theorem State.fireProd_freeCtr (m : State) (t k e h : Nat) (b : Bool) : (m.fireProd t k e h b).freeCtr = m.freeCtr := by
  unfold State.fireProd; split
  · rfl
  · split <;> simp
@[simp] theorem State.fireProd_variant (m : State) (t k e h : Nat) (b : Bool) : (m.fireProd t k e h b).variant = m.variant := by
  unfold State.fireProd; split
  · rfl
  · split <;> simp
@[simp] theorem State.fireProd_straps (m : State) (t k e h : Nat) (b : Bool) : (m.fireProd t k e h b).straps = m.straps := by
  unfold State.fireProd; split
  · rfl
  · split <;> simp
@[simp] theorem State.fireProd_profile (m : State) (t k e h : Nat) (b : Bool) : (m.fireProd t k e h b).profile = m.profile := by
  unfold State.fireProd; split
  · rfl
  · split <;> simp
@[simp] theorem State.fireProd_chainEnd (m : State) (t k e h : Nat) (b : Bool) : (m.fireProd t k e h b).chainEnd = m.chainEnd := by
  unfold State.fireProd; split
  · rfl
  · split <;> simp
@[simp] theorem State.fireProd_lat (m : State) (t k e h : Nat) (b : Bool) : (m.fireProd t k e h b).lat = m.lat := by
  unfold State.fireProd; split
  · rfl
  · split <;> simp
@[simp] theorem State.fireProd_lanes (m : State) (t k e h : Nat) (b : Bool) : (m.fireProd t k e h b).lanes = m.lanes := by
  unfold State.fireProd; split
  · rfl
  · split <;> simp
@[simp] theorem State.fireProd_locks (m : State) (t k e h : Nat) (b : Bool) : (m.fireProd t k e h b).locks = m.locks := by
  unfold State.fireProd; split
  · rfl
  · split <;> simp
@[simp] theorem State.fireProd_ctxs (m : State) (t k e h : Nat) (b : Bool) : (m.fireProd t k e h b).ctxs = m.ctxs := by
  unfold State.fireProd; split
  · rfl
  · split <;> simp
@[simp] theorem State.fireProd_engOps (m : State) (t k e h : Nat) (b : Bool) : (m.fireProd t k e h b).engOps = m.engOps := by
  unfold State.fireProd; split
  · rfl
  · split <;> simp
@[simp] theorem State.fireProd_seqs (m : State) (t k e h : Nat) (b : Bool) : (m.fireProd t k e h b).seqs = m.seqs := by
  unfold State.fireProd; split
  · rfl
  · split <;> simp
@[simp] theorem State.fireProd_segTab (m : State) (t k e h : Nat) (b : Bool) : (m.fireProd t k e h b).segTab = m.segTab := by
  unfold State.fireProd; split
  · rfl
  · split <;> simp
@[simp] theorem State.fireProd_acqs (m : State) (t k e h : Nat) (b : Bool) : (m.fireProd t k e h b).acqs = m.acqs := by
  unfold State.fireProd; split
  · rfl
  · split <;> simp
@[simp] theorem State.fireProd_substs (m : State) (t k e h : Nat) (b : Bool) : (m.fireProd t k e h b).substs = m.substs := by
  unfold State.fireProd; split
  · rfl
  · split <;> simp
@[simp] theorem State.fireProd_tiles (m : State) (t k e h : Nat) (b : Bool) : (m.fireProd t k e h b).tiles = m.tiles := by
  unfold State.fireProd; split
  · rfl
  · split <;> simp
@[simp] theorem State.fireProd_tscap (m : State) (t k e h : Nat) (b : Bool) : (m.fireProd t k e h b).tscap = m.tscap := by
  unfold State.fireProd; split
  · rfl
  · split <;> simp
@[simp] theorem State.fireProd_arc (m : State) (t k e h : Nat) (b : Bool) : (m.fireProd t k e h b).arc = m.arc := by
  unfold State.fireProd; split
  · rfl
  · split <;> simp
@[simp] theorem State.fireProd_written (m : State) (t k e h : Nat) (b : Bool) : (m.fireProd t k e h b).written = m.written := by
  unfold State.fireProd; split
  · rfl
  · split <;> simp
@[simp] theorem State.fireProd_poison (m : State) (t k e h : Nat) (b : Bool) : (m.fireProd t k e h b).poison = m.poison := by
  unfold State.fireProd; split
  · rfl
  · split <;> simp
@[simp] theorem State.fireProd_latent (m : State) (t k e h : Nat) (b : Bool) : (m.fireProd t k e h b).latent = m.latent := by
  unfold State.fireProd; split
  · rfl
  · split <;> simp
@[simp] theorem State.fireProd_fns (m : State) (t k e h : Nat) (b : Bool) : (m.fireProd t k e h b).fns = m.fns := by
  unfold State.fireProd; split
  · rfl
  · split <;> simp
@[simp] theorem State.fireProd_cqs (m : State) (t k e h : Nat) (b : Bool) : (m.fireProd t k e h b).cqs = m.cqs := by
  unfold State.fireProd; split
  · rfl
  · split <;> simp
@[simp] theorem State.fireProd_rqs (m : State) (t k e h : Nat) (b : Bool) : (m.fireProd t k e h b).rqs = m.rqs := by
  unfold State.fireProd; split
  · rfl
  · split <;> simp
@[simp] theorem State.fireProd_dmas (m : State) (t k e h : Nat) (b : Bool) : (m.fireProd t k e h b).dmas = m.dmas := by
  unfold State.fireProd; split
  · rfl
  · split <;> simp
@[simp] theorem State.fireProd_hostMem (m : State) (t k e h : Nat) (b : Bool) : (m.fireProd t k e h b).hostMem = m.hostMem := by
  unfold State.fireProd; split
  · rfl
  · split <;> simp
@[simp] theorem State.fireProd_cals (m : State) (t k e h : Nat) (b : Bool) : (m.fireProd t k e h b).cals = m.cals := by
  unfold State.fireProd; split
  · rfl
  · split <;> simp
@[simp] theorem State.fireProd_catalogue (m : State) (t k e h : Nat) (b : Bool) : (m.fireProd t k e h b).catalogue = m.catalogue := by
  unfold State.fireProd; split
  · rfl
  · split <;> simp
@[simp] theorem State.fireProd_nv (m : State) (t k e h : Nat) (b : Bool) : (m.fireProd t k e h b).nv = m.nv := by
  unfold State.fireProd; split
  · rfl
  · split <;> simp
@[simp] theorem State.fireProd_faultLog (m : State) (t k e h : Nat) (b : Bool) : (m.fireProd t k e h b).faultLog = m.faultLog := by
  unfold State.fireProd; split
  · rfl
  · split <;> simp
@[simp] theorem State.fireProd_pfRecs (m : State) (t k e h : Nat) (b : Bool) : (m.fireProd t k e h b).pfRecs = m.pfRecs := by
  unfold State.fireProd; split
  · rfl
  · split <;> simp
@[simp] theorem State.fireProd_wl (m : State) (t k e h : Nat) (b : Bool) : (m.fireProd t k e h b).wl = m.wl := by
  unfold State.fireProd; split
  · rfl
  · split <;> simp
@[simp] theorem State.fireProd_cur (m : State) (t k e h : Nat) (b : Bool) : (m.fireProd t k e h b).cur = m.cur := by
  unfold State.fireProd; split
  · rfl
  · split <;> simp

@[simp] theorem State.laneEvent_pending (m : State) (t k : Nat) (v : LaneEv) (e h : Nat) : (m.laneEvent t k v e h).pending = m.pending := by
  unfold State.laneEvent; dsimp only; split <;> split <;> simp
@[simp] theorem State.laneEvent_held (m : State) (t k : Nat) (v : LaneEv) (e h : Nat) : (m.laneEvent t k v e h).held = m.held := by
  unfold State.laneEvent; dsimp only; split <;> split <;> simp
@[simp] theorem State.laneEvent_pace (m : State) (t k : Nat) (v : LaneEv) (e h : Nat) : (m.laneEvent t k v e h).pace = m.pace := by
  unfold State.laneEvent; dsimp only; split <;> split <;> simp
@[simp] theorem State.laneEvent_freeCtr (m : State) (t k : Nat) (v : LaneEv) (e h : Nat) : (m.laneEvent t k v e h).freeCtr = m.freeCtr := by
  unfold State.laneEvent; dsimp only; split <;> split <;> simp
@[simp] theorem State.laneEvent_variant (m : State) (t k : Nat) (v : LaneEv) (e h : Nat) : (m.laneEvent t k v e h).variant = m.variant := by
  unfold State.laneEvent; dsimp only; split <;> split <;> simp
@[simp] theorem State.laneEvent_straps (m : State) (t k : Nat) (v : LaneEv) (e h : Nat) : (m.laneEvent t k v e h).straps = m.straps := by
  unfold State.laneEvent; dsimp only; split <;> split <;> simp
@[simp] theorem State.laneEvent_profile (m : State) (t k : Nat) (v : LaneEv) (e h : Nat) : (m.laneEvent t k v e h).profile = m.profile := by
  unfold State.laneEvent; dsimp only; split <;> split <;> simp
@[simp] theorem State.laneEvent_chainEnd (m : State) (t k : Nat) (v : LaneEv) (e h : Nat) : (m.laneEvent t k v e h).chainEnd = m.chainEnd := by
  unfold State.laneEvent; dsimp only; split <;> split <;> simp
@[simp] theorem State.laneEvent_lat (m : State) (t k : Nat) (v : LaneEv) (e h : Nat) : (m.laneEvent t k v e h).lat = m.lat := by
  unfold State.laneEvent; dsimp only; split <;> split <;> simp
@[simp] theorem State.laneEvent_lanes (m : State) (t k : Nat) (v : LaneEv) (e h : Nat) : (m.laneEvent t k v e h).lanes = m.lanes := by
  unfold State.laneEvent; dsimp only; split <;> split <;> simp
@[simp] theorem State.laneEvent_locks (m : State) (t k : Nat) (v : LaneEv) (e h : Nat) : (m.laneEvent t k v e h).locks = m.locks := by
  unfold State.laneEvent; dsimp only; split <;> split <;> simp
@[simp] theorem State.laneEvent_ctxs (m : State) (t k : Nat) (v : LaneEv) (e h : Nat) : (m.laneEvent t k v e h).ctxs = m.ctxs := by
  unfold State.laneEvent; dsimp only; split <;> split <;> simp
@[simp] theorem State.laneEvent_engOps (m : State) (t k : Nat) (v : LaneEv) (e h : Nat) : (m.laneEvent t k v e h).engOps = m.engOps := by
  unfold State.laneEvent; dsimp only; split <;> split <;> simp
@[simp] theorem State.laneEvent_seqs (m : State) (t k : Nat) (v : LaneEv) (e h : Nat) : (m.laneEvent t k v e h).seqs = m.seqs := by
  unfold State.laneEvent; dsimp only; split <;> split <;> simp
@[simp] theorem State.laneEvent_segTab (m : State) (t k : Nat) (v : LaneEv) (e h : Nat) : (m.laneEvent t k v e h).segTab = m.segTab := by
  unfold State.laneEvent; dsimp only; split <;> split <;> simp
@[simp] theorem State.laneEvent_acqs (m : State) (t k : Nat) (v : LaneEv) (e h : Nat) : (m.laneEvent t k v e h).acqs = m.acqs := by
  unfold State.laneEvent; dsimp only; split <;> split <;> simp
@[simp] theorem State.laneEvent_substs (m : State) (t k : Nat) (v : LaneEv) (e h : Nat) : (m.laneEvent t k v e h).substs = m.substs := by
  unfold State.laneEvent; dsimp only; split <;> split <;> simp
@[simp] theorem State.laneEvent_tiles (m : State) (t k : Nat) (v : LaneEv) (e h : Nat) : (m.laneEvent t k v e h).tiles = m.tiles := by
  unfold State.laneEvent; dsimp only; split <;> split <;> simp
@[simp] theorem State.laneEvent_tscap (m : State) (t k : Nat) (v : LaneEv) (e h : Nat) : (m.laneEvent t k v e h).tscap = m.tscap := by
  unfold State.laneEvent; dsimp only; split <;> split <;> simp
@[simp] theorem State.laneEvent_arc (m : State) (t k : Nat) (v : LaneEv) (e h : Nat) : (m.laneEvent t k v e h).arc = m.arc := by
  unfold State.laneEvent; dsimp only; split <;> split <;> simp
@[simp] theorem State.laneEvent_written (m : State) (t k : Nat) (v : LaneEv) (e h : Nat) : (m.laneEvent t k v e h).written = m.written := by
  unfold State.laneEvent; dsimp only; split <;> split <;> simp
@[simp] theorem State.laneEvent_poison (m : State) (t k : Nat) (v : LaneEv) (e h : Nat) : (m.laneEvent t k v e h).poison = m.poison := by
  unfold State.laneEvent; dsimp only; split <;> split <;> simp
@[simp] theorem State.laneEvent_latent (m : State) (t k : Nat) (v : LaneEv) (e h : Nat) : (m.laneEvent t k v e h).latent = m.latent := by
  unfold State.laneEvent; dsimp only; split <;> split <;> simp
@[simp] theorem State.laneEvent_fns (m : State) (t k : Nat) (v : LaneEv) (e h : Nat) : (m.laneEvent t k v e h).fns = m.fns := by
  unfold State.laneEvent; dsimp only; split <;> split <;> simp
@[simp] theorem State.laneEvent_cqs (m : State) (t k : Nat) (v : LaneEv) (e h : Nat) : (m.laneEvent t k v e h).cqs = m.cqs := by
  unfold State.laneEvent; dsimp only; split <;> split <;> simp
@[simp] theorem State.laneEvent_rqs (m : State) (t k : Nat) (v : LaneEv) (e h : Nat) : (m.laneEvent t k v e h).rqs = m.rqs := by
  unfold State.laneEvent; dsimp only; split <;> split <;> simp
@[simp] theorem State.laneEvent_dmas (m : State) (t k : Nat) (v : LaneEv) (e h : Nat) : (m.laneEvent t k v e h).dmas = m.dmas := by
  unfold State.laneEvent; dsimp only; split <;> split <;> simp
@[simp] theorem State.laneEvent_hostMem (m : State) (t k : Nat) (v : LaneEv) (e h : Nat) : (m.laneEvent t k v e h).hostMem = m.hostMem := by
  unfold State.laneEvent; dsimp only; split <;> split <;> simp
@[simp] theorem State.laneEvent_cals (m : State) (t k : Nat) (v : LaneEv) (e h : Nat) : (m.laneEvent t k v e h).cals = m.cals := by
  unfold State.laneEvent; dsimp only; split <;> split <;> simp
@[simp] theorem State.laneEvent_catalogue (m : State) (t k : Nat) (v : LaneEv) (e h : Nat) : (m.laneEvent t k v e h).catalogue = m.catalogue := by
  unfold State.laneEvent; dsimp only; split <;> split <;> simp
@[simp] theorem State.laneEvent_nv (m : State) (t k : Nat) (v : LaneEv) (e h : Nat) : (m.laneEvent t k v e h).nv = m.nv := by
  unfold State.laneEvent; dsimp only; split <;> split <;> simp
@[simp] theorem State.laneEvent_faultLog (m : State) (t k : Nat) (v : LaneEv) (e h : Nat) : (m.laneEvent t k v e h).faultLog = m.faultLog := by
  unfold State.laneEvent; dsimp only; split <;> split <;> simp
@[simp] theorem State.laneEvent_pfRecs (m : State) (t k : Nat) (v : LaneEv) (e h : Nat) : (m.laneEvent t k v e h).pfRecs = m.pfRecs := by
  unfold State.laneEvent; dsimp only; split <;> split <;> simp
@[simp] theorem State.laneEvent_wl (m : State) (t k : Nat) (v : LaneEv) (e h : Nat) : (m.laneEvent t k v e h).wl = m.wl := by
  unfold State.laneEvent; dsimp only; split <;> split <;> simp
@[simp] theorem State.laneEvent_cur (m : State) (t k : Nat) (v : LaneEv) (e h : Nat) : (m.laneEvent t k v e h).cur = m.cur := by
  unfold State.laneEvent; dsimp only; split <;> split <;> simp

@[simp] theorem State.ctxEvent_pending (m : State) (t k e h : Nat) : (m.ctxEvent t k e h).pending = m.pending := by
  unfold State.ctxEvent; split <;> simp
@[simp] theorem State.ctxEvent_held (m : State) (t k e h : Nat) : (m.ctxEvent t k e h).held = m.held := by
  unfold State.ctxEvent; split <;> simp
@[simp] theorem State.ctxEvent_pace (m : State) (t k e h : Nat) : (m.ctxEvent t k e h).pace = m.pace := by
  unfold State.ctxEvent; split <;> simp
@[simp] theorem State.ctxEvent_freeCtr (m : State) (t k e h : Nat) : (m.ctxEvent t k e h).freeCtr = m.freeCtr := by
  unfold State.ctxEvent; split <;> simp
@[simp] theorem State.ctxEvent_variant (m : State) (t k e h : Nat) : (m.ctxEvent t k e h).variant = m.variant := by
  unfold State.ctxEvent; split <;> simp
@[simp] theorem State.ctxEvent_straps (m : State) (t k e h : Nat) : (m.ctxEvent t k e h).straps = m.straps := by
  unfold State.ctxEvent; split <;> simp
@[simp] theorem State.ctxEvent_profile (m : State) (t k e h : Nat) : (m.ctxEvent t k e h).profile = m.profile := by
  unfold State.ctxEvent; split <;> simp
@[simp] theorem State.ctxEvent_chainEnd (m : State) (t k e h : Nat) : (m.ctxEvent t k e h).chainEnd = m.chainEnd := by
  unfold State.ctxEvent; split <;> simp
@[simp] theorem State.ctxEvent_lat (m : State) (t k e h : Nat) : (m.ctxEvent t k e h).lat = m.lat := by
  unfold State.ctxEvent; split <;> simp
@[simp] theorem State.ctxEvent_lanes (m : State) (t k e h : Nat) : (m.ctxEvent t k e h).lanes = m.lanes := by
  unfold State.ctxEvent; split <;> simp
@[simp] theorem State.ctxEvent_locks (m : State) (t k e h : Nat) : (m.ctxEvent t k e h).locks = m.locks := by
  unfold State.ctxEvent; split <;> simp
@[simp] theorem State.ctxEvent_ctxs (m : State) (t k e h : Nat) : (m.ctxEvent t k e h).ctxs = m.ctxs := by
  unfold State.ctxEvent; split <;> simp
@[simp] theorem State.ctxEvent_engOps (m : State) (t k e h : Nat) : (m.ctxEvent t k e h).engOps = m.engOps := by
  unfold State.ctxEvent; split <;> simp
@[simp] theorem State.ctxEvent_seqs (m : State) (t k e h : Nat) : (m.ctxEvent t k e h).seqs = m.seqs := by
  unfold State.ctxEvent; split <;> simp
@[simp] theorem State.ctxEvent_segTab (m : State) (t k e h : Nat) : (m.ctxEvent t k e h).segTab = m.segTab := by
  unfold State.ctxEvent; split <;> simp
@[simp] theorem State.ctxEvent_acqs (m : State) (t k e h : Nat) : (m.ctxEvent t k e h).acqs = m.acqs := by
  unfold State.ctxEvent; split <;> simp
@[simp] theorem State.ctxEvent_substs (m : State) (t k e h : Nat) : (m.ctxEvent t k e h).substs = m.substs := by
  unfold State.ctxEvent; split <;> simp
@[simp] theorem State.ctxEvent_tiles (m : State) (t k e h : Nat) : (m.ctxEvent t k e h).tiles = m.tiles := by
  unfold State.ctxEvent; split <;> simp
@[simp] theorem State.ctxEvent_tscap (m : State) (t k e h : Nat) : (m.ctxEvent t k e h).tscap = m.tscap := by
  unfold State.ctxEvent; split <;> simp
@[simp] theorem State.ctxEvent_arc (m : State) (t k e h : Nat) : (m.ctxEvent t k e h).arc = m.arc := by
  unfold State.ctxEvent; split <;> simp
@[simp] theorem State.ctxEvent_written (m : State) (t k e h : Nat) : (m.ctxEvent t k e h).written = m.written := by
  unfold State.ctxEvent; split <;> simp
@[simp] theorem State.ctxEvent_poison (m : State) (t k e h : Nat) : (m.ctxEvent t k e h).poison = m.poison := by
  unfold State.ctxEvent; split <;> simp
@[simp] theorem State.ctxEvent_latent (m : State) (t k e h : Nat) : (m.ctxEvent t k e h).latent = m.latent := by
  unfold State.ctxEvent; split <;> simp
@[simp] theorem State.ctxEvent_fns (m : State) (t k e h : Nat) : (m.ctxEvent t k e h).fns = m.fns := by
  unfold State.ctxEvent; split <;> simp
@[simp] theorem State.ctxEvent_cqs (m : State) (t k e h : Nat) : (m.ctxEvent t k e h).cqs = m.cqs := by
  unfold State.ctxEvent; split <;> simp
@[simp] theorem State.ctxEvent_rqs (m : State) (t k e h : Nat) : (m.ctxEvent t k e h).rqs = m.rqs := by
  unfold State.ctxEvent; split <;> simp
@[simp] theorem State.ctxEvent_dmas (m : State) (t k e h : Nat) : (m.ctxEvent t k e h).dmas = m.dmas := by
  unfold State.ctxEvent; split <;> simp
@[simp] theorem State.ctxEvent_hostMem (m : State) (t k e h : Nat) : (m.ctxEvent t k e h).hostMem = m.hostMem := by
  unfold State.ctxEvent; split <;> simp
@[simp] theorem State.ctxEvent_cals (m : State) (t k e h : Nat) : (m.ctxEvent t k e h).cals = m.cals := by
  unfold State.ctxEvent; split <;> simp
@[simp] theorem State.ctxEvent_catalogue (m : State) (t k e h : Nat) : (m.ctxEvent t k e h).catalogue = m.catalogue := by
  unfold State.ctxEvent; split <;> simp
@[simp] theorem State.ctxEvent_nv (m : State) (t k e h : Nat) : (m.ctxEvent t k e h).nv = m.nv := by
  unfold State.ctxEvent; split <;> simp
@[simp] theorem State.ctxEvent_faultLog (m : State) (t k e h : Nat) : (m.ctxEvent t k e h).faultLog = m.faultLog := by
  unfold State.ctxEvent; split <;> simp
@[simp] theorem State.ctxEvent_pfRecs (m : State) (t k e h : Nat) : (m.ctxEvent t k e h).pfRecs = m.pfRecs := by
  unfold State.ctxEvent; split <;> simp
@[simp] theorem State.ctxEvent_wl (m : State) (t k e h : Nat) : (m.ctxEvent t k e h).wl = m.wl := by
  unfold State.ctxEvent; split <;> simp
@[simp] theorem State.ctxEvent_cur (m : State) (t k e h : Nat) : (m.ctxEvent t k e h).cur = m.cur := by
  unfold State.ctxEvent; split <;> simp

@[simp] theorem State.fireChan_pending (m : State) (k e h : Nat) (w : Option Nat) : (m.fireChan k e h w).pending = m.pending := rfl
@[simp] theorem State.fireChan_held (m : State) (k e h : Nat) (w : Option Nat) : (m.fireChan k e h w).held = m.held := rfl
@[simp] theorem State.fireChan_pace (m : State) (k e h : Nat) (w : Option Nat) : (m.fireChan k e h w).pace = m.pace := rfl
@[simp] theorem State.fireChan_freeCtr (m : State) (k e h : Nat) (w : Option Nat) : (m.fireChan k e h w).freeCtr = m.freeCtr := rfl
@[simp] theorem State.fireChan_variant (m : State) (k e h : Nat) (w : Option Nat) : (m.fireChan k e h w).variant = m.variant := rfl
@[simp] theorem State.fireChan_straps (m : State) (k e h : Nat) (w : Option Nat) : (m.fireChan k e h w).straps = m.straps := rfl
@[simp] theorem State.fireChan_profile (m : State) (k e h : Nat) (w : Option Nat) : (m.fireChan k e h w).profile = m.profile := rfl
@[simp] theorem State.fireChan_chainEnd (m : State) (k e h : Nat) (w : Option Nat) : (m.fireChan k e h w).chainEnd = m.chainEnd := rfl
@[simp] theorem State.fireChan_regs (m : State) (k e h : Nat) (w : Option Nat) : (m.fireChan k e h w).regs = m.regs := rfl
@[simp] theorem State.fireChan_lat (m : State) (k e h : Nat) (w : Option Nat) : (m.fireChan k e h w).lat = m.lat := rfl
@[simp] theorem State.fireChan_lanes (m : State) (k e h : Nat) (w : Option Nat) : (m.fireChan k e h w).lanes = m.lanes := rfl
@[simp] theorem State.fireChan_locks (m : State) (k e h : Nat) (w : Option Nat) : (m.fireChan k e h w).locks = m.locks := rfl
@[simp] theorem State.fireChan_ctxs (m : State) (k e h : Nat) (w : Option Nat) : (m.fireChan k e h w).ctxs = m.ctxs := rfl
@[simp] theorem State.fireChan_engOps (m : State) (k e h : Nat) (w : Option Nat) : (m.fireChan k e h w).engOps = m.engOps := rfl
@[simp] theorem State.fireChan_seqs (m : State) (k e h : Nat) (w : Option Nat) : (m.fireChan k e h w).seqs = m.seqs := rfl
@[simp] theorem State.fireChan_segTab (m : State) (k e h : Nat) (w : Option Nat) : (m.fireChan k e h w).segTab = m.segTab := rfl
@[simp] theorem State.fireChan_acqs (m : State) (k e h : Nat) (w : Option Nat) : (m.fireChan k e h w).acqs = m.acqs := rfl
@[simp] theorem State.fireChan_substs (m : State) (k e h : Nat) (w : Option Nat) : (m.fireChan k e h w).substs = m.substs := rfl
@[simp] theorem State.fireChan_tiles (m : State) (k e h : Nat) (w : Option Nat) : (m.fireChan k e h w).tiles = m.tiles := rfl
@[simp] theorem State.fireChan_tscap (m : State) (k e h : Nat) (w : Option Nat) : (m.fireChan k e h w).tscap = m.tscap := rfl
@[simp] theorem State.fireChan_arc (m : State) (k e h : Nat) (w : Option Nat) : (m.fireChan k e h w).arc = m.arc := rfl
@[simp] theorem State.fireChan_written (m : State) (k e h : Nat) (w : Option Nat) : (m.fireChan k e h w).written = m.written := rfl
@[simp] theorem State.fireChan_poison (m : State) (k e h : Nat) (w : Option Nat) : (m.fireChan k e h w).poison = m.poison := rfl
@[simp] theorem State.fireChan_latent (m : State) (k e h : Nat) (w : Option Nat) : (m.fireChan k e h w).latent = m.latent := rfl
@[simp] theorem State.fireChan_fns (m : State) (k e h : Nat) (w : Option Nat) : (m.fireChan k e h w).fns = m.fns := rfl
@[simp] theorem State.fireChan_cqs (m : State) (k e h : Nat) (w : Option Nat) : (m.fireChan k e h w).cqs = m.cqs := rfl
@[simp] theorem State.fireChan_rqs (m : State) (k e h : Nat) (w : Option Nat) : (m.fireChan k e h w).rqs = m.rqs := rfl
@[simp] theorem State.fireChan_dmas (m : State) (k e h : Nat) (w : Option Nat) : (m.fireChan k e h w).dmas = m.dmas := rfl
@[simp] theorem State.fireChan_hostMem (m : State) (k e h : Nat) (w : Option Nat) : (m.fireChan k e h w).hostMem = m.hostMem := rfl
@[simp] theorem State.fireChan_msix (m : State) (k e h : Nat) (w : Option Nat) : (m.fireChan k e h w).msix = m.msix := rfl
@[simp] theorem State.fireChan_cals (m : State) (k e h : Nat) (w : Option Nat) : (m.fireChan k e h w).cals = m.cals := rfl
@[simp] theorem State.fireChan_catalogue (m : State) (k e h : Nat) (w : Option Nat) : (m.fireChan k e h w).catalogue = m.catalogue := rfl
@[simp] theorem State.fireChan_nv (m : State) (k e h : Nat) (w : Option Nat) : (m.fireChan k e h w).nv = m.nv := rfl
@[simp] theorem State.fireChan_faultLog (m : State) (k e h : Nat) (w : Option Nat) : (m.fireChan k e h w).faultLog = m.faultLog := rfl
@[simp] theorem State.fireChan_pfRecs (m : State) (k e h : Nat) (w : Option Nat) : (m.fireChan k e h w).pfRecs = m.pfRecs := rfl
@[simp] theorem State.fireChan_wl (m : State) (k e h : Nat) (w : Option Nat) : (m.fireChan k e h w).wl = m.wl := rfl
@[simp] theorem State.fireChan_cur (m : State) (k e h : Nat) (w : Option Nat) : (m.fireChan k e h w).cur = m.cur := rfl

@[simp] theorem State.refuse_pending (m : State) (t k : Nat) (y : Why) : (m.refuse t k y).pending = m.pending := by simp [State.refuse]
@[simp] theorem State.refuse_held (m : State) (t k : Nat) (y : Why) : (m.refuse t k y).held = m.held := by simp [State.refuse]
@[simp] theorem State.refuse_pace (m : State) (t k : Nat) (y : Why) : (m.refuse t k y).pace = m.pace := by simp [State.refuse]
@[simp] theorem State.refuse_freeCtr (m : State) (t k : Nat) (y : Why) : (m.refuse t k y).freeCtr = m.freeCtr := by simp [State.refuse]
@[simp] theorem State.refuse_variant (m : State) (t k : Nat) (y : Why) : (m.refuse t k y).variant = m.variant := by simp [State.refuse]
@[simp] theorem State.refuse_straps (m : State) (t k : Nat) (y : Why) : (m.refuse t k y).straps = m.straps := by simp [State.refuse]
@[simp] theorem State.refuse_profile (m : State) (t k : Nat) (y : Why) : (m.refuse t k y).profile = m.profile := by simp [State.refuse]
@[simp] theorem State.refuse_chainEnd (m : State) (t k : Nat) (y : Why) : (m.refuse t k y).chainEnd = m.chainEnd := by simp [State.refuse]
@[simp] theorem State.refuse_lat (m : State) (t k : Nat) (y : Why) : (m.refuse t k y).lat = m.lat := by simp [State.refuse]
@[simp] theorem State.refuse_lanes (m : State) (t k : Nat) (y : Why) : (m.refuse t k y).lanes = m.lanes := by simp [State.refuse]
@[simp] theorem State.refuse_locks (m : State) (t k : Nat) (y : Why) : (m.refuse t k y).locks = m.locks := by simp [State.refuse]
@[simp] theorem State.refuse_ctxs (m : State) (t k : Nat) (y : Why) : (m.refuse t k y).ctxs = m.ctxs := by simp [State.refuse]
@[simp] theorem State.refuse_engOps (m : State) (t k : Nat) (y : Why) : (m.refuse t k y).engOps = m.engOps := by simp [State.refuse]
@[simp] theorem State.refuse_seqs (m : State) (t k : Nat) (y : Why) : (m.refuse t k y).seqs = m.seqs := by simp [State.refuse]
@[simp] theorem State.refuse_segTab (m : State) (t k : Nat) (y : Why) : (m.refuse t k y).segTab = m.segTab := by simp [State.refuse]
@[simp] theorem State.refuse_acqs (m : State) (t k : Nat) (y : Why) : (m.refuse t k y).acqs = m.acqs := by simp [State.refuse]
@[simp] theorem State.refuse_substs (m : State) (t k : Nat) (y : Why) : (m.refuse t k y).substs = m.substs := by simp [State.refuse]
@[simp] theorem State.refuse_tiles (m : State) (t k : Nat) (y : Why) : (m.refuse t k y).tiles = m.tiles := by simp [State.refuse]
@[simp] theorem State.refuse_flight (m : State) (t k : Nat) (y : Why) : (m.refuse t k y).flight = m.flight := by simp [State.refuse]
@[simp] theorem State.refuse_tscap (m : State) (t k : Nat) (y : Why) : (m.refuse t k y).tscap = m.tscap := by simp [State.refuse]
@[simp] theorem State.refuse_arc (m : State) (t k : Nat) (y : Why) : (m.refuse t k y).arc = m.arc := by simp [State.refuse]
@[simp] theorem State.refuse_written (m : State) (t k : Nat) (y : Why) : (m.refuse t k y).written = m.written := by simp [State.refuse]
@[simp] theorem State.refuse_poison (m : State) (t k : Nat) (y : Why) : (m.refuse t k y).poison = m.poison := by simp [State.refuse]
@[simp] theorem State.refuse_latent (m : State) (t k : Nat) (y : Why) : (m.refuse t k y).latent = m.latent := by simp [State.refuse]
@[simp] theorem State.refuse_fns (m : State) (t k : Nat) (y : Why) : (m.refuse t k y).fns = m.fns := by simp [State.refuse]
@[simp] theorem State.refuse_cqs (m : State) (t k : Nat) (y : Why) : (m.refuse t k y).cqs = m.cqs := by simp [State.refuse]
@[simp] theorem State.refuse_rqs (m : State) (t k : Nat) (y : Why) : (m.refuse t k y).rqs = m.rqs := by simp [State.refuse]
@[simp] theorem State.refuse_dmas (m : State) (t k : Nat) (y : Why) : (m.refuse t k y).dmas = m.dmas := by simp [State.refuse]
@[simp] theorem State.refuse_hostMem (m : State) (t k : Nat) (y : Why) : (m.refuse t k y).hostMem = m.hostMem := by simp [State.refuse]
@[simp] theorem State.refuse_cals (m : State) (t k : Nat) (y : Why) : (m.refuse t k y).cals = m.cals := by simp [State.refuse]
@[simp] theorem State.refuse_catalogue (m : State) (t k : Nat) (y : Why) : (m.refuse t k y).catalogue = m.catalogue := by simp [State.refuse]
@[simp] theorem State.refuse_nv (m : State) (t k : Nat) (y : Why) : (m.refuse t k y).nv = m.nv := by simp [State.refuse]
@[simp] theorem State.refuse_faultLog (m : State) (t k : Nat) (y : Why) : (m.refuse t k y).faultLog = m.faultLog := by simp [State.refuse]
@[simp] theorem State.refuse_pfRecs (m : State) (t k : Nat) (y : Why) : (m.refuse t k y).pfRecs = m.pfRecs := by simp [State.refuse]
@[simp] theorem State.refuse_wl (m : State) (t k : Nat) (y : Why) : (m.refuse t k y).wl = m.wl := by simp [State.refuse]
@[simp] theorem State.refuse_cur (m : State) (t k : Nat) (y : Why) : (m.refuse t k y).cur = m.cur := by simp [State.refuse]

@[simp] theorem State.refuseTile_pending (m : State) (t : Nat) (y : Why) : (m.refuseTile t y).pending = m.pending := by simp [State.refuseTile]
@[simp] theorem State.refuseTile_held (m : State) (t : Nat) (y : Why) : (m.refuseTile t y).held = m.held := by simp [State.refuseTile]
@[simp] theorem State.refuseTile_pace (m : State) (t : Nat) (y : Why) : (m.refuseTile t y).pace = m.pace := by simp [State.refuseTile]
@[simp] theorem State.refuseTile_freeCtr (m : State) (t : Nat) (y : Why) : (m.refuseTile t y).freeCtr = m.freeCtr := by simp [State.refuseTile]
@[simp] theorem State.refuseTile_variant (m : State) (t : Nat) (y : Why) : (m.refuseTile t y).variant = m.variant := by simp [State.refuseTile]
@[simp] theorem State.refuseTile_straps (m : State) (t : Nat) (y : Why) : (m.refuseTile t y).straps = m.straps := by simp [State.refuseTile]
@[simp] theorem State.refuseTile_profile (m : State) (t : Nat) (y : Why) : (m.refuseTile t y).profile = m.profile := by simp [State.refuseTile]
@[simp] theorem State.refuseTile_chainEnd (m : State) (t : Nat) (y : Why) : (m.refuseTile t y).chainEnd = m.chainEnd := by simp [State.refuseTile]
@[simp] theorem State.refuseTile_lat (m : State) (t : Nat) (y : Why) : (m.refuseTile t y).lat = m.lat := by simp [State.refuseTile]
@[simp] theorem State.refuseTile_lanes (m : State) (t : Nat) (y : Why) : (m.refuseTile t y).lanes = m.lanes := by simp [State.refuseTile]
@[simp] theorem State.refuseTile_locks (m : State) (t : Nat) (y : Why) : (m.refuseTile t y).locks = m.locks := by simp [State.refuseTile]
@[simp] theorem State.refuseTile_ctxs (m : State) (t : Nat) (y : Why) : (m.refuseTile t y).ctxs = m.ctxs := by simp [State.refuseTile]
@[simp] theorem State.refuseTile_engOps (m : State) (t : Nat) (y : Why) : (m.refuseTile t y).engOps = m.engOps := by simp [State.refuseTile]
@[simp] theorem State.refuseTile_seqs (m : State) (t : Nat) (y : Why) : (m.refuseTile t y).seqs = m.seqs := by simp [State.refuseTile]
@[simp] theorem State.refuseTile_segTab (m : State) (t : Nat) (y : Why) : (m.refuseTile t y).segTab = m.segTab := by simp [State.refuseTile]
@[simp] theorem State.refuseTile_acqs (m : State) (t : Nat) (y : Why) : (m.refuseTile t y).acqs = m.acqs := by simp [State.refuseTile]
@[simp] theorem State.refuseTile_substs (m : State) (t : Nat) (y : Why) : (m.refuseTile t y).substs = m.substs := by simp [State.refuseTile]
@[simp] theorem State.refuseTile_tiles (m : State) (t : Nat) (y : Why) : (m.refuseTile t y).tiles = m.tiles := by simp [State.refuseTile]
@[simp] theorem State.refuseTile_flight (m : State) (t : Nat) (y : Why) : (m.refuseTile t y).flight = m.flight := by simp [State.refuseTile]
@[simp] theorem State.refuseTile_tscap (m : State) (t : Nat) (y : Why) : (m.refuseTile t y).tscap = m.tscap := by simp [State.refuseTile]
@[simp] theorem State.refuseTile_arc (m : State) (t : Nat) (y : Why) : (m.refuseTile t y).arc = m.arc := by simp [State.refuseTile]
@[simp] theorem State.refuseTile_written (m : State) (t : Nat) (y : Why) : (m.refuseTile t y).written = m.written := by simp [State.refuseTile]
@[simp] theorem State.refuseTile_poison (m : State) (t : Nat) (y : Why) : (m.refuseTile t y).poison = m.poison := by simp [State.refuseTile]
@[simp] theorem State.refuseTile_latent (m : State) (t : Nat) (y : Why) : (m.refuseTile t y).latent = m.latent := by simp [State.refuseTile]
@[simp] theorem State.refuseTile_fns (m : State) (t : Nat) (y : Why) : (m.refuseTile t y).fns = m.fns := by simp [State.refuseTile]
@[simp] theorem State.refuseTile_cqs (m : State) (t : Nat) (y : Why) : (m.refuseTile t y).cqs = m.cqs := by simp [State.refuseTile]
@[simp] theorem State.refuseTile_rqs (m : State) (t : Nat) (y : Why) : (m.refuseTile t y).rqs = m.rqs := by simp [State.refuseTile]
@[simp] theorem State.refuseTile_dmas (m : State) (t : Nat) (y : Why) : (m.refuseTile t y).dmas = m.dmas := by simp [State.refuseTile]
@[simp] theorem State.refuseTile_hostMem (m : State) (t : Nat) (y : Why) : (m.refuseTile t y).hostMem = m.hostMem := by simp [State.refuseTile]
@[simp] theorem State.refuseTile_cals (m : State) (t : Nat) (y : Why) : (m.refuseTile t y).cals = m.cals := by simp [State.refuseTile]
@[simp] theorem State.refuseTile_catalogue (m : State) (t : Nat) (y : Why) : (m.refuseTile t y).catalogue = m.catalogue := by simp [State.refuseTile]
@[simp] theorem State.refuseTile_nv (m : State) (t : Nat) (y : Why) : (m.refuseTile t y).nv = m.nv := by simp [State.refuseTile]
@[simp] theorem State.refuseTile_faultLog (m : State) (t : Nat) (y : Why) : (m.refuseTile t y).faultLog = m.faultLog := by simp [State.refuseTile]
@[simp] theorem State.refuseTile_pfRecs (m : State) (t : Nat) (y : Why) : (m.refuseTile t y).pfRecs = m.pfRecs := by simp [State.refuseTile]
@[simp] theorem State.refuseTile_wl (m : State) (t : Nat) (y : Why) : (m.refuseTile t y).wl = m.wl := by simp [State.refuseTile]
@[simp] theorem State.refuseTile_cur (m : State) (t : Nat) (y : Why) : (m.refuseTile t y).cur = m.cur := by simp [State.refuseTile]

/-! Register fields. -/

@[simp] theorem signal_r (b a : State) (p q : Page) (g : Fld) : (signal b a p).r q g = a.r q g := State.r_of_regs (by simp) q g

/-- An event flag that hardware sets reads 1, cut to its width (R447); no other field changes. -/
theorem State.r_flag (m : State) (p q : Page) (f g : Fld) :
    (m.flag p f).r q g = if g = f ∧ q = p then 1 % 2 ^ f.w else m.r q g := by
  simp only [State.flag, signal_r, State.r_w]

/-- A count that counts one event, cut to its width (R451). -/
theorem State.r_inc (m : State) (p q : Page) (f g : Fld) :
    (m.inc p f).r q g = if g = f ∧ q = p then (m.r p f + 1) % 2 ^ f.w else m.r q g := by
  simp only [State.inc, State.r_w]

/-- Fields of one page written in turn: the first of them, then the rest. -/
theorem State.ws_cons (m : State) (p : Page) (f : Fld) (v : Nat) (l : List (Fld × Nat)) : m.ws p ((f, v) :: l) = (m.w p f v).ws p l := rfl
@[simp] theorem State.ws_nil (m : State) (p : Page) : m.ws p [] = m := rfl

/-- The fields of other pages stay. -/
theorem State.r_ws_page (m : State) {p q : Page} (l : List (Fld × Nat)) (g : Fld) (h : q ≠ p) : (m.ws p l).r q g = m.r q g := by
  induction l generalizing m with
  | nil => rfl
  | cons x l ih => obtain ⟨f, v⟩ := x; rw [State.ws_cons, ih]; exact m.r_w_other v (fun h2 => h h2.2)

/-- The latched fields hold what is stored (R22). -/
theorem State.l_latch_other (m : State) {p q : Page} (l : List Fld) (g : Fld) (h : ¬(g ∈ l ∧ q = p)) : (m.latch p l).l q g = m.l q g := by
  induction l generalizing m with
  | nil => rfl
  | cons f l ih =>
    have h1 : ¬(g ∈ l ∧ q = p) := fun h2 => h ⟨List.mem_cons_of_mem _ h2.1, h2.2⟩
    have h2 : ¬(g = f ∧ q = p) := fun h2 => h ⟨by simp [h2.1], h2.2⟩
    simp only [State.latch, ih _ h1]
    exact regGet_regSet_other m.lat _ h2

theorem State.latch_r (m : State) (p q : Page) (l : List Fld) (g : Fld) : (m.latch p l).r q g = m.r q g := State.r_of_regs (by simp) q g

/-- What a latch puts in force is the value stored (R22). -/
theorem State.l_latch_mem (m : State) (p : Page) (l : List Fld) (g : Fld) (h : g ∈ l) : (m.latch p l).l p g = m.r p g := by
  induction l generalizing m with
  | nil => cases h
  | cons f l ih =>
    simp only [State.latch]
    by_cases hg : g ∈ l
    · rw [ih _ hg]; rfl
    · rw [State.l_latch_other _ l g (fun h2 => hg h2.1)]
      rcases List.mem_cons.mp h with rfl | h2
      · exact regGet_regSet_same _ _ _ _
      · exact absurd h2 hg

theorem State.r_setSw (m : State) (t k : Nat) (x : Sw) (e : Nat) (q : Page) (g : Fld) :
    (m.setSw t k x e).r q g = if g = .laneSwState ∧ q = .lane t k then x.code % 16 else m.r q g :=
  m.r_w (.lane t k) q .laneSwState g x.code

theorem State.r_fireProd (m : State) (t k e h : Nat) (b : Bool) (q : Page) (g : Fld) (hq : q ≠ .bat t) :
    (m.fireProd t k e h b).r q g = m.r q g := by
  unfold State.fireProd; split
  · rfl
  · split
    · unfold State.loopAt; rw [State.r_flag, if_neg (fun h2 => hq h2.2), State.r_ws_page _ _ _ hq]
    · rfl

theorem State.r_laneEvent (m : State) (t k : Nat) (v : LaneEv) (e h : Nat) (q : Page) (g : Fld) (hq : q ≠ .bat t) :
    (m.laneEvent t k v e h).r q g = m.r q g := by
  unfold State.laneEvent; dsimp only; split <;> split <;> simp [State.r_fireProd, hq]

theorem State.r_ctxEvent (m : State) (t k e h : Nat) (q : Page) (g : Fld) (hq : q ≠ .bat t) :
    (m.ctxEvent t k e h).r q g = m.r q g := by
  unfold State.ctxEvent; split <;> simp [State.r_fireProd, hq]

theorem State.r_refuse (m : State) (t k : Nat) (y : Why) (q : Page) (g : Fld) (hq : q ≠ .lane t k) : (m.refuse t k y).r q g = m.r q g := by
  simp [State.refuse, State.r_inc, State.r_w, State.r_flag, hq]

/-! Reads of what stands beside the pages follow from the fields. -/

theorem State.lane_of {m m' : State} (h : m'.lanes = m.lanes) (t k : Nat) : m'.lane t k = m.lane t k := by simp [State.lane, h]
theorem State.ctx_of {m m' : State} (h : m'.ctxs = m.ctxs) (i : Nat) : m'.ctx i = m.ctx i := by simp [State.ctx, h]
theorem State.seq_of {m m' : State} (h : m'.seqs = m.seqs) (t : Nat) : m'.seq t = m.seq t := by simp [State.seq, h]
theorem State.acq_of {m m' : State} (h : m'.acqs = m.acqs) (t : Nat) : m'.acq t = m.acq t := by simp [State.acq, h]
theorem State.subst_of {m m' : State} (h : m'.substs = m.substs) (t : Nat) : m'.subst t = m.subst t := by simp [State.subst, h]
theorem State.tile_of {m m' : State} (h : m'.tiles = m.tiles) (t : Nat) : m'.tile t = m.tile t := by simp [State.tile, h]
theorem State.fn_of {m m' : State} (h : m'.fns = m.fns) (f : Nat) : m'.fn f = m.fn f := by simp [State.fn, h]
theorem State.cq_of {m m' : State} (h : m'.cqs = m.cqs) (f n : Nat) : m'.cq f n = m.cq f n := by simp [State.cq, h]
theorem State.msi_of {m m' : State} (h : m'.msix = m.msix) (f : Nat) : m'.msi f = m.msi f := by simp [State.msi, h]
theorem State.rq_of {m m' : State} (h : m'.rqs = m.rqs) (f n : Nat) : m'.rq f n = m.rq f n := by simp [State.rq, h]

end Sys2Proof.Machine
end

