-- ==== Sys2Proof/WellFormed.lean ====
section
/-! DEFINITION. When a command's operands lie in the ranges of the spec's numbering (R12, R122, R319, R410, R485): the
check is decidable and every range is checked on its own. -/

namespace Sys2Proof

/-- A host access: one of 17 functions, BAR0 or BAR4, an offset inside the BAR (R408). -/
def Acc.wf (a : Acc) : Bool :=
  decide (a.fn < 17 ∧ ((a.bar = 0 ∧ a.off < 0x4000000) ∨ (a.bar = 4 ∧ a.off < 0x400000)))

/-- The parameters of CTX_OPEN fit their fields (R122). -/
def CtxParams.wf (p : CtxParams) : Bool :=
  decide (p.lane < 256 ∧ p.laddr < 2 ^ 64 ∧ p.llen < 2 ^ 17 ∧ p.prio < 4 ∧ p.qahead < 2048 ∧ p.rq < 16 ∧
    p.abortOn < 16 ∧ p.abortEv < 16)

/-- The parameters of a calibration request fit their fields (R319, R425). -/
def CalParams.wf (p : CalParams) : Bool :=
  decide (p.lanes.length = 16 ∧ p.subst < 65536 ∧ p.kinds < 32 ∧ p.set < 16 ∧ p.waitMs < 65536 ∧ p.doneEv < 16) &&
    p.lanes.all fun l => decide (l < 512)

/-- A Walul frame fits its fields (R365). -/
def WlFrame.wf (f : WlFrame) : Bool :=
  decide (f.chan < 16 ∧ f.tick16 < 65536 ∧ f.hop < 16 ∧ f.origin < 8)

/-- The straps (R355). -/
def Straps.wf (s : Straps) : Bool := decide (s.index < 8 ∧ s.topo < 4)

/-- A list of values is left out or has its length. -/
def lenOk {α : Type} (l : List α) (n : Nat) : Bool := l.isEmpty || l.length == n

/-- The values of a calibration pass have their numbers and widths (R306, R307, R311, R315). -/
def PassMeas.wf (x : PassMeas) : Bool :=
  lenOk x.capHits 35 && lenOk x.below 256 && lenOk x.bitHits 13 && lenOk x.weights 68 && lenOk x.dacBelow 256 && lenOk x.dacHits 14 &&
  (x.capHits ++ x.below ++ x.bitHits ++ x.dacBelow ++ x.dacHits).all (fun c => decide (c ≤ 4194304)) && lenOk x.hold 2 &&
  lenOk x.vRef 3 && lenOk x.vOff 3 && lenOk x.iForce 7 && lenOk x.iMeas 7 && lenOk x.iOff 7 &&
  lenOk x.mons 2 && x.mons.all (fun v => decide (0 ≤ v ∧ v < 64)) && lenOk x.edgeLate 4 && x.edgeLate.all (fun l => l.length == 64)

/-- The measurements of a lane's calibration (R326, R327). -/
def CalMeas.wf (x : CalMeas) : Bool :=
  x.pass1.wf && x.pass2.wf && lenOk x.quality.offsPa 7 && decide (x.quality.mon0 < 8 ∧ x.quality.mon1 < 8)

/-- The hits of a fine delay line's positions, of 1,048,576 edges (R331). -/
def lineWf (l : List Nat) : Bool := l.length == 160 && l.sum == 1048576

/-- The operands of a command lie in their ranges. -/
def Instr.wf : Instr → Bool
  | .registerWrite a _ => a.wf && decide (a.off % 4 = 0)
  | .malformedAccess a _ => a.wf
  | .pageCtrlWrite a _ => a.wf
  | .mbxSelWrite a item => a.wf && decide (item < 65536)
  | .mbxSnapshot a => a.wf
  | .commit a item => a.wf && decide (item < 65536)
  | .mbxCommitApply a _ _ => a.wf
  | .connect fn t s => decide (fn < 17 ∧ t < 16 ∧ s < 10)
  | .disconnect fn t s => decide (fn < 17 ∧ t < 16 ∧ s < 10)
  | .laneForceWrite fn t s _ => decide (fn < 17 ∧ t < 16 ∧ s < 10)
  | .latchTick t s => decide (t < 16 ∧ s < 10)
  | .dacSample t s => decide (t < 16 ∧ s < 10)
  | .loadStrobe g hop => decide (g < 16 ∧ hop < 15)
  | .adcSample t s _ => decide (t < 16 ∧ s < 10)
  | .apertureEnd t s => decide (t < 16 ∧ s < 10)
  | .oldElementOpen t s => decide (t < 16 ∧ s < 10)
  | .rangingWindowEnd t s => decide (t < 16 ∧ s < 10)
  | .railMoveDown t s => decide (t < 16 ∧ s < 10)
  | .openLoad t s => decide (t < 16 ∧ s < 10)
  | .complLong t s => decide (t < 16 ∧ s < 10)
  | .pulseStartCmd fn t s => decide (fn < 17 ∧ t < 16 ∧ s < 10)
  | .pulseStopCmd fn t s => decide (fn < 17 ∧ t < 16 ∧ s < 10)
  | .lanePulseGo t s hop => decide (t < 16 ∧ s < 10 ∧ hop < 15)
  | .pulseStart t s => decide (t < 16 ∧ s < 10)
  | .pulseEnd t s => decide (t < 16 ∧ s < 10)
  | .pulseMeas t s => decide (t < 16 ∧ s < 10)
  | .preconnectEnd t s => decide (t < 16 ∧ s < 10)
  | .forceSwitchClose t s => decide (t < 16 ∧ s < 10)
  | .swap t s => decide (t < 16 ∧ s < 10)
  | .connected t s => decide (t < 16 ∧ s < 10)
  | .disconnectRampStep t s => decide (t < 16 ∧ s < 10)
  | .disconnectSwitchOpen t s => decide (t < 16 ∧ s < 10)
  | .lanePersWrite fn t s _ => decide (fn < 17 ∧ t < 16 ∧ s < 10)
  | .ddsZeroCrossExit t s => decide (t < 16 ∧ s < 10)
  | .toPinStep t s => decide (t < 16 ∧ s < 10)
  | .toSmuStep t s => decide (t < 16 ∧ s < 10)
  | .tileGangWrite fn t g _ => decide (fn < 17 ∧ t < 16 ∧ g < 4)
  | .tileBoostWrite fn t _ => decide (fn < 17 ∧ t < 16)
  | .boostFault t _ => decide (t < 16)
  | .boostSenseOverdrive t _ _ => decide (t < 16)
  | .laneRst fn t s => decide (fn < 17 ∧ t < 16 ∧ s < 10)
  | .trip t s n _ sub => decide (t < 16 ∧ s < 10 ∧ n < 2 ∧ sub < 128)
  | .tripClampRelease t s inp => decide (t < 16 ∧ s < 10 ∧ inp.n < 2)
  | .tripClear fn t s n => decide (fn < 17 ∧ t < 16 ∧ s < 10 ∧ n < 2)
  | .wmFilteredChange t s n => decide (t < 16 ∧ s < 10 ∧ n < 2)
  | .wmchkRun fn t s n => decide (fn < 17 ∧ t < 16 ∧ s < 10 ∧ n < 2)
  | .wmchkDone t s r => decide (t < 16 ∧ s < 10 ∧ r.length = 6 ∧ ∀ k ∈ r, k.raw < 3 ∧ k.filt < 3)
  | .foldback t s => decide (t < 16 ∧ s < 10)
  | .foldbackRestore t s => decide (t < 16 ∧ s < 10)
  | .fclr fn t s => decide (fn < 17 ∧ t < 16 ∧ s < 10)
  | .overdrive t s _ => decide (t < 16 ∧ s < 10)
  | .probePhase t s => decide (t < 16 ∧ s < 10)
  | .openCheckEval t s restOn restOff => decide (t < 16 ∧ s < 10 ∧ restOn.length = 8 ∧ restOff.length = 8)
  | .vinReversed _ => true
  | .refinLost _ => true
  | .refinRestored => true
  | .refinLocked => true
  | .tempReading _ _ _ => true
  | .tfoldRelease t => decide (t < 16)
  | .budgetEval _ => true
  | .ctxOpen fn p => p.wf && decide (fn < 17)
  | .ctxStart fn id go => decide (fn < 17 ∧ id < 4096 ∧ go < 16)
  | .ctxAbort fn id => decide (fn < 17 ∧ id < 4096)
  | .ctxClose fn id => decide (fn < 17 ∧ id < 4096)
  | .ctxPrio fn id prio => decide (fn < 17 ∧ id < 4096 ∧ prio < 4)
  | .lockGrant t => decide (t < 16)
  | .dispatch t => decide (t < 16)
  | .descPrefetch id _ _ => decide (id < 4096)
  | .nop id => decide (id < 4096)
  | .config id => decide (id < 4096)
  | .lin id => decide (id < 4096)
  | .list id => decide (id < 4096)
  | .meas id => decide (id < 4096)
  | .limit id => decide (id < 4096)
  | .wait id => decide (id < 4096)
  | .fire id => decide (id < 4096)
  | .jump id => decide (id < 4096)
  | .endList id => decide (id < 4096)
  | .apertureResultRead id => decide (id < 4096)
  | .resultPacket id => decide (id < 4096)
  | .ctxGo t ch hop => decide (t < 16 ∧ ch < 8 ∧ hop < 15)
  | .waitEnd id => decide (id < 4096)
  | .waitTimeout id => decide (id < 4096)
  | .runComplete id => decide (id < 4096)
  | .seqStart fn t => decide (fn < 17 ∧ t < 16)
  | .seqAbort fn t => decide (fn < 17 ∧ t < 16)
  | .seqLockGrant t => decide (t < 16)
  | .stagingComplete t _ => decide (t < 16)
  | .seqGo t hop => decide (t < 16 ∧ hop < 15)
  | .lockInPoint t => decide (t < 16)
  | .granuleBoundary t => decide (t < 16)
  | .segmentBoundary t => decide (t < 16)
  | .seqJumpReq fn t target => decide (fn < 17 ∧ t < 16 ∧ target < 4096)
  | .seqJreq t j hop => decide (t < 16 ∧ j < 4 ∧ hop < 15)
  | .vectorCycle t _ _ => decide (t < 16)
  | .ddsListStep t => decide (t < 16)
  | .granuleRefill t _ => decide (t < 16)
  | .holdResume t => decide (t < 16)
  | .acqArm fn t => decide (fn < 17 ∧ t < 16)
  | .acqTrig fn t => decide (fn < 17 ∧ t < 16)
  | .acqAbort fn t => decide (fn < 17 ∧ t < 16)
  | .acqArmIn t hop => decide (t < 16 ∧ hop < 15)
  | .acqTrigIn t hop => decide (t < 16 ∧ hop < 15)
  | .acqFireIn t hop => decide (t < 16 ∧ hop < 15)
  | .acqFrame t _ => decide (t < 16)
  | .recordEnd t => decide (t < 16)
  | .rearmDone t => decide (t < 16)
  | .rateReduction t _ port => decide (t < 16 ∧ port < 2)
  | .recordCommit t => decide (t < 16)
  | .accountingWindow => true
  | .patrolScrub word _ => decide (word < 2 ^ 34)
  | .bar2Read fn off len _ => decide (fn < 17 ∧ off < 2 ^ 64 ∧ len < 2 ^ 32)
  | .bar2Write fn off _ _ _ => decide (fn < 17 ∧ off < 2 ^ 64)
  | .batonDelivery => true
  | .batFire fn t v => decide (fn < 17 ∧ t < 16 ∧ v < 256)
  | .batTrkFire fn v => decide (fn < 17 ∧ v < 256)
  | .routeWrite a _ => a.wf && decide (a.off % 4 = 0)
  | .trigInput n sub => decide (n < 8 ∧ sub < 128)
  | .trigoutEnd n => decide (n < 8)
  | .catReq fn p => p.wf && decide (fn < 17)
  | .calReq fn q tag rq p => p.wf && decide (fn < 17 ∧ q < 8 ∧ tag < 65536 ∧ rq < 16)
  | .invalidate fn scope set t s => decide (fn < 17 ∧ scope < 3 ∧ set < 8 ∧ t < 16 ∧ s < 16)
  | .catAbort fn run => decide (fn < 17 ∧ run < 65536)
  | .calAbort fn tag => decide (fn < 17 ∧ tag < 65536)
  | .calLaneTurn t => decide (t < 16)
  | .pendingTimeout t s => decide (t < 16 ∧ s < 10)
  | .calLaneEnd t m => m.wf && decide (t < 16)
  | .catCommit run => decide (run < 65536)
  | .interpolation t s => decide (t < 16 ∧ s < 10)
  | .autoRecal t => decide (t < 16)
  | .autoSwap t => decide (t < 16)
  | .handOut fn t s waitMs doneEv => decide (fn < 17 ∧ t < 16 ∧ s < 10 ∧ waitMs < 65536 ∧ doneEv < 16)
  | .handBack fn t s waitMs doneEv => decide (fn < 17 ∧ t < 16 ∧ s < 10 ∧ waitMs < 65536 ∧ doneEv < 16)
  | .test fn t s waitMs doneEv => decide (fn < 17 ∧ t < 16 ∧ s < 10 ∧ waitMs < 65536 ∧ doneEv < 16)
  | .retire fn t s waitMs doneEv => decide (fn < 17 ∧ t < 16 ∧ s < 10 ∧ waitMs < 65536 ∧ doneEv < 16)
  | .unretire fn t s waitMs doneEv => decide (fn < 17 ∧ t < 16 ∧ s < 10 ∧ waitMs < 65536 ∧ doneEv < 16)
  | .svcAbort fn ticket => decide (fn < 17 ∧ ticket < 65536)
  | .svcWaitTimeout t => decide (t < 16)
  | .transferStart t => decide (t < 16)
  | .transferMatch t _ => decide (t < 16)
  | .share t => decide (t < 16)
  | .shareStep t => decide (t < 16)
  | .transferSwap t => decide (t < 16)
  | .transferComplete t => decide (t < 16)
  | .oldSenseOpen t => decide (t < 16)
  | .transferAbort t => decide (t < 16)
  | .leaveEnd t => decide (t < 16)
  | .tileSvcDown fn t => decide (fn < 17 ∧ t < 16)
  | .tileSvcUp fn t => decide (fn < 17 ∧ t < 16)
  | .tileSvcReset fn t => decide (fn < 17 ∧ t < 16)
  | .archDown fn => decide (fn < 17)
  | .archUp fn => decide (fn < 17)
  | .ucodeStage fn off _ _ _ ver => decide (fn < 17 ∧ off < 2 ^ 64 ∧ ver < 65536)
  | .ucodeApply fn mask drainMs => decide (fn < 17 ∧ mask < 65536 ∧ drainMs < 65536)
  | .ucodeLoad t => decide (t < 16)
  | .drainTimeout t => decide (t < 16)
  | .ucodeCommit fn => decide (fn < 17)
  | .fwStage fn off _ _ _ => decide (fn < 17 ∧ off < 2 ^ 64)
  | .watchdog => true
  | .linkTraining port width peer => decide (port < 2 ∧ (width = 0 ∨ width = 2 ∨ width = 4) ∧ peer.index < 8 ∧ peer.n ≤ 8 ∧ 1 ≤ peer.size ∧ peer.size ≤ 8 ∧ peer.links < 256)
  | .linkLoss port _ _ n _ => decide (port < 2 ∧ n < 9)
  | .walulFrame port f _ => f.wf && decide (port < 2)
  | .walulDelivery => true
  | .align fn _ => decide (fn < 17)
  | .alignAuto _ => true
  | .alignLoad x count _ _ => decide (x < 2 ^ 64 ∧ count < 2 ^ 64)
  | .vinValid _ st _ _ => st.wf
  | .perst st _ _ => st.wf
  | .warm fn => decide (fn < 17)
  | .hotReset => true
  | .devReady failed => decide (failed < 65536)
  | .powerFail _ _ => true
  | .pfailRecord => true
  | .aonOff => true
  | .pfailRestart st _ _ => st.wf
  | .cqWrite fn q off _ _ _ => decide (fn < 17 ∧ q < 8 ∧ off < 65536)
  | .commandTake fn q => decide (fn < 17 ∧ q < 8)
  | .fence fn q tag rq => decide (fn < 17 ∧ q < 8 ∧ tag < 65536 ∧ rq < 16)
  | .staleTail fn q => decide (fn < 17 ∧ q < 8)
  | .compatStallTimeout fn q => decide (fn < 17 ∧ q < 8)
  | .flush fn q => decide (fn < 17 ∧ q < 8)
  | .arcDmaRd fn q tag rq iova off len => decide (fn < 17 ∧ q < 8 ∧ tag < 65536 ∧ rq < 16 ∧ iova < 2 ^ 64 ∧ off < 2 ^ 64 ∧ len < 2 ^ 32)
  | .arcDmaWr fn q tag rq iova off len => decide (fn < 17 ∧ q < 8 ∧ tag < 65536 ∧ rq < 16 ∧ iova < 2 ^ 64 ∧ off < 2 ^ 64 ∧ len < 2 ^ 32)
  | .dmaAbort fn tag => decide (fn < 17 ∧ tag < 65536)
  | .dmaComplete fn tag _ _ _ _ => decide (fn < 17 ∧ tag < 65536)
  | .resultWrite fn r => decide (fn < 17 ∧ r < 16)
  | .resultDoorbell fn r v => decide (fn < 17 ∧ r < 16 ∧ v < 2 ^ 32)
  | .moderationTimer fn r => decide (fn < 17 ∧ r < 16)
  | .flr fn => decide (fn < 17)
  | .flrComplete fn => decide (fn < 17)
  | .perstRelease => true
  | .powerStateChange fn _ => decide (fn < 17)
  | .busMasterEnable fn _ => decide (fn < 17)
  | .phaseTracking _ _ => true
  | .frontEndTestEnd t _ => decide (t < 16)
  | .autoRecalEnd t _ _ _ lines => lineWf lines.1 && lineWf lines.2 && decide (t < 16)
  | .blockHeadersRead t _ => decide (t < 16)

/-- The tile a command names, if it names one. -/
def Instr.tile : Instr → Option Nat
  | .registerWrite _ _ => none
  | .malformedAccess _ _ => none
  | .pageCtrlWrite _ _ => none
  | .mbxSelWrite _ _ => none
  | .mbxSnapshot _ => none
  | .commit _ _ => none
  | .mbxCommitApply _ _ _ => none
  | .connect _ t _ => some t
  | .disconnect _ t _ => some t
  | .laneForceWrite _ t _ _ => some t
  | .latchTick t _ => some t
  | .dacSample t _ => some t
  | .loadStrobe _ _ => none
  | .adcSample t _ _ => some t
  | .apertureEnd t _ => some t
  | .oldElementOpen t _ => some t
  | .rangingWindowEnd t _ => some t
  | .railMoveDown t _ => some t
  | .openLoad t _ => some t
  | .complLong t _ => some t
  | .pulseStartCmd _ t _ => some t
  | .pulseStopCmd _ t _ => some t
  | .lanePulseGo t _ _ => some t
  | .pulseStart t _ => some t
  | .pulseEnd t _ => some t
  | .pulseMeas t _ => some t
  | .preconnectEnd t _ => some t
  | .forceSwitchClose t _ => some t
  | .swap t _ => some t
  | .connected t _ => some t
  | .disconnectRampStep t _ => some t
  | .disconnectSwitchOpen t _ => some t
  | .lanePersWrite _ t _ _ => some t
  | .ddsZeroCrossExit t _ => some t
  | .toPinStep t _ => some t
  | .toSmuStep t _ => some t
  | .tileGangWrite _ t _ _ => some t
  | .tileBoostWrite _ t _ => some t
  | .boostFault t _ => some t
  | .boostSenseOverdrive t _ _ => some t
  | .laneRst _ t _ => some t
  | .trip t _ _ _ _ => some t
  | .tripClampRelease t _ _ => some t
  | .tripClear _ t _ _ => some t
  | .wmFilteredChange t _ _ => some t
  | .wmchkRun _ t _ _ => some t
  | .wmchkDone t _ _ => some t
  | .foldback t _ => some t
  | .foldbackRestore t _ => some t
  | .fclr _ t _ => some t
  | .overdrive t _ _ => some t
  | .probePhase t _ => some t
  | .openCheckEval t _ _ _ => some t
  | .vinReversed _ => none
  | .refinLost _ => none
  | .refinRestored => none
  | .refinLocked => none
  | .tempReading _ _ _ => none
  | .tfoldRelease t => some t
  | .budgetEval _ => none
  | .ctxOpen _ _ => none
  | .ctxStart _ _ _ => none
  | .ctxAbort _ _ => none
  | .ctxClose _ _ => none
  | .ctxPrio _ _ _ => none
  | .lockGrant t => some t
  | .dispatch t => some t
  | .descPrefetch _ _ _ => none
  | .nop _ => none
  | .config _ => none
  | .lin _ => none
  | .list _ => none
  | .meas _ => none
  | .limit _ => none
  | .wait _ => none
  | .fire _ => none
  | .jump _ => none
  | .endList _ => none
  | .apertureResultRead _ => none
  | .resultPacket _ => none
  | .ctxGo t _ _ => some t
  | .waitEnd _ => none
  | .waitTimeout _ => none
  | .runComplete _ => none
  | .seqStart _ t => some t
  | .seqAbort _ t => some t
  | .seqLockGrant t => some t
  | .stagingComplete t _ => some t
  | .seqGo t _ => some t
  | .lockInPoint t => some t
  | .granuleBoundary t => some t
  | .segmentBoundary t => some t
  | .seqJumpReq _ t _ => some t
  | .seqJreq t _ _ => some t
  | .vectorCycle t _ _ => some t
  | .ddsListStep t => some t
  | .granuleRefill t _ => some t
  | .holdResume t => some t
  | .acqArm _ t => some t
  | .acqTrig _ t => some t
  | .acqAbort _ t => some t
  | .acqArmIn t _ => some t
  | .acqTrigIn t _ => some t
  | .acqFireIn t _ => some t
  | .acqFrame t _ => some t
  | .recordEnd t => some t
  | .rearmDone t => some t
  | .rateReduction t _ _ => some t
  | .recordCommit t => some t
  | .accountingWindow => none
  | .patrolScrub _ _ => none
  | .bar2Read _ _ _ _ => none
  | .bar2Write _ _ _ _ _ => none
  | .batonDelivery => none
  | .batFire _ t _ => some t
  | .batTrkFire _ _ => none
  | .routeWrite _ _ => none
  | .trigInput _ _ => none
  | .trigoutEnd _ => none
  | .catReq _ _ => none
  | .calReq _ _ _ _ _ => none
  | .invalidate _ _ _ t _ => some t
  | .catAbort _ _ => none
  | .calAbort _ _ => none
  | .calLaneTurn t => some t
  | .pendingTimeout t _ => some t
  | .calLaneEnd t _ => some t
  | .catCommit _ => none
  | .interpolation t _ => some t
  | .autoRecal t => some t
  | .autoSwap t => some t
  | .handOut _ t _ _ _ => some t
  | .handBack _ t _ _ _ => some t
  | .test _ t _ _ _ => some t
  | .retire _ t _ _ _ => some t
  | .unretire _ t _ _ _ => some t
  | .svcAbort _ _ => none
  | .svcWaitTimeout t => some t
  | .transferStart t => some t
  | .transferMatch t _ => some t
  | .share t => some t
  | .shareStep t => some t
  | .transferSwap t => some t
  | .transferComplete t => some t
  | .oldSenseOpen t => some t
  | .transferAbort t => some t
  | .leaveEnd t => some t
  | .tileSvcDown _ t => some t
  | .tileSvcUp _ t => some t
  | .tileSvcReset _ t => some t
  | .archDown _ => none
  | .archUp _ => none
  | .ucodeStage _ _ _ _ _ _ => none
  | .ucodeApply _ _ _ => none
  | .ucodeLoad t => some t
  | .drainTimeout t => some t
  | .ucodeCommit _ => none
  | .fwStage _ _ _ _ _ => none
  | .watchdog => none
  | .linkTraining _ _ _ => none
  | .linkLoss _ _ _ _ _ => none
  | .walulFrame _ _ _ => none
  | .walulDelivery => none
  | .align _ _ => none
  | .alignAuto _ => none
  | .alignLoad _ _ _ _ => none
  | .vinValid _ _ _ _ => none
  | .perst _ _ _ => none
  | .warm _ => none
  | .hotReset => none
  | .devReady _ => none
  | .powerFail _ _ => none
  | .pfailRecord => none
  | .aonOff => none
  | .pfailRestart _ _ _ => none
  | .cqWrite _ _ _ _ _ _ => none
  | .commandTake _ _ => none
  | .fence _ _ _ _ => none
  | .staleTail _ _ => none
  | .compatStallTimeout _ _ => none
  | .flush _ _ => none
  | .arcDmaRd _ _ _ _ _ _ _ => none
  | .arcDmaWr _ _ _ _ _ _ _ => none
  | .dmaAbort _ _ => none
  | .dmaComplete _ _ _ _ _ _ => none
  | .resultWrite _ _ => none
  | .resultDoorbell _ _ _ => none
  | .moderationTimer _ _ => none
  | .flr _ => none
  | .flrComplete _ => none
  | .perstRelease => none
  | .powerStateChange _ _ => none
  | .busMasterEnable _ _ => none
  | .phaseTracking _ _ => none
  | .frontEndTestEnd t _ => some t
  | .autoRecalEnd t _ _ _ _ => some t
  | .blockHeadersRead t _ => some t

/-- The function that gives a command, for the commands that a host makes (R23). -/
def Instr.sender : Instr → Option Nat
  | .registerWrite a _ => some a.fn
  | .malformedAccess a _ => some a.fn
  | .pageCtrlWrite a _ => some a.fn
  | .mbxSelWrite a _ => some a.fn
  | .mbxSnapshot a => some a.fn
  | .commit a _ => some a.fn
  | .mbxCommitApply a _ _ => some a.fn
  | .connect fn _ _ => some fn
  | .disconnect fn _ _ => some fn
  | .laneForceWrite fn _ _ _ => some fn
  | .latchTick _ _ => none
  | .dacSample _ _ => none
  | .loadStrobe _ _ => none
  | .adcSample _ _ _ => none
  | .apertureEnd _ _ => none
  | .oldElementOpen _ _ => none
  | .rangingWindowEnd _ _ => none
  | .railMoveDown _ _ => none
  | .openLoad _ _ => none
  | .complLong _ _ => none
  | .pulseStartCmd fn _ _ => some fn
  | .pulseStopCmd fn _ _ => some fn
  | .lanePulseGo _ _ _ => none
  | .pulseStart _ _ => none
  | .pulseEnd _ _ => none
  | .pulseMeas _ _ => none
  | .preconnectEnd _ _ => none
  | .forceSwitchClose _ _ => none
  | .swap _ _ => none
  | .connected _ _ => none
  | .disconnectRampStep _ _ => none
  | .disconnectSwitchOpen _ _ => none
  | .lanePersWrite fn _ _ _ => some fn
  | .ddsZeroCrossExit _ _ => none
  | .toPinStep _ _ => none
  | .toSmuStep _ _ => none
  | .tileGangWrite fn _ _ _ => some fn
  | .tileBoostWrite fn _ _ => some fn
  | .boostFault _ _ => none
  | .boostSenseOverdrive _ _ _ => none
  | .laneRst fn _ _ => some fn
  | .trip _ _ _ _ _ => none
  | .tripClampRelease _ _ _ => none
  | .tripClear fn _ _ _ => some fn
  | .wmFilteredChange _ _ _ => none
  | .wmchkRun fn _ _ _ => some fn
  | .wmchkDone _ _ _ => none
  | .foldback _ _ => none
  | .foldbackRestore _ _ => none
  | .fclr fn _ _ => some fn
  | .overdrive _ _ _ => none
  | .probePhase _ _ => none
  | .openCheckEval _ _ _ _ => none
  | .vinReversed _ => none
  | .refinLost _ => none
  | .refinRestored => none
  | .refinLocked => none
  | .tempReading _ _ _ => none
  | .tfoldRelease _ => none
  | .budgetEval _ => none
  | .ctxOpen fn _ => some fn
  | .ctxStart fn _ _ => some fn
  | .ctxAbort fn _ => some fn
  | .ctxClose fn _ => some fn
  | .ctxPrio fn _ _ => some fn
  | .lockGrant _ => none
  | .dispatch _ => none
  | .descPrefetch _ _ _ => none
  | .nop _ => none
  | .config _ => none
  | .lin _ => none
  | .list _ => none
  | .meas _ => none
  | .limit _ => none
  | .wait _ => none
  | .fire _ => none
  | .jump _ => none
  | .endList _ => none
  | .apertureResultRead _ => none
  | .resultPacket _ => none
  | .ctxGo _ _ _ => none
  | .waitEnd _ => none
  | .waitTimeout _ => none
  | .runComplete _ => none
  | .seqStart fn _ => some fn
  | .seqAbort fn _ => some fn
  | .seqLockGrant _ => none
  | .stagingComplete _ _ => none
  | .seqGo _ _ => none
  | .lockInPoint _ => none
  | .granuleBoundary _ => none
  | .segmentBoundary _ => none
  | .seqJumpReq fn _ _ => some fn
  | .seqJreq _ _ _ => none
  | .vectorCycle _ _ _ => none
  | .ddsListStep _ => none
  | .granuleRefill _ _ => none
  | .holdResume _ => none
  | .acqArm fn _ => some fn
  | .acqTrig fn _ => some fn
  | .acqAbort fn _ => some fn
  | .acqArmIn _ _ => none
  | .acqTrigIn _ _ => none
  | .acqFireIn _ _ => none
  | .acqFrame _ _ => none
  | .recordEnd _ => none
  | .rearmDone _ => none
  | .rateReduction _ _ _ => none
  | .recordCommit _ => none
  | .accountingWindow => none
  | .patrolScrub _ _ => none
  | .bar2Read fn _ _ _ => some fn
  | .bar2Write fn _ _ _ _ => some fn
  | .batonDelivery => none
  | .batFire fn _ _ => some fn
  | .batTrkFire fn _ => some fn
  | .routeWrite a _ => some a.fn
  | .trigInput _ _ => none
  | .trigoutEnd _ => none
  | .catReq fn _ => some fn
  | .calReq fn _ _ _ _ => some fn
  | .invalidate fn _ _ _ _ => some fn
  | .catAbort fn _ => some fn
  | .calAbort fn _ => some fn
  | .calLaneTurn _ => none
  | .pendingTimeout _ _ => none
  | .calLaneEnd _ _ => none
  | .catCommit _ => none
  | .interpolation _ _ => none
  | .autoRecal _ => none
  | .autoSwap _ => none
  | .handOut fn _ _ _ _ => some fn
  | .handBack fn _ _ _ _ => some fn
  | .test fn _ _ _ _ => some fn
  | .retire fn _ _ _ _ => some fn
  | .unretire fn _ _ _ _ => some fn
  | .svcAbort fn _ => some fn
  | .svcWaitTimeout _ => none
  | .transferStart _ => none
  | .transferMatch _ _ => none
  | .share _ => none
  | .shareStep _ => none
  | .transferSwap _ => none
  | .transferComplete _ => none
  | .oldSenseOpen _ => none
  | .transferAbort _ => none
  | .leaveEnd _ => none
  | .tileSvcDown fn _ => some fn
  | .tileSvcUp fn _ => some fn
  | .tileSvcReset fn _ => some fn
  | .archDown fn => some fn
  | .archUp fn => some fn
  | .ucodeStage fn _ _ _ _ _ => some fn
  | .ucodeApply fn _ _ => some fn
  | .ucodeLoad _ => none
  | .drainTimeout _ => none
  | .ucodeCommit fn => some fn
  | .fwStage fn _ _ _ _ => some fn
  | .watchdog => none
  | .linkTraining _ _ _ => none
  | .linkLoss _ _ _ _ _ => none
  | .walulFrame _ _ _ => none
  | .walulDelivery => none
  | .align fn _ => some fn
  | .alignAuto _ => none
  | .alignLoad _ _ _ _ => none
  | .vinValid _ _ _ _ => none
  | .perst _ _ _ => none
  | .warm fn => some fn
  | .hotReset => none
  | .devReady _ => none
  | .powerFail _ _ => none
  | .pfailRecord => none
  | .aonOff => none
  | .pfailRestart _ _ _ => none
  | .cqWrite fn _ _ _ _ _ => some fn
  | .commandTake fn _ => some fn
  | .fence fn _ _ _ => some fn
  | .staleTail fn _ => some fn
  | .compatStallTimeout fn _ => some fn
  | .flush fn _ => some fn
  | .arcDmaRd fn _ _ _ _ _ _ => some fn
  | .arcDmaWr fn _ _ _ _ _ _ => some fn
  | .dmaAbort fn _ => some fn
  | .dmaComplete fn _ _ _ _ _ => some fn
  | .resultWrite fn _ => some fn
  | .resultDoorbell fn _ _ => some fn
  | .moderationTimer fn _ => some fn
  | .flr fn => some fn
  | .flrComplete fn => some fn
  | .perstRelease => none
  | .powerStateChange fn _ => some fn
  | .busMasterEnable fn _ => some fn
  | .phaseTracking _ _ => none
  | .frontEndTestEnd _ _ => none
  | .autoRecalEnd _ _ _ _ _ => none
  | .blockHeadersRead _ _ => none

end Sys2Proof
end

