-- ==== Sys2Proof/Laws/PerInstr.lean ====
section
/-! SUPPORT. What holds of every command as syntax, one lemma per constructor: a well-formed command names a tile from 0
to 15 and a function from 0 to 16 (R12). -/

set_option Elab.async false

namespace Sys2Proof.Laws.Bounds

/-- A well-formed command names a tile of the module and a function of the port. -/
def Statement (i : Instr) : Prop :=
  i.wf = true → (∀ t, i.tile = some t → t < 16) ∧ (∀ f, i.sender = some f → f < 17)

theorem registerWrite (a : Acc) (w : Word) : Statement (.registerWrite a w) := by
  simp +contextual [Statement, Instr.wf, Instr.tile, Instr.sender, Acc.wf]
theorem malformedAccess (a : Acc) (isWrite : Bool) : Statement (.malformedAccess a isWrite) := by
  simp +contextual [Statement, Instr.wf, Instr.tile, Instr.sender, Acc.wf]
theorem pageCtrlWrite (a : Acc) (en : Bool) : Statement (.pageCtrlWrite a en) := by
  simp +contextual [Statement, Instr.wf, Instr.tile, Instr.sender, Acc.wf]
theorem mbxSelWrite (a : Acc) (item : Nat) : Statement (.mbxSelWrite a item) := by
  simp +contextual [Statement, Instr.wf, Instr.tile, Instr.sender, Acc.wf]
theorem mbxSnapshot (a : Acc) : Statement (.mbxSnapshot a) := by
  simp +contextual [Statement, Instr.wf, Instr.tile, Instr.sender, Acc.wf]
theorem commit (a : Acc) (item : Nat) : Statement (.commit a item) := by
  simp +contextual [Statement, Instr.wf, Instr.tile, Instr.sender, Acc.wf]
theorem mbxCommitApply (a : Acc) (sigOk : Bool) (ver : Nat) : Statement (.mbxCommitApply a sigOk ver) := by
  simp +contextual [Statement, Instr.wf, Instr.tile, Instr.sender, Acc.wf]
theorem connect (fn : Nat) (t : Nat) (s : Nat) : Statement (.connect fn t s) := by
  simp +contextual [Statement, Instr.wf, Instr.tile, Instr.sender]
theorem disconnect (fn : Nat) (t : Nat) (s : Nat) : Statement (.disconnect fn t s) := by
  simp +contextual [Statement, Instr.wf, Instr.tile, Instr.sender]
theorem laneForceWrite (fn : Nat) (t : Nat) (s : Nat) (w : Word) : Statement (.laneForceWrite fn t s w) := by
  simp +contextual [Statement, Instr.wf, Instr.tile, Instr.sender]
theorem latchTick (t : Nat) (s : Nat) : Statement (.latchTick t s) := by
  simp +contextual [Statement, Instr.wf, Instr.tile, Instr.sender]
theorem dacSample (t : Nat) (s : Nat) : Statement (.dacSample t s) := by
  simp +contextual [Statement, Instr.wf, Instr.tile, Instr.sender]
theorem loadStrobe (g : Nat) (hop : Nat) : Statement (.loadStrobe g hop) := by
  simp +contextual [Statement, Instr.wf, Instr.tile, Instr.sender]
theorem adcSample (t : Nat) (s : Nat) (x : AdcIn) : Statement (.adcSample t s x) := by
  simp +contextual [Statement, Instr.wf, Instr.tile, Instr.sender]
theorem apertureEnd (t : Nat) (s : Nat) : Statement (.apertureEnd t s) := by
  simp +contextual [Statement, Instr.wf, Instr.tile, Instr.sender]
theorem oldElementOpen (t : Nat) (s : Nat) : Statement (.oldElementOpen t s) := by
  simp +contextual [Statement, Instr.wf, Instr.tile, Instr.sender]
theorem rangingWindowEnd (t : Nat) (s : Nat) : Statement (.rangingWindowEnd t s) := by
  simp +contextual [Statement, Instr.wf, Instr.tile, Instr.sender]
theorem railMoveDown (t : Nat) (s : Nat) : Statement (.railMoveDown t s) := by
  simp +contextual [Statement, Instr.wf, Instr.tile, Instr.sender]
theorem openLoad (t : Nat) (s : Nat) : Statement (.openLoad t s) := by
  simp +contextual [Statement, Instr.wf, Instr.tile, Instr.sender]
theorem complLong (t : Nat) (s : Nat) : Statement (.complLong t s) := by
  simp +contextual [Statement, Instr.wf, Instr.tile, Instr.sender]
theorem pulseStartCmd (fn : Nat) (t : Nat) (s : Nat) : Statement (.pulseStartCmd fn t s) := by
  simp +contextual [Statement, Instr.wf, Instr.tile, Instr.sender]
theorem pulseStopCmd (fn : Nat) (t : Nat) (s : Nat) : Statement (.pulseStopCmd fn t s) := by
  simp +contextual [Statement, Instr.wf, Instr.tile, Instr.sender]
theorem lanePulseGo (t : Nat) (s : Nat) (hop : Nat) : Statement (.lanePulseGo t s hop) := by
  simp +contextual [Statement, Instr.wf, Instr.tile, Instr.sender]
theorem pulseStart (t : Nat) (s : Nat) : Statement (.pulseStart t s) := by
  simp +contextual [Statement, Instr.wf, Instr.tile, Instr.sender]
theorem pulseEnd (t : Nat) (s : Nat) : Statement (.pulseEnd t s) := by
  simp +contextual [Statement, Instr.wf, Instr.tile, Instr.sender]
theorem pulseMeas (t : Nat) (s : Nat) : Statement (.pulseMeas t s) := by
  simp +contextual [Statement, Instr.wf, Instr.tile, Instr.sender]
theorem preconnectEnd (t : Nat) (s : Nat) : Statement (.preconnectEnd t s) := by
  simp +contextual [Statement, Instr.wf, Instr.tile, Instr.sender]
theorem forceSwitchClose (t : Nat) (s : Nat) : Statement (.forceSwitchClose t s) := by
  simp +contextual [Statement, Instr.wf, Instr.tile, Instr.sender]
theorem swap (t : Nat) (s : Nat) : Statement (.swap t s) := by
  simp +contextual [Statement, Instr.wf, Instr.tile, Instr.sender]
theorem connected (t : Nat) (s : Nat) : Statement (.connected t s) := by
  simp +contextual [Statement, Instr.wf, Instr.tile, Instr.sender]
theorem disconnectRampStep (t : Nat) (s : Nat) : Statement (.disconnectRampStep t s) := by
  simp +contextual [Statement, Instr.wf, Instr.tile, Instr.sender]
theorem disconnectSwitchOpen (t : Nat) (s : Nat) : Statement (.disconnectSwitchOpen t s) := by
  simp +contextual [Statement, Instr.wf, Instr.tile, Instr.sender]
theorem lanePersWrite (fn : Nat) (t : Nat) (s : Nat) (w : Word) : Statement (.lanePersWrite fn t s w) := by
  simp +contextual [Statement, Instr.wf, Instr.tile, Instr.sender]
theorem ddsZeroCrossExit (t : Nat) (s : Nat) : Statement (.ddsZeroCrossExit t s) := by
  simp +contextual [Statement, Instr.wf, Instr.tile, Instr.sender]
theorem toPinStep (t : Nat) (s : Nat) : Statement (.toPinStep t s) := by
  simp +contextual [Statement, Instr.wf, Instr.tile, Instr.sender]
theorem toSmuStep (t : Nat) (s : Nat) : Statement (.toSmuStep t s) := by
  simp +contextual [Statement, Instr.wf, Instr.tile, Instr.sender]
theorem tileGangWrite (fn : Nat) (t : Nat) (g : Nat) (w : Word) : Statement (.tileGangWrite fn t g w) := by
  simp +contextual [Statement, Instr.wf, Instr.tile, Instr.sender]
theorem tileBoostWrite (fn : Nat) (t : Nat) (w : Word) : Statement (.tileBoostWrite fn t w) := by
  simp +contextual [Statement, Instr.wf, Instr.tile, Instr.sender]
theorem boostFault (t : Nat) (lowNs : Nat) : Statement (.boostFault t lowNs) := by
  simp +contextual [Statement, Instr.wf, Instr.tile, Instr.sender]
theorem boostSenseOverdrive (t : Nat) (bsvMv : Int) (bsiMv : Int) : Statement (.boostSenseOverdrive t bsvMv bsiMv) := by
  simp +contextual [Statement, Instr.wf, Instr.tile, Instr.sender]
theorem laneRst (fn : Nat) (t : Nat) (s : Nat) : Statement (.laneRst fn t s) := by
  simp +contextual [Statement, Instr.wf, Instr.tile, Instr.sender]
theorem trip (t : Nat) (s : Nat) (n : Nat) (x : Int) (sub : Nat) : Statement (.trip t s n x sub) := by
  simp +contextual [Statement, Instr.wf, Instr.tile, Instr.sender]
theorem tripClampRelease (t : Nat) (s : Nat) (inp : WmInput) : Statement (.tripClampRelease t s inp) := by
  simp +contextual [Statement, Instr.wf, Instr.tile, Instr.sender]
theorem tripClear (fn : Nat) (t : Nat) (s : Nat) (n : Nat) : Statement (.tripClear fn t s n) := by
  simp +contextual [Statement, Instr.wf, Instr.tile, Instr.sender]
theorem wmFilteredChange (t : Nat) (s : Nat) (n : Nat) : Statement (.wmFilteredChange t s n) := by
  simp +contextual [Statement, Instr.wf, Instr.tile, Instr.sender]
theorem wmchkRun (fn : Nat) (t : Nat) (s : Nat) (n : Nat) : Statement (.wmchkRun fn t s n) := by
  simp +contextual [Statement, Instr.wf, Instr.tile, Instr.sender]
theorem wmchkDone (t : Nat) (s : Nat) (r : List ChkStep) : Statement (.wmchkDone t s r) := by
  simp +contextual [Statement, Instr.wf, Instr.tile, Instr.sender]
theorem foldback (t : Nat) (s : Nat) : Statement (.foldback t s) := by
  simp +contextual [Statement, Instr.wf, Instr.tile, Instr.sender]
theorem foldbackRestore (t : Nat) (s : Nat) : Statement (.foldbackRestore t s) := by
  simp +contextual [Statement, Instr.wf, Instr.tile, Instr.sender]
theorem fclr (fn : Nat) (t : Nat) (s : Nat) : Statement (.fclr fn t s) := by
  simp +contextual [Statement, Instr.wf, Instr.tile, Instr.sender]
theorem overdrive (t : Nat) (s : Nat) (uv : Int) : Statement (.overdrive t s uv) := by
  simp +contextual [Statement, Instr.wf, Instr.tile, Instr.sender]
theorem probePhase (t : Nat) (s : Nat) : Statement (.probePhase t s) := by
  simp +contextual [Statement, Instr.wf, Instr.tile, Instr.sender]
theorem openCheckEval (t : Nat) (s : Nat) (restOn : List Int) (restOff : List Int) : Statement (.openCheckEval t s restOn restOff) := by
  simp +contextual [Statement, Instr.wf, Instr.tile, Instr.sender]
theorem vinReversed (mv : Nat) : Statement (.vinReversed mv) := by
  simp +contextual [Statement, Instr.wf, Instr.tile, Instr.sender]
theorem refinLost (offFreq : Bool) : Statement (.refinLost offFreq) := by
  simp +contextual [Statement, Instr.wf, Instr.tile, Instr.sender]
theorem refinRestored : Statement (.refinRestored) := by
  simp +contextual [Statement, Instr.wf, Instr.tile, Instr.sender]
theorem refinLocked : Statement (.refinLocked) := by
  simp +contextual [Statement, Instr.wf, Instr.tile, Instr.sender]
theorem tempReading (tiles : List Int) (ctl : Int) (arc : Int) : Statement (.tempReading tiles ctl arc) := by
  simp +contextual [Statement, Instr.wf, Instr.tile, Instr.sender]
theorem tfoldRelease (t : Nat) : Statement (.tfoldRelease t) := by
  simp +contextual [Statement, Instr.wf, Instr.tile, Instr.sender]
theorem budgetEval (vinMv : Nat) : Statement (.budgetEval vinMv) := by
  simp +contextual [Statement, Instr.wf, Instr.tile, Instr.sender]
theorem ctxOpen (fn : Nat) (p : CtxParams) : Statement (.ctxOpen fn p) := by
  simp +contextual [Statement, Instr.wf, Instr.tile, Instr.sender]
theorem ctxStart (fn : Nat) (id : Nat) (go : Nat) : Statement (.ctxStart fn id go) := by
  simp +contextual [Statement, Instr.wf, Instr.tile, Instr.sender]
theorem ctxAbort (fn : Nat) (id : Nat) : Statement (.ctxAbort fn id) := by
  simp +contextual [Statement, Instr.wf, Instr.tile, Instr.sender]
theorem ctxClose (fn : Nat) (id : Nat) : Statement (.ctxClose fn id) := by
  simp +contextual [Statement, Instr.wf, Instr.tile, Instr.sender]
theorem ctxPrio (fn : Nat) (id : Nat) (prio : Nat) : Statement (.ctxPrio fn id prio) := by
  simp +contextual [Statement, Instr.wf, Instr.tile, Instr.sender]
theorem lockGrant (t : Nat) : Statement (.lockGrant t) := by
  simp +contextual [Statement, Instr.wf, Instr.tile, Instr.sender]
theorem dispatch (t : Nat) : Statement (.dispatch t) := by
  simp +contextual [Statement, Instr.wf, Instr.tile, Instr.sender]
theorem descPrefetch (id : Nat) (r : HostRead) (errs : EccErrs) : Statement (.descPrefetch id r errs) := by
  simp +contextual [Statement, Instr.wf, Instr.tile, Instr.sender]
theorem nop (id : Nat) : Statement (.nop id) := by
  simp +contextual [Statement, Instr.wf, Instr.tile, Instr.sender]
theorem config (id : Nat) : Statement (.config id) := by
  simp +contextual [Statement, Instr.wf, Instr.tile, Instr.sender]
theorem lin (id : Nat) : Statement (.lin id) := by
  simp +contextual [Statement, Instr.wf, Instr.tile, Instr.sender]
theorem list (id : Nat) : Statement (.list id) := by
  simp +contextual [Statement, Instr.wf, Instr.tile, Instr.sender]
theorem meas (id : Nat) : Statement (.meas id) := by
  simp +contextual [Statement, Instr.wf, Instr.tile, Instr.sender]
theorem limit (id : Nat) : Statement (.limit id) := by
  simp +contextual [Statement, Instr.wf, Instr.tile, Instr.sender]
theorem wait (id : Nat) : Statement (.wait id) := by
  simp +contextual [Statement, Instr.wf, Instr.tile, Instr.sender]
theorem fire (id : Nat) : Statement (.fire id) := by
  simp +contextual [Statement, Instr.wf, Instr.tile, Instr.sender]
theorem jump (id : Nat) : Statement (.jump id) := by
  simp +contextual [Statement, Instr.wf, Instr.tile, Instr.sender]
theorem endList (id : Nat) : Statement (.endList id) := by
  simp +contextual [Statement, Instr.wf, Instr.tile, Instr.sender]
theorem apertureResultRead (id : Nat) : Statement (.apertureResultRead id) := by
  simp +contextual [Statement, Instr.wf, Instr.tile, Instr.sender]
theorem resultPacket (id : Nat) : Statement (.resultPacket id) := by
  simp +contextual [Statement, Instr.wf, Instr.tile, Instr.sender]
theorem ctxGo (t : Nat) (ch : Nat) (hop : Nat) : Statement (.ctxGo t ch hop) := by
  simp +contextual [Statement, Instr.wf, Instr.tile, Instr.sender]
theorem waitEnd (id : Nat) : Statement (.waitEnd id) := by
  simp +contextual [Statement, Instr.wf, Instr.tile, Instr.sender]
theorem waitTimeout (id : Nat) : Statement (.waitTimeout id) := by
  simp +contextual [Statement, Instr.wf, Instr.tile, Instr.sender]
theorem runComplete (id : Nat) : Statement (.runComplete id) := by
  simp +contextual [Statement, Instr.wf, Instr.tile, Instr.sender]
theorem seqStart (fn : Nat) (t : Nat) : Statement (.seqStart fn t) := by
  simp +contextual [Statement, Instr.wf, Instr.tile, Instr.sender]
theorem seqAbort (fn : Nat) (t : Nat) : Statement (.seqAbort fn t) := by
  simp +contextual [Statement, Instr.wf, Instr.tile, Instr.sender]
theorem seqLockGrant (t : Nat) : Statement (.seqLockGrant t) := by
  simp +contextual [Statement, Instr.wf, Instr.tile, Instr.sender]
theorem stagingComplete (t : Nat) (errs : EccErrs) : Statement (.stagingComplete t errs) := by
  simp +contextual [Statement, Instr.wf, Instr.tile, Instr.sender]
theorem seqGo (t : Nat) (hop : Nat) : Statement (.seqGo t hop) := by
  simp +contextual [Statement, Instr.wf, Instr.tile, Instr.sender]
theorem lockInPoint (t : Nat) : Statement (.lockInPoint t) := by
  simp +contextual [Statement, Instr.wf, Instr.tile, Instr.sender]
theorem granuleBoundary (t : Nat) : Statement (.granuleBoundary t) := by
  simp +contextual [Statement, Instr.wf, Instr.tile, Instr.sender]
theorem segmentBoundary (t : Nat) : Statement (.segmentBoundary t) := by
  simp +contextual [Statement, Instr.wf, Instr.tile, Instr.sender]
theorem seqJumpReq (fn : Nat) (t : Nat) (target : Nat) : Statement (.seqJumpReq fn t target) := by
  simp +contextual [Statement, Instr.wf, Instr.tile, Instr.sender]
theorem seqJreq (t : Nat) (j : Nat) (hop : Nat) : Statement (.seqJreq t j hop) := by
  simp +contextual [Statement, Instr.wf, Instr.tile, Instr.sender]
theorem vectorCycle (t : Nat) (pins : List Int) (drained : Nat) : Statement (.vectorCycle t pins drained) := by
  simp +contextual [Statement, Instr.wf, Instr.tile, Instr.sender]
theorem ddsListStep (t : Nat) : Statement (.ddsListStep t) := by
  simp +contextual [Statement, Instr.wf, Instr.tile, Instr.sender]
theorem granuleRefill (t : Nat) (errs : EccErrs) : Statement (.granuleRefill t errs) := by
  simp +contextual [Statement, Instr.wf, Instr.tile, Instr.sender]
theorem holdResume (t : Nat) : Statement (.holdResume t) := by
  simp +contextual [Statement, Instr.wf, Instr.tile, Instr.sender]
theorem acqArm (fn : Nat) (t : Nat) : Statement (.acqArm fn t) := by
  simp +contextual [Statement, Instr.wf, Instr.tile, Instr.sender]
theorem acqTrig (fn : Nat) (t : Nat) : Statement (.acqTrig fn t) := by
  simp +contextual [Statement, Instr.wf, Instr.tile, Instr.sender]
theorem acqAbort (fn : Nat) (t : Nat) : Statement (.acqAbort fn t) := by
  simp +contextual [Statement, Instr.wf, Instr.tile, Instr.sender]
theorem acqArmIn (t : Nat) (hop : Nat) : Statement (.acqArmIn t hop) := by
  simp +contextual [Statement, Instr.wf, Instr.tile, Instr.sender]
theorem acqTrigIn (t : Nat) (hop : Nat) : Statement (.acqTrigIn t hop) := by
  simp +contextual [Statement, Instr.wf, Instr.tile, Instr.sender]
theorem acqFireIn (t : Nat) (hop : Nat) : Statement (.acqFireIn t hop) := by
  simp +contextual [Statement, Instr.wf, Instr.tile, Instr.sender]
theorem acqFrame (t : Nat) (drained : Nat) : Statement (.acqFrame t drained) := by
  simp +contextual [Statement, Instr.wf, Instr.tile, Instr.sender]
theorem recordEnd (t : Nat) : Statement (.recordEnd t) := by
  simp +contextual [Statement, Instr.wf, Instr.tile, Instr.sender]
theorem rearmDone (t : Nat) : Statement (.rearmDone t) := by
  simp +contextual [Statement, Instr.wf, Instr.tile, Instr.sender]
theorem rateReduction (t : Nat) (share : Nat) (port : Nat) : Statement (.rateReduction t share port) := by
  simp +contextual [Statement, Instr.wf, Instr.tile, Instr.sender]
theorem recordCommit (t : Nat) : Statement (.recordCommit t) := by
  simp +contextual [Statement, Instr.wf, Instr.tile, Instr.sender]
theorem accountingWindow : Statement (.accountingWindow) := by
  simp +contextual [Statement, Instr.wf, Instr.tile, Instr.sender]
theorem patrolScrub (word : Nat) (e : EccErr) : Statement (.patrolScrub word e) := by
  simp +contextual [Statement, Instr.wf, Instr.tile, Instr.sender]
theorem bar2Read (fn : Nat) (off : Nat) (len : Nat) (errs : EccErrs) : Statement (.bar2Read fn off len errs) := by
  simp +contextual [Statement, Instr.wf, Instr.tile, Instr.sender]
theorem bar2Write (fn : Nat) (off : Nat) (bytes : List Byte) (ep : Bool) (errs : EccErrs) : Statement (.bar2Write fn off bytes ep errs) := by
  simp +contextual [Statement, Instr.wf, Instr.tile, Instr.sender]
theorem batonDelivery : Statement (.batonDelivery) := by
  simp +contextual [Statement, Instr.wf, Instr.tile, Instr.sender]
theorem batFire (fn : Nat) (t : Nat) (v : Nat) : Statement (.batFire fn t v) := by
  simp +contextual [Statement, Instr.wf, Instr.tile, Instr.sender]
theorem batTrkFire (fn : Nat) (v : Nat) : Statement (.batTrkFire fn v) := by
  simp +contextual [Statement, Instr.wf, Instr.tile, Instr.sender]
theorem routeWrite (a : Acc) (w : Word) : Statement (.routeWrite a w) := by
  simp +contextual [Statement, Instr.wf, Instr.tile, Instr.sender, Acc.wf]
theorem trigInput (n : Nat) (sub : Nat) : Statement (.trigInput n sub) := by
  simp +contextual [Statement, Instr.wf, Instr.tile, Instr.sender]
theorem trigoutEnd (n : Nat) : Statement (.trigoutEnd n) := by
  simp +contextual [Statement, Instr.wf, Instr.tile, Instr.sender]
theorem catReq (fn : Nat) (p : CalParams) : Statement (.catReq fn p) := by
  simp +contextual [Statement, Instr.wf, Instr.tile, Instr.sender]
theorem calReq (fn : Nat) (q : Nat) (tag : Nat) (rq : Nat) (p : CalParams) : Statement (.calReq fn q tag rq p) := by
  simp +contextual [Statement, Instr.wf, Instr.tile, Instr.sender]
theorem invalidate (fn : Nat) (scope : Nat) (set : Nat) (t : Nat) (s : Nat) : Statement (.invalidate fn scope set t s) := by
  simp +contextual [Statement, Instr.wf, Instr.tile, Instr.sender]
theorem catAbort (fn : Nat) (run : Nat) : Statement (.catAbort fn run) := by
  simp +contextual [Statement, Instr.wf, Instr.tile, Instr.sender]
theorem calAbort (fn : Nat) (tag : Nat) : Statement (.calAbort fn tag) := by
  simp +contextual [Statement, Instr.wf, Instr.tile, Instr.sender]
theorem calLaneTurn (t : Nat) : Statement (.calLaneTurn t) := by
  simp +contextual [Statement, Instr.wf, Instr.tile, Instr.sender]
theorem pendingTimeout (t : Nat) (s : Nat) : Statement (.pendingTimeout t s) := by
  simp +contextual [Statement, Instr.wf, Instr.tile, Instr.sender]
theorem calLaneEnd (t : Nat) (m : CalMeas) : Statement (.calLaneEnd t m) := by
  simp +contextual [Statement, Instr.wf, Instr.tile, Instr.sender]
theorem catCommit (run : Nat) : Statement (.catCommit run) := by
  simp +contextual [Statement, Instr.wf, Instr.tile, Instr.sender]
theorem interpolation (t : Nat) (s : Nat) : Statement (.interpolation t s) := by
  simp +contextual [Statement, Instr.wf, Instr.tile, Instr.sender]
theorem autoRecal (t : Nat) : Statement (.autoRecal t) := by
  simp +contextual [Statement, Instr.wf, Instr.tile, Instr.sender]
theorem autoSwap (t : Nat) : Statement (.autoSwap t) := by
  simp +contextual [Statement, Instr.wf, Instr.tile, Instr.sender]
theorem handOut (fn : Nat) (t : Nat) (s : Nat) (waitMs : Nat) (doneEv : Nat) : Statement (.handOut fn t s waitMs doneEv) := by
  simp +contextual [Statement, Instr.wf, Instr.tile, Instr.sender]
theorem handBack (fn : Nat) (t : Nat) (s : Nat) (waitMs : Nat) (doneEv : Nat) : Statement (.handBack fn t s waitMs doneEv) := by
  simp +contextual [Statement, Instr.wf, Instr.tile, Instr.sender]
theorem test (fn : Nat) (t : Nat) (s : Nat) (waitMs : Nat) (doneEv : Nat) : Statement (.test fn t s waitMs doneEv) := by
  simp +contextual [Statement, Instr.wf, Instr.tile, Instr.sender]
theorem retire (fn : Nat) (t : Nat) (s : Nat) (waitMs : Nat) (doneEv : Nat) : Statement (.retire fn t s waitMs doneEv) := by
  simp +contextual [Statement, Instr.wf, Instr.tile, Instr.sender]
theorem unretire (fn : Nat) (t : Nat) (s : Nat) (waitMs : Nat) (doneEv : Nat) : Statement (.unretire fn t s waitMs doneEv) := by
  simp +contextual [Statement, Instr.wf, Instr.tile, Instr.sender]
theorem svcAbort (fn : Nat) (ticket : Nat) : Statement (.svcAbort fn ticket) := by
  simp +contextual [Statement, Instr.wf, Instr.tile, Instr.sender]
theorem svcWaitTimeout (t : Nat) : Statement (.svcWaitTimeout t) := by
  simp +contextual [Statement, Instr.wf, Instr.tile, Instr.sender]
theorem transferStart (t : Nat) : Statement (.transferStart t) := by
  simp +contextual [Statement, Instr.wf, Instr.tile, Instr.sender]
theorem transferMatch (t : Nat) (meanUv : Int) : Statement (.transferMatch t meanUv) := by
  simp +contextual [Statement, Instr.wf, Instr.tile, Instr.sender]
theorem share (t : Nat) : Statement (.share t) := by
  simp +contextual [Statement, Instr.wf, Instr.tile, Instr.sender]
theorem shareStep (t : Nat) : Statement (.shareStep t) := by
  simp +contextual [Statement, Instr.wf, Instr.tile, Instr.sender]
theorem transferSwap (t : Nat) : Statement (.transferSwap t) := by
  simp +contextual [Statement, Instr.wf, Instr.tile, Instr.sender]
theorem transferComplete (t : Nat) : Statement (.transferComplete t) := by
  simp +contextual [Statement, Instr.wf, Instr.tile, Instr.sender]
theorem oldSenseOpen (t : Nat) : Statement (.oldSenseOpen t) := by
  simp +contextual [Statement, Instr.wf, Instr.tile, Instr.sender]
theorem transferAbort (t : Nat) : Statement (.transferAbort t) := by
  simp +contextual [Statement, Instr.wf, Instr.tile, Instr.sender]
theorem leaveEnd (t : Nat) : Statement (.leaveEnd t) := by
  simp +contextual [Statement, Instr.wf, Instr.tile, Instr.sender]
theorem tileSvcDown (fn : Nat) (t : Nat) : Statement (.tileSvcDown fn t) := by
  simp +contextual [Statement, Instr.wf, Instr.tile, Instr.sender]
theorem tileSvcUp (fn : Nat) (t : Nat) : Statement (.tileSvcUp fn t) := by
  simp +contextual [Statement, Instr.wf, Instr.tile, Instr.sender]
theorem tileSvcReset (fn : Nat) (t : Nat) : Statement (.tileSvcReset fn t) := by
  simp +contextual [Statement, Instr.wf, Instr.tile, Instr.sender]
theorem archDown (fn : Nat) : Statement (.archDown fn) := by
  simp +contextual [Statement, Instr.wf, Instr.tile, Instr.sender]
theorem archUp (fn : Nat) : Statement (.archUp fn) := by
  simp +contextual [Statement, Instr.wf, Instr.tile, Instr.sender]
theorem ucodeStage (fn : Nat) (off : Nat) (last : Bool) (bytes : List Byte) (sigOk : Bool) (ver : Nat) : Statement (.ucodeStage fn off last bytes sigOk ver) := by
  simp +contextual [Statement, Instr.wf, Instr.tile, Instr.sender]
theorem ucodeApply (fn : Nat) (mask : Nat) (drainMs : Nat) : Statement (.ucodeApply fn mask drainMs) := by
  simp +contextual [Statement, Instr.wf, Instr.tile, Instr.sender]
theorem ucodeLoad (t : Nat) : Statement (.ucodeLoad t) := by
  simp +contextual [Statement, Instr.wf, Instr.tile, Instr.sender]
theorem drainTimeout (t : Nat) : Statement (.drainTimeout t) := by
  simp +contextual [Statement, Instr.wf, Instr.tile, Instr.sender]
theorem ucodeCommit (fn : Nat) : Statement (.ucodeCommit fn) := by
  simp +contextual [Statement, Instr.wf, Instr.tile, Instr.sender]
theorem fwStage (fn : Nat) (off : Nat) (last : Bool) (bytes : List Byte) (sigOk : Bool) : Statement (.fwStage fn off last bytes sigOk) := by
  simp +contextual [Statement, Instr.wf, Instr.tile, Instr.sender]
theorem watchdog : Statement (.watchdog) := by
  simp +contextual [Statement, Instr.wf, Instr.tile, Instr.sender]
theorem linkTraining (port : Nat) (width : Nat) (peer : WlPeer) : Statement (.linkTraining port width peer) := by
  simp +contextual [Statement, Instr.wf, Instr.tile, Instr.sender]
theorem linkLoss (port : Nat) (cause : LossCause) (queued : Nat) (n : Nat) (reach0 : Bool) : Statement (.linkLoss port cause queued n reach0) := by
  simp +contextual [Statement, Instr.wf, Instr.tile, Instr.sender]
theorem walulFrame (port : Nat) (f : WlFrame) (crcOk : Bool) : Statement (.walulFrame port f crcOk) := by
  simp +contextual [Statement, Instr.wf, Instr.tile, Instr.sender]
theorem walulDelivery : Statement (.walulDelivery) := by
  simp +contextual [Statement, Instr.wf, Instr.tile, Instr.sender]
theorem align (fn : Nat) (m : AlignMeas) : Statement (.align fn m) := by
  simp +contextual [Statement, Instr.wf, Instr.tile, Instr.sender]
theorem alignAuto (m : AlignMeas) : Statement (.alignAuto m) := by
  simp +contextual [Statement, Instr.wf, Instr.tile, Instr.sender]
theorem alignLoad (x : Nat) (count : Nat) (trim : Int) (meas : LoadMeas) : Statement (.alignLoad x count trim meas) := by
  simp +contextual [Statement, Instr.wf, Instr.tile, Instr.sender]
theorem vinValid (mv : Nat) (st : Straps) (fwA : Bool) (fwB : Bool) : Statement (.vinValid mv st fwA fwB) := by
  simp +contextual [Statement, Instr.wf, Instr.tile, Instr.sender]
theorem perst (st : Straps) (fwA : Bool) (fwB : Bool) : Statement (.perst st fwA fwB) := by
  simp +contextual [Statement, Instr.wf, Instr.tile, Instr.sender]
theorem warm (fn : Nat) : Statement (.warm fn) := by
  simp +contextual [Statement, Instr.wf, Instr.tile, Instr.sender]
theorem hotReset : Statement (.hotReset) := by
  simp +contextual [Statement, Instr.wf, Instr.tile, Instr.sender]
theorem devReady (failed : Nat) : Statement (.devReady failed) := by
  simp +contextual [Statement, Instr.wf, Instr.tile, Instr.sender]
theorem powerFail (slope : Bool) (trace : List Nat) : Statement (.powerFail slope trace) := by
  simp +contextual [Statement, Instr.wf, Instr.tile, Instr.sender]
theorem pfailRecord : Statement (.pfailRecord) := by
  simp +contextual [Statement, Instr.wf, Instr.tile, Instr.sender]
theorem aonOff : Statement (.aonOff) := by
  simp +contextual [Statement, Instr.wf, Instr.tile, Instr.sender]
theorem pfailRestart (st : Straps) (fwA : Bool) (fwB : Bool) : Statement (.pfailRestart st fwA fwB) := by
  simp +contextual [Statement, Instr.wf, Instr.tile, Instr.sender]
theorem cqWrite (fn : Nat) (q : Nat) (off : Nat) (words : List QData) (whole : Bool) (ep : Bool) : Statement (.cqWrite fn q off words whole ep) := by
  simp +contextual [Statement, Instr.wf, Instr.tile, Instr.sender]
theorem commandTake (fn : Nat) (q : Nat) : Statement (.commandTake fn q) := by
  simp +contextual [Statement, Instr.wf, Instr.tile, Instr.sender]
theorem fence (fn : Nat) (q : Nat) (tag : Nat) (rq : Nat) : Statement (.fence fn q tag rq) := by
  simp +contextual [Statement, Instr.wf, Instr.tile, Instr.sender]
theorem staleTail (fn : Nat) (q : Nat) : Statement (.staleTail fn q) := by
  simp +contextual [Statement, Instr.wf, Instr.tile, Instr.sender]
theorem compatStallTimeout (fn : Nat) (q : Nat) : Statement (.compatStallTimeout fn q) := by
  simp +contextual [Statement, Instr.wf, Instr.tile, Instr.sender]
theorem flush (fn : Nat) (q : Nat) : Statement (.flush fn q) := by
  simp +contextual [Statement, Instr.wf, Instr.tile, Instr.sender]
theorem arcDmaRd (fn : Nat) (q : Nat) (tag : Nat) (rq : Nat) (iova : Nat) (off : Nat) (len : Nat) : Statement (.arcDmaRd fn q tag rq iova off len) := by
  simp +contextual [Statement, Instr.wf, Instr.tile, Instr.sender]
theorem arcDmaWr (fn : Nat) (q : Nat) (tag : Nat) (rq : Nat) (iova : Nat) (off : Nat) (len : Nat) : Statement (.arcDmaWr fn q tag rq iova off len) := by
  simp +contextual [Statement, Instr.wf, Instr.tile, Instr.sender]
theorem dmaAbort (fn : Nat) (tag : Nat) : Statement (.dmaAbort fn tag) := by
  simp +contextual [Statement, Instr.wf, Instr.tile, Instr.sender]
theorem dmaComplete (fn : Nat) (tag : Nat) (ws : List Word) (err : Bool) (ep : List Nat) (errs : EccErrs) : Statement (.dmaComplete fn tag ws err ep errs) := by
  simp +contextual [Statement, Instr.wf, Instr.tile, Instr.sender]
theorem resultWrite (fn : Nat) (r : Nat) : Statement (.resultWrite fn r) := by
  simp +contextual [Statement, Instr.wf, Instr.tile, Instr.sender]
theorem resultDoorbell (fn : Nat) (r : Nat) (v : Nat) : Statement (.resultDoorbell fn r v) := by
  simp +contextual [Statement, Instr.wf, Instr.tile, Instr.sender]
theorem moderationTimer (fn : Nat) (r : Nat) : Statement (.moderationTimer fn r) := by
  simp +contextual [Statement, Instr.wf, Instr.tile, Instr.sender]
theorem flr (fn : Nat) : Statement (.flr fn) := by
  simp +contextual [Statement, Instr.wf, Instr.tile, Instr.sender]
theorem flrComplete (fn : Nat) : Statement (.flrComplete fn) := by
  simp +contextual [Statement, Instr.wf, Instr.tile, Instr.sender]
theorem perstRelease : Statement (.perstRelease) := by
  simp +contextual [Statement, Instr.wf, Instr.tile, Instr.sender]
theorem powerStateChange (fn : Nat) (d3 : Bool) : Statement (.powerStateChange fn d3) := by
  simp +contextual [Statement, Instr.wf, Instr.tile, Instr.sender]
theorem busMasterEnable (fn : Nat) (en : Bool) : Statement (.busMasterEnable fn en) := by
  simp +contextual [Statement, Instr.wf, Instr.tile, Instr.sender]
theorem phaseTracking (errPs : Int) (refin0 : Bool) : Statement (.phaseTracking errPs refin0) := by
  simp +contextual [Statement, Instr.wf, Instr.tile, Instr.sender]
theorem frontEndTestEnd (t : Nat) (pass : Bool) : Statement (.frontEndTestEnd t pass) := by
  simp +contextual [Statement, Instr.wf, Instr.tile, Instr.sender]
theorem autoRecalEnd (t : Nat) (refvUv : Nat) (ref1 : Int) (ref2 : Int) (lines : List Nat × List Nat) : Statement (.autoRecalEnd t refvUv ref1 ref2 lines) := by
  simp +contextual [Statement, Instr.wf, Instr.tile, Instr.sender]
theorem blockHeadersRead (t : Nat) (errs : EccErrs) : Statement (.blockHeadersRead t errs) := by
  simp +contextual [Statement, Instr.wf, Instr.tile, Instr.sender]

end Sys2Proof.Laws.Bounds
end

