-- ==== Sys2Proof/Tests/Slice0.lean ====
section
/-! SUPPORT. The model's own tests: an ill-formed command for each check of WellFormed, single steps with results worked out from
the rules named, and for each obligation with hypotheses one theorem `witness_<obligation>` that shows, for each of its clauses, a
concrete state and operands that meet all hypotheses of the clause together. -/

set_option Elab.async false

namespace Sys2Proof.Tests
open Sys2Proof Sys2Proof.Machine

/-! States and helpers. -/

/-- Everything is on, ready and idle: the link is mUp, REFIN is good. -/
def mUp : State :=
  (({ cur := { linkUp := true, perst := false, allowUw := 190000000 } : State }.w .pwr .pwrDomStat (2 ^ 20 - 1)).ws .dev
    [(.devStatReady, 1), (.devCapArcSize, 4)]).w .pace .paceRefinOk 1

/-- A LIVE lane field stored and in force. -/
def lv (m : State) (p : Page) (l : List (Fld × Nat)) : State := (m.ws p l).latch p (l.map (·.1))

/-- `mUp` with its lane fields of T00 L0 as they are stored in force, and the switch state given. -/
def lsw (sw : Nat) (m : State := mUp) (t : Nat := 0) (s : Nat := 0) : State := m.w (.lane t s) .laneSwState sw

/-- An acquisition of T00 that R208 lets arm: lane 0, 64 frames. -/
def acqSet : State := mUp.ws (.acq 0) [(.pageEn, 1), (.acqLanes, 1), (.acqLenm1, 63), (.acqRrThresh, 1), (.acqDestPages, 1)]

/-- Module 0 of two, its Walul port 1 UP. -/
def wl0 : State := mUp.ws .wl [(.wlTopo, 1), (.wlPState 1, 2)]

/-- Module 1 of two: module 0 is reached through port 1. -/
def wl1 : State := { wl0.w .dev .devStrapIndex 1 with wl := { via := [1] } }

/-- `m` with nothing left of function 0's Archive bandwidth in the present window. -/
def noArc (m : State := mUp) : State := { m with cur := { m.cur with acct := { debt := [(0, 1)] } } }

/-- `m` with T00 L0 held by the sequencer. -/
def held0 (m : State := lsw 4) : State := m.setLane 0 0 { owner := some .seq }

/-- Context 0 on T00 L0, CONNECTED and its own, RUNNING on engine 0 before the first of the descriptors `l`. -/
def run (l : List (List Word)) (sw : Nat := 4) : State :=
  ((lsw sw).setLane 0 0 { owner := some (.ctx 0) }).setCtx 0
    { st := .running, engine := some 0, par := ⟨0, false, 0, l.length, 0, 0, 0, false, 15, 15⟩, members := [0],
      fetched := l.zipIdx.map fun (d, i) => (i, d) }

/-- Context 0 of T00 L0 in the state `st`. -/
def ctxIn (st : CtxSt) (m : State := mUp) : State :=
  m.setCtx 0 { st := st, par := ⟨0, false, 0, 1, 0, 0, 0, false, 15, 15⟩, members := [0] }

/-- Entry `n` of the segment table of T00. -/
def segAt (n : Nat) (ws : List Nat) (m : State := mUp) : State :=
  ws.zipIdx.foldl (fun m (w, k) => { m with segTab := tabSet m.segTab (8 * n + k) (BitVec.ofNat 32 w) }) m

/-- The sequencer of T00 in state `st` over T00 L0 with entry 0 of word 0 `w0`, 9 granules, one repetition. -/
def seqAt (st w0 : Nat) (q : SeqDyn) (m : State := mUp) : State :=
  ((segAt 0 [w0, 0, 9, 1] m).ws (.seq 0) [(.pageEn, 1), (.seqState, st), (.seqLanes, 1), (.seqDiv, 80), (.seqPrime, 2)]).setSeq 0 q

/-- A calibration request for T00 L0. -/
def calP : CalParams := ⟨[1], 0, 1, 0, false, 0, 15⟩
/-- A run of it. -/
def calR : CalRun := { id := 0, fn := 0, p := calP }
def pass0 : PassMeas := {}
def qual0 : Quality := {}
/-- Values that a run keeps for its commit. -/
def keep0 : KeptCal := { set := 0, data := {}, q := {}, tSet := 0 }

/-- Result queue `r` of function `fn` enabled, its tag bytes behind its data. -/
def ringOn (fn r : Nat) : State := (mUp.ws (.q fn) [(.rqEn r, 1), (.rqTbaseLo r, 0x10000)]).setFn fn { bme := true }

/-- The state after a command that completes. -/
def after (c : Instr) (m : State) : State := match exec c m with | .next m' => m' | _ => m

/-! Well-formedness: for each check a command that breaks it, and commands at the edge of every range. -/

/-- Parameters of CTX_OPEN at the edge of their ranges (R122). -/
def ctxP : CtxParams := ⟨143, false, 0, 65536, 3, 1024, 15, false, 15, 15⟩
/-- Parameters of a calibration request at the edge of their ranges (R319). -/
def calW : CalParams := ⟨List.replicate 16 511, 65535, 31, 15, true, 65535, 15⟩

theorem test_wf_refuses_each_check : ([
    .registerWrite ⟨17, 0, 0⟩ 0, .registerWrite ⟨0, 1, 0⟩ 0, .registerWrite ⟨0, 0, 0x4000000⟩ 0, .registerWrite ⟨0, 4, 0x400000⟩ 0,
    .registerWrite ⟨0, 0, 2⟩ 0, .malformedAccess ⟨17, 0, 0⟩ true, .mbxSelWrite ⟨0, 0, 0x30⟩ 65536, .commit ⟨0, 0, 0x38⟩ 65536,
    .routeWrite ⟨0, 0, 2⟩ 0, .connect 17 0 0, .connect 0 16 0, .connect 0 0 10, .loadStrobe 16 0, .loadStrobe 0 15, .lanePulseGo 0 0 15,
    .tileGangWrite 0 0 4 0, .trip 0 0 2 0 0, .trip 0 0 0 0 128, .wmchkDone 0 0 [], .wmchkDone 0 0 (List.replicate 6 ⟨3, 0, true⟩),
    .ctxOpen 17 ctxP, .ctxOpen 0 { ctxP with lane := 256 }, .ctxOpen 0 { ctxP with laddr := 2 ^ 64 },
    .ctxOpen 0 { ctxP with llen := 2 ^ 17 }, .ctxOpen 0 { ctxP with prio := 4 }, .ctxOpen 0 { ctxP with qahead := 2048 },
    .ctxOpen 0 { ctxP with rq := 16 }, .ctxOpen 0 { ctxP with abortOn := 16 }, .ctxOpen 0 { ctxP with abortEv := 16 },
    .ctxStart 0 4096 0, .ctxStart 0 0 16, .ctxPrio 0 0 4, .ctxGo 0 8 0, .seqJumpReq 0 0 4096, .seqJreq 0 4 0, .acqArmIn 0 15,
    .patrolScrub (2 ^ 34) .clean, .bar2Read 0 (2 ^ 64) 1 [], .bar2Read 0 0 (2 ^ 32) [], .bar2Write 0 (2 ^ 64) [] false [],
    .batFire 0 0 256, .batTrkFire 0 256, .trigInput 8 0, .trigInput 0 128] : List Instr).all (fun c => !c.wf) = true := by
  decide +kernel

theorem test_wf_refuses_each_check_2 : ([
    .catReq 17 calW, .catReq 0 { calW with lanes := [] }, .catReq 0 { calW with lanes := List.replicate 16 512 },
    .catReq 0 { calW with subst := 65536 }, .catReq 0 { calW with kinds := 32 }, .catReq 0 { calW with set := 16 },
    .catReq 0 { calW with waitMs := 65536 }, .catReq 0 { calW with doneEv := 16 }, .calReq 0 8 0 0 calW, .calReq 0 0 65536 0 calW,
    .calReq 0 0 0 16 calW, .invalidate 0 3 0 0 0, .invalidate 0 0 8 0 0, .invalidate 0 0 0 0 16, .catAbort 0 65536,
    .handOut 0 0 0 65536 0, .handOut 0 0 0 0 16, .svcAbort 0 65536, .ucodeStage 0 (2 ^ 64) true [] true 0,
    .ucodeStage 0 0 true [] true 65536, .ucodeApply 0 65536 1, .ucodeApply 0 1 65536, .fwStage 0 (2 ^ 64) true [] true,
    .linkTraining 2 4 ⟨0, 0, 0, 0, 1, true, true, true, 8, 255⟩, .linkTraining 0 2 ⟨0, 0, 0, 0, 1, true, true, true, 9, 0⟩, .linkTraining 0 3 ⟨0, 0, 0, 0, 1, true, true, true, 8, 255⟩,
    .linkLoss 0 .lock 0 9 true, .walulFrame 0 ⟨16, 0, 0, 0⟩ true, .walulFrame 0 ⟨0, 65536, 0, 0⟩ true,
    .walulFrame 0 ⟨0, 0, 16, 0⟩ true, .walulFrame 0 ⟨0, 0, 0, 8⟩ true, .walulFrame 2 ⟨0, 0, 0, 0⟩ true, .alignLoad (2 ^ 64) 0 0 ⟨0, 0, 0, 0, []⟩,
    .perst ⟨8, 0, false⟩ true true, .perst ⟨0, 4, false⟩ true true, .devReady 65536, .cqWrite 0 8 0 [] true false,
    .cqWrite 0 0 65536 [] true false, .arcDmaRd 0 0 0 0 (2 ^ 64) 0 64, .arcDmaRd 0 0 0 0 0 0 (2 ^ 32), .resultWrite 0 16,
    .resultDoorbell 0 0 (2 ^ 32)] : List Instr).all (fun c => !c.wf) = true := by
  decide +kernel

theorem test_wf_accepts_the_edges : ([
    .registerWrite ⟨16, 4, 0x3FFFFC⟩ 0, .malformedAccess ⟨16, 0, 0x3FFFFFF⟩ true, .connect 16 15 9, .loadStrobe 15 14,
    .trip 15 9 1 (-5) 127, .wmchkDone 15 9 (List.replicate 6 ⟨2, 2, true⟩), .ctxOpen 16 ctxP, .ctxStart 16 4095 15,
    .patrolScrub (2 ^ 34 - 1) .clean, .catReq 16 calW,
    .linkTraining 1 2 ⟨7, 2, 1, 7, 8, true, true, true, 8, 255⟩, .walulFrame 1 ⟨15, 65535, 15, 7⟩ true, .perst ⟨7, 3, true⟩ true true,
    .resultDoorbell 16 15 (2 ^ 32 - 1)] : List Instr).all (fun c => c.wf) = true := by
  decide +kernel

/-! Steps. -/

/-- The table gives no row any bits, so no word spells a command. -/
theorem test_no_word_spells_a_command (n w : Nat) : decodeTableWord n w = none := rfl
/-- The front command goes first, and leaves the queue with the rest. -/
theorem test_step_takes_the_front : (match step { mUp with pending := [.perstRelease, .flush 0 0] } with
    | .next m => m.pending | _ => []) = [.flush 0 0] := by decide +kernel
theorem test_idle_step_ticks : (match step State.reset with | .next m => m.pace | _ => 0) = 1 := by decide +kernel

/-! Registers and pages. -/

/-- CAT_REFV holds what is written to it (R470, R444). -/
theorem test_write_is_read_back : (after (.registerWrite ⟨0, 0, 0x3100⟩ 5000001) mUp).hostRead ⟨0, 0, 0x3100⟩ = 5000001 := by
  decide +kernel
/-- Before DEV_READY every page but the device page reads 0 (R441). -/
theorem test_absent_page_reads_zero : State.reset.hostRead ⟨0, 0, 0x3100⟩ = 0 := by decide +kernel

/-! Lanes. -/

/-- LEVEL 0x80000 is -524,288 (R42). -/
theorem test_level_sign : sext 20 0x80000 = -524288 := by decide +kernel
/-- A CODE of -1 is 0xFFFFFF; bit 28 tells a current (R47). -/
theorem test_result_word : packWord (-1) {} true = 0x10FFFFFF := by decide +kernel
/-- CONNECT puts the lane into PRECONNECT, code 2. -/
theorem test_connect : (after (.connect 0 0 0) (mUp.w (.lane 0 0) .pageEn 1)).r (.lane 0 0) .laneSwState = 2 := by decide +kernel
/-- A CONNECT of a lane locked by a sequence is refused with LOCKED, code 2 (R24). -/
theorem test_connect_locked :
    let m := after (.connect 0 0 0) ((mUp.w (.lane 0 0) .pageEn 1).setLane 0 0 { owner := some .seq })
    m.r (.lane 0 0) .laneSwState = 1 ∧ m.r (.lane 0 0) .laneRefuseCode = 2 := by decide +kernel
/-- VIN between 0 V and -40 V changes nothing (R278); beyond it the ratings of R488 are exceeded. -/
theorem test_vin_reversed_beyond : exec (.vinReversed 40001) mUp = .fault .beyondRatings := rfl

/-! Contexts, sequences, acquisitions. -/

/-- The first context of T00 has ID 0 and is OPEN (R119, R125). -/
theorem test_ctx_open : ((after (.ctxOpen 0 { ctxP with lane := 8 }) mUp).ctx 0).st = .openSt := by decide +kernel
/-- START of a disabled sequencer: START_REFUSE 2, DISABLED (R164). -/
theorem test_seq_start_disabled : (after (.seqStart 0 0) mUp).r (.seq 0) .seqStartRefuse = 2 := by decide +kernel
/-- An accepted START goes to LOCK_WAIT, code 1 (R163, R165). -/
theorem test_seq_start : (after (.seqStart 0 0) (seqAt 0 (11 + 1024) {})).r (.seq 0) .seqState = 1 := by decide +kernel
/-- ARM of a disabled acquisition: ARM_REFUSE 2. -/
theorem test_acq_arm_disabled : (after (.acqArm 0 0) mUp).r (.acq 0) .acqArmRefuse = 2 := by decide +kernel

/-! Baton. -/

/-- 0x80 + 47 fires position 47 on the next tick with hop 0 (R299). -/
theorem test_bat_fire : (after (.batFire 0 0 0xAF) mUp).flight = [{ tick := 1, stage := .prod 0 47, hop := 0, soft := true }] := by
  decide +kernel
/-- Without bit 7 nothing is fired (R299). -/
theorem test_bat_fire_needs_its_bit : (after (.batFire 0 0 47) mUp).flight = [] := by decide +kernel

/-! Archive and queues. -/

/-- A BAR2 write stores its bytes and no other. -/
theorem test_bar2_write : (after (.bar2Write 0 5 [7, 8] false []) mUp).arc = [(5, 7), (6, 8)] := by decide +kernel
/-- Of a word and its parity bit an even number is one (R417). -/
theorem test_parity : parityOk 3 false = true ∧ parityOk 1 false = false ∧ parityOk 1 true = true := by decide +kernel
/-- A doorbell value beyond TAIL is ignored (R429). -/
theorem test_doorbell_beyond_tail : (after (.resultDoorbell 0 0 5) ((ringOn 0 0).w (.q 0) (.rqTail 0) 4)).r (.q 0) (.rqHead 0) = 0 := by
  decide +kernel
/-- The only valid set of a lane cannot be invalidated: LAST_SET, status 9 (R318, R487). -/
theorem test_last_set_stays : ((after (.invalidate 0 0 0 0 0)
    { mUp with catalogue := { entries := [(0, { valid := true })] } }).fn 0).status = 9 := by decide +kernel

/-- Latenesses of 100 ps, in 0.1 ps, on all 64 steps give a deskew of 13 units of 7.8125 ps, the nearest to 12.8 (R311). -/
theorem test_deskew : deskewOf (List.replicate 64 1000) = 13 := by decide +kernel
/-- The share of a function that still owes bytes of accepted writes is used up (R246). -/
theorem test_share_out : noArc.shareOut 0 = true ∧ mUp.shareOut 0 = false := by decide +kernel
/-- The MSI-X table of a function stands at 0x20_0000 of its BAR4, 16 bytes a vector (R410). -/
theorem test_msix_entry : (after (.registerWrite ⟨3, 4, 0x20001C⟩ 1) (mUp.w (.q 3) .qNvec 2)).hostRead ⟨3, 4, 0x20001C⟩ = 1 := by decide +kernel

/-- An input 1 µV above HI = +1,024 of V8, 4 V, is ABOVE and sets TRIP0; at 4 V itself it is not (R251, R252, R257). -/
theorem test_trip_at_the_threshold :
    let m := (lv (mUp.w (.lane 0 0) .laneSwState 4) (.lane 0 0) [(.laneForceVrange, 1), (.laneForceMode, 1), (.laneWmHi 0, 1024),
      (.laneWmLo 0, 0xC00)]).setLane 0 0 { wm0 := { raw := .inside, since := 0 } }
    (after (.trip 0 0 0 4000001 0) m).r (.lane 0 0) (.laneWmTrip 0) = 1 ∧
      (after (.trip 0 0 0 4000000 0) m).r (.lane 0 0) (.laneWmTrip 0) = 0 := by decide +kernel
/-- In the third step the input is at -75 % against -50 %: a comparator that does not show BELOW fails it, RESULT 2, STEP 3; one that
does, but not at the gate, fails the trip path, RESULT 4 (R261, R263). -/
theorem test_self_check_judged :
    chkJudge [⟨1, 1, true⟩, ⟨0, 0, false⟩, ⟨0, 0, false⟩, ⟨2, 2, true⟩, ⟨0, 0, false⟩, ⟨1, 1, true⟩] = (2, 3) ∧
    chkJudge [⟨1, 1, true⟩, ⟨0, 0, false⟩, ⟨2, 2, false⟩, ⟨2, 2, true⟩, ⟨0, 0, false⟩, ⟨1, 1, true⟩] = (4, 3) := by decide +kernel
/-- A sine of AMPL 65,536 / 65,536 at a quarter of the circle is the full scale (R97). -/
theorem test_dds_quarter : ddsCode 65535 (2 ^ 46) = 524280 ∧ ddsCode 65535 0 = 0 := by decide +kernel

/-! Witnesses for the hypotheses of the obligations. -/

theorem tabGet_one {α : Type} {d x : α} {k j : Nat} {P : α → Prop} (hd : P d) (hx : P x) : P (tabGet d [(k, x)] j) := by
  simp only [tabGet]; split <;> assumption

theorem tabGet_other {α : Type} {d x : α} {k j : Nat} {P : α → Prop} (h : j ≠ k) (hd : P d) : P (tabGet d [(k, x)] j) := by
  simp only [tabGet]; split
  · exact absurd (by simp_all) h
  · exact hd

theorem witness_AbsentPagesTakeNothing :
    (∃ (a : Acc) (p : Page) (off : Nat) (m : State), badTarget a = some (p, off) ∧ (m.fn a.fn).d3 = false ∧ m.waits = false ∧
      (m.fitted p = false ∨ m.views a.fn p = false ∨ (∃ t, p.tileOf = some t ∧ m.tileOn t = false) ∨ p ≠ Page.dev ∧ m.r
      Page.dev Fld.devStatReady ≠ 1)) ∧
    (∃ (a : Acc) (p : Page) (off : Nat) (m : State) (w : Word) (wr en : Bool) (item : Nat) (c : Instr), badTarget a = some (p,
      off) ∧ (m.fn a.fn).d3 = false ∧ m.waits = false ∧ (m.fitted p = false ∨ m.views a.fn p = false ∨ (∃ t, p.tileOf = some t
      ∧ m.tileOn t = false) ∨ p ≠ Page.dev ∧ m.r Page.dev Fld.devStatReady ≠ 1) ∧ c ∈ [Instr.registerWrite a w,
      Instr.malformedAccess a wr, Instr.pageCtrlWrite a en, Instr.mbxSelWrite a item, Instr.commit a item, Instr.routeWrite a
      w]) ∧
    (∃ (a : Acc) (p : Page) (off : Nat) (m : State) (t s n : Nat) (w : Word) (c : Instr), badTarget a = some (p, off) ∧ (m.fn
      a.fn).d3 = false ∧ m.waits = false ∧ (m.fitted p = false ∨ m.views a.fn p = false ∨ (∃ t, p.tileOf = some t ∧ m.tileOn t
      = false) ∨ p ≠ Page.dev ∧ m.r Page.dev Fld.devStatReady ≠ 1) ∧ p = Page.lane t s ∧ c ∈ [Instr.connect a.fn t s,
      Instr.disconnect a.fn t s, Instr.laneForceWrite a.fn t s w, Instr.lanePersWrite a.fn t s w, Instr.pulseStartCmd a.fn t
      s, Instr.pulseStopCmd a.fn t s, Instr.laneRst a.fn t s, Instr.tripClear a.fn t s n, Instr.wmchkRun a.fn t s n,
      Instr.fclr a.fn t s]) ∧
    (∃ (a : Acc) (p : Page) (off : Nat) (m : State) (t n : Nat) (c : Instr), badTarget a = some (p, off) ∧ (m.fn a.fn).d3 =
      false ∧ m.waits = false ∧ (m.fitted p = false ∨ m.views a.fn p = false ∨ (∃ t, p.tileOf = some t ∧ m.tileOn t = false) ∨
      p ≠ Page.dev ∧ m.r Page.dev Fld.devStatReady ≠ 1) ∧ p = Page.seq t ∧ c ∈ [Instr.seqStart a.fn t, Instr.seqAbort a.fn t,
      Instr.seqJumpReq a.fn t n]) ∧
    (∃ (a : Acc) (p : Page) (off : Nat) (m : State) (t : Nat) (c : Instr), badTarget a = some (p, off) ∧ (m.fn a.fn).d3 =
      false ∧ m.waits = false ∧ (m.fitted p = false ∨ m.views a.fn p = false ∨ (∃ t, p.tileOf = some t ∧ m.tileOn t = false) ∨
      p ≠ Page.dev ∧ m.r Page.dev Fld.devStatReady ≠ 1) ∧ p = Page.acq t ∧ c ∈ [Instr.acqArm a.fn t, Instr.acqTrig a.fn t,
      Instr.acqAbort a.fn t]) ∧
    (∃ (a : Acc) (p : Page) (off : Nat) (m : State) (t n : Nat) (w : Word) (c : Instr), badTarget a = some (p, off) ∧ (m.fn
      a.fn).d3 = false ∧ m.waits = false ∧ (m.fitted p = false ∨ m.views a.fn p = false ∨ (∃ t, p.tileOf = some t ∧ m.tileOn t
      = false) ∨ p ≠ Page.dev ∧ m.r Page.dev Fld.devStatReady ≠ 1) ∧ p = Page.tile t ∧ c ∈ [Instr.tileGangWrite a.fn t n w,
      Instr.tileBoostWrite a.fn t w]) ∧
    (∃ (a : Acc) (p : Page) (off : Nat) (m : State) (t : Nat), badTarget a = some (p, off) ∧ (m.fn a.fn).d3 = false ∧ m.waits
      = false ∧ (m.fitted p = false ∨ m.views a.fn p = false ∨ (∃ t, p.tileOf = some t ∧ m.tileOn t = false) ∨ p ≠ Page.dev ∧
      m.r Page.dev Fld.devStatReady ≠ 1) ∧ p = Page.bat t) :=
  ⟨⟨⟨0, 0, 0x2114⟩, .pwr, 0x114, State.reset, by decide +kernel⟩,
   ⟨⟨0, 0, 0x2114⟩, .pwr, 0x114, State.reset, 0, false, false, 0, .registerWrite ⟨0, 0, 0x2114⟩ 0, by decide +kernel⟩,
   ⟨⟨0, 0, 0x1F19100⟩, .lane 15 9, 0x100, State.reset, 15, 9, 0, 0, .fclr 0 15 9, by decide +kernel⟩,
   ⟨⟨0, 0, 0x1F20100⟩, .seq 15, 0x100, State.reset, 15, 0, .seqJumpReq 0 15 0, by decide +kernel⟩,
   ⟨⟨0, 0, 0x1F30100⟩, .acq 15, 0x100, State.reset, 15, .acqAbort 0 15, by decide +kernel⟩,
   ⟨⟨0, 0, 0x1F00100⟩, .tile 15, 0x100, State.reset, 15, 0, 0, .tileBoostWrite 0 15 0, by decide +kernel⟩,
   ⟨⟨0, 0, 0x1F38100⟩, .bat 15, 0x100, State.reset, 15, by decide +kernel⟩⟩

theorem witness_AcquisitionArmsTriggersAndAborts :
    (∃ (fn t : Nat) (m : State), m.hostAt fn (Page.acq t) = true ∧ m.acqArmCheck t = 0 ∧ m.r (Page.acq t) Fld.acqRole = 0) ∧
    (∃ (fn t : Nat) (m : State), m.hostAt fn (Page.acq t) = true ∧ m.acqArmCheck t = 0 ∧ m.r (Page.acq t) Fld.acqRole = 1) ∧
    (∃ (fn t : Nat) (m : State), m.hostAt fn (Page.acq t) = true ∧ m.acqArmCheck t = 0 ∧ m.r (Page.acq t) Fld.acqRole = 2) ∧
    (∃ (fn t : Nat) (m : State), m.hostAt fn (Page.acq t) = true ∧ m.acqArmCheck t ≠ 0) ∧
    (∃ (fn t : Nat) (m : State), m.sound = true ∧ m.hostAt fn (Page.acq t) = true ∧ m.r (Page.acq t) Fld.acqTrigSrc = 0 ∧ (m.r
      (Page.acq t) Fld.acqState = 2 ∨ m.r (Page.acq t) Fld.acqState = 3) ∧ m.r (Page.acq t) Fld.acqRole = 0 ∧ ((m.acq t).ready
      ≤ m.pace + 1 ∧ ∀ (f : Frame), f ∈ (m.acq t).ring → f.tick < m.pace + 1)) ∧
    (∃ (fn t : Nat) (m : State), m.sound = true ∧ m.hostAt fn (Page.acq t) = true ∧ m.r (Page.acq t) Fld.acqTrigSrc = 0 ∧ (m.r
      (Page.acq t) Fld.acqState = 2 ∨ m.r (Page.acq t) Fld.acqState = 3) ∧ m.r (Page.acq t) Fld.acqRole ≠ 0) ∧
    (∃ (fn t : Nat) (m : State), m.sound = true ∧ m.hostAt fn (Page.acq t) = true ∧ m.r (Page.acq t) Fld.acqTrigSrc = 0 ∧ (m.r
      (Page.acq t) Fld.acqState = 4 ∨ m.r (Page.acq t) Fld.acqState = 5)) ∧
    (∃ (t hop : Nat) (m : State), m.sound = true ∧ m.tileOn t = true ∧ hop < 14 ∧ tabGet 0 (m.tile t).deliv 26 = m.pace + 1) ∧
    (∃ (t hop : Nat) (m : State), m.sound = true ∧ m.tileOn t = true ∧ hop < 14 ∧ tabGet 0 (m.tile t).deliv 24 ≠ m.pace + 1 ∧
      m.r (Page.acq t) Fld.acqState = 1) ∧
    (∃ (t hop : Nat) (m : State), m.sound = true ∧ m.tileOn t = true ∧ hop < 14 ∧ tabGet 0 (m.tile t).deliv 24 ≠ m.pace + 1 ∧
      m.r (Page.acq t) Fld.acqState ≠ 1) ∧
    (∃ (t hop : Nat) (m : State), m.sound = true ∧ m.tileOn t = true ∧ hop < 14 ∧ tabGet 0 (m.tile t).deliv 26 ≠ m.pace + 1 ∧
      (m.r (Page.acq t) Fld.acqState = 2 ∨ m.r (Page.acq t) Fld.acqState = 3) ∧ m.r (Page.acq t) Fld.acqTrigSrc = 1 ∧ m.r
      (Page.acq t) Fld.acqRole = 0 ∧ ((m.acq t).ready ≤ m.pace - m.r (Page.acq t) Fld.acqTrigLat ∧ ∀ (f : Frame), f ∈ (m.acq
      t).ring → f.tick < m.pace - m.r (Page.acq t) Fld.acqTrigLat)) ∧
    (∃ (t hop : Nat) (m : State), m.sound = true ∧ m.tileOn t = true ∧ hop < 14 ∧ tabGet 0 (m.tile t).deliv 26 ≠ m.pace + 1 ∧
      (m.r (Page.acq t) Fld.acqState = 4 ∨ m.r (Page.acq t) Fld.acqState = 5) ∧ (m.acq t).trigAt ≠ m.pace + 1) ∧
    (∃ (t hop : Nat) (m : State), m.sound = true ∧ m.tileOn t = true ∧ hop < 14 ∧ tabGet 0 (m.tile t).deliv 26 ≠ m.pace + 1 ∧
      m.r (Page.acq t) Fld.acqState ∈ [0, 1, 6]) ∧
    (∃ (t hop : Nat) (m : State), m.sound = true ∧ m.tileOn t = true ∧ hop < 14 ∧ tabGet 0 (m.tile t).deliv 25 ≠ m.pace + 1 ∧
      (m.r (Page.acq t) Fld.acqState = 2 ∨ m.r (Page.acq t) Fld.acqState = 3) ∧ m.r (Page.acq t) Fld.acqRole ≠ 0 ∧ ((m.acq
      t).ready ≤ m.pace - m.r (Page.acq t) Fld.acqTrigLat ∧ ∀ (f : Frame), f ∈ (m.acq t).ring → f.tick < m.pace - m.r
      (Page.acq t) Fld.acqTrigLat)) ∧
    (∃ (t hop : Nat) (m : State), m.sound = true ∧ m.tileOn t = true ∧ hop < 14 ∧ tabGet 0 (m.tile t).deliv 25 ≠ m.pace + 1 ∧
      (m.r (Page.acq t) Fld.acqState = 4 ∨ m.r (Page.acq t) Fld.acqState = 5) ∧ (m.acq t).trigAt ≠ m.pace + 1) ∧
    (∃ (t hop : Nat) (m : State), m.sound = true ∧ m.tileOn t = true ∧ hop < 14 ∧ tabGet 0 (m.tile t).deliv 25 ≠ m.pace + 1 ∧
      m.r (Page.acq t) Fld.acqState ∈ [0, 1, 6]) ∧
    (∃ (fn t : Nat) (m : State), m.sound = true ∧ m.hostAt fn (Page.acq t) = true ∧ m.acqLive t = true) ∧
    (∃ (fn t : Nat) (m : State), m.sound = true ∧ m.hostAt fn (Page.acq t) = true ∧ m.r (Page.acq t) Fld.acqState = 6) :=
  ⟨⟨0, 0, acqSet, by decide +kernel⟩,
   ⟨0, 0, acqSet.w (.acq 0) .acqRole 1, by decide +kernel⟩,
   ⟨0, 0, acqSet.w (.acq 0) .acqRole 2, by decide +kernel⟩,
   ⟨0, 15, mUp, by decide +kernel⟩,
   ⟨0, 0, acqSet.w (.acq 0) .acqState 2, by decide +kernel⟩,
   ⟨0, 0, (acqSet.w (.acq 0) .acqState 3).w (.acq 0) .acqRole 2, by decide +kernel⟩,
   ⟨0, 0, acqSet.w (.acq 0) .acqState 5, by decide +kernel⟩,
   ⟨0, 13, acqSet.setTile 0 { deliv := [(26, 1)] }, by decide +kernel⟩,
   ⟨0, 13, acqSet.w (.acq 0) .acqState 1, by decide +kernel⟩,
   ⟨0, 13, acqSet.w (.acq 0) .acqState 0, by decide +kernel⟩,
   ⟨0, 13, (acqSet.w (.acq 0) .acqState 3).w (.acq 0) .acqTrigSrc 1, by decide +kernel⟩,
   ⟨0, 13, acqSet.w (.acq 0) .acqState 4, by decide +kernel⟩,
   ⟨0, 13, acqSet.w (.acq 0) .acqState 6, by decide +kernel⟩,
   ⟨0, 13, (acqSet.w (.acq 0) .acqState 3).w (.acq 0) .acqRole 2, by decide +kernel⟩,
   ⟨0, 13, (acqSet.w (.acq 0) .acqState 4).w (.acq 0) .acqRole 1, by decide +kernel⟩,
   ⟨0, 13, acqSet.w (.acq 0) .acqState 1, by decide +kernel⟩,
   ⟨0, 0, acqSet.w (.acq 0) .acqState 3, by decide +kernel⟩,
   ⟨0, 0, acqSet.w (.acq 0) .acqState 6, by decide +kernel⟩⟩

theorem witness_AdcSamplesGiveResults :
    (∃ (t s : Nat) (m : State), m.laneOn t s = true ∧ m.frameDue t s (m.nextAdc t s) = false ∧ m.nextAdc t s ≤ (m.lane t
      s).latA ∧ (m.lane t s).owner = none ∧ (m.lane t s).step = none ∧ (m.lane t s).pm = [] ∧ (m.lane t s).rngPend = none ∧
      (m.lane t s).hold = false ∧ m.l (Page.lane t s) Fld.laneRangeAuto = 0 ∧ (m.subst t).xfer = none ∧ m.l (Page.lane t s)
      Fld.laneMeasQty = 1 ∧ (m.lane t s).apStart ≤ m.nextAdc t s ∧ m.nextAdc t s < m.apEnd t s) ∧
    (∃ (t s z : Nat) (m : State), m.laneOn t s = true ∧ (m.lane t s).step = none ∧ (m.lane t s).hold = false ∧ (m.lane t
      s).adcLast = some z ∧ m.apEnd t s ≤ z + 50 ∧ (m.lane t s).accV.n ≠ 0) :=
  ⟨⟨0, 0, lv (mUp.setLane 0 0 { latA := 50 }) (.lane 0 0) [(.laneMeasQty, 1), (.laneMeasAvg,1)], by decide +kernel⟩,
   ⟨0, 0, 50, lv (mUp.setLane 0 0 { latA := 50, adcLast := some 50, accV := { n := 1, sum := 7, fs := 1 } }) (.lane 0 0)
     [(.laneMeasQty, 1)], by decide +kernel⟩⟩

theorem witness_AlignmentAndTracking :
    (∃ (fn : Nat) (x : AlignMeas) (m : State), m.wlOn = true ∧ m.hostAt fn Page.wl = true ∧ m.r Page.wl Fld.wlAlignCmd = 0 ∧
      m.alignCheck x = 0) ∧
    (∃ (fn : Nat) (x : AlignMeas) (m : State), m.wlOn = true ∧ m.hostAt fn Page.wl = true ∧ m.r Page.wl Fld.wlAlignCmd = 0 ∧
      m.alignCheck x ≠ 0) ∧
    (∃ (fn : Nat) (m : State), m.wlOn = true ∧ m.hostAt fn Page.wl = true ∧ m.r Page.wl Fld.wlAlignCmd ≠ 0) ∧
    (∃ (m : State) (a : Acc) (w : Word), m.wlOn = true ∧ accTarget a = Target.reg Page.wl 292 ∧ a.off % 4 = 0 ∧ a.fn = 0 ∧
      m.hostAt 0 Page.wl = true ∧ m.absentAt Page.wl 292 = false ∧ wbits w 0 2 = 1 ∧ m.r Page.wl Fld.wlAlignCmd = 0 ∧ m.index
      ≠ 0) ∧
    (∃ (m : State) (a : Acc) (w : Word), m.wlOn = true ∧ accTarget a = Target.reg Page.wl 292 ∧ a.off % 4 = 0 ∧ a.fn = 0 ∧
      m.hostAt 0 Page.wl = true ∧ m.absentAt Page.wl 292 = false ∧ wbits w 0 2 = 1 ∧ m.r Page.wl Fld.wlAlignCmd = 0 ∧ m.index
      = 0) ∧
    (∃ (m : State) (a : Acc) (w : Word), m.wlOn = true ∧ accTarget a = Target.reg Page.wl 292 ∧ a.off % 4 = 0 ∧ a.fn = 0 ∧
      m.hostAt 0 Page.wl = true ∧ m.absentAt Page.wl 292 = false ∧ wbits w 0 2 = 1 ∧ m.r Page.wl Fld.wlAlignCmd ≠ 0) ∧
    (∃ (x : AlignMeas) (m : State), m.wlOn = true ∧ m.wl.alignAsked = true ∧ m.alignCheck x = 0) ∧
    (∃ (x : AlignMeas) (m : State), m.wlOn = true ∧ m.wl.alignAsked = true ∧ m.alignCheck x ≠ 0) ∧
    (∃ (x : AlignMeas) (m : State), m.wlOn = true ∧ m.wl.alignAsked = false ∧ m.wl.alignBusy = false ∧ m.index = 0 ∧ m.r
      Page.wl Fld.wlAuto = 1 ∧ x.mismatch = true ∧ m.alignCheck x = 0) ∧
    (∃ (x : AlignMeas) (m : State), m.wlOn = true ∧ m.wl.alignAsked = false ∧ (m.alignCheck x ≠ 0 ∨ x.mismatch = false ∨ m.r
      Page.wl Fld.wlAuto ≠ 1)) ∧
    (∃ (x : Nat) (m : State), m.wlOn = true ∧ m.index = 0 ∧ m.wl.alignBusy = true ∧ m.wl.alignAt + 80000 ≤ x) ∧
    (∃ (x count : Nat) (res : LoadMeas) (m : State), m.wlOn = true ∧ m.index ≠ 0 ∧ m.wlReached = true ∧ res.named + 80000 ≤ x
      ∧ (count = max m.pace x ∨ m.quiescent = true)) ∧
    (∃ (x count : Nat) (res : LoadMeas) (m : State), m.wlOn = true ∧ m.index ≠ 0 ∧ m.wlReached = true ∧ res.named + 80000 ≤ x
      ∧ count ≠ max m.pace x ∧ m.quiescent = false) ∧
    (∃ (m : State), m.wlOn = true ∧ m.index ≠ 0 ∧ m.wlReached = true) :=
  ⟨⟨0, ⟨true, true, true, [1], false⟩, wl0, by decide +kernel⟩,
   ⟨0, ⟨false, true, true, [1], false⟩, wl0, by decide +kernel⟩,
   ⟨0, wl0.w .wl .wlAlignCmd 1, by decide +kernel⟩,
   ⟨wl1, ⟨0, 0, 0x6124⟩, 1, by decide +kernel⟩,
   ⟨wl0, ⟨0, 0, 0x6124⟩, 1, by decide +kernel⟩,
   ⟨wl0.w .wl .wlAlignCmd 1, ⟨0, 0, 0x6124⟩, 1, by decide +kernel⟩,
   ⟨⟨true, true, true, [1], false⟩, { wl0 with wl := { alignAsked := true } }, by decide +kernel⟩,
   ⟨⟨true, true, true, [14337], false⟩, { wl0 with wl := { alignAsked := true } }, by decide +kernel⟩,
   ⟨⟨true, true, true, [14336], true⟩, wl0.w .wl .wlAuto 1, by decide +kernel⟩,
   ⟨⟨true, true, true, [1], false⟩, wl0, by decide +kernel⟩,
   ⟨80000, { wl0 with wl := { alignBusy := true } }, by decide +kernel⟩,
   ⟨80000, 80000, ⟨20, 0, 1, 2, [1, 2]⟩, wl1, by decide +kernel⟩,
   ⟨80000, 1, ⟨20, 0, 1, 2, [1, 2]⟩, { seqAt 4 11 {} with regs := (seqAt 4 11 {} wl1).regs, wl := wl1.wl },
     by decide +kernel⟩,
   ⟨wl1.w .wl .wlTrack 1, by decide +kernel⟩⟩

theorem witness_ArchiveAccesses :
    (∃ (fn off : Nat) (bytes : List Byte) (m : State), m.sound = true ∧ m.reach fn = true ∧ m.r Page.dev Fld.devStatReady = 1
      ∧ m.archOn = true ∧ off + bytes.length ≤ (m.region fn).snd ∧ m.latent = []) ∧
    (∃ (m : State), m.archOn = true) ∧
    (∃ (w : Nat) (m : State), m.archOn = true ∧ w * 8 < m.arcSize ∧ m.latent = [(w, false)]) ∧
    (∃ (w : Nat) (m : State), m.archOn = true ∧ w * 8 < m.arcSize ∧ (∀ (x : Nat × Bool), x ∈ m.latent → x.fst ≠ w)) ∧
    (∃ (w : Nat) (m : State), m.archOn = true ∧ w * 8 < m.arcSize ∧ (∀ (x : Nat × Bool), x ∈ m.latent → x.fst ≠ w) ∧ ¬w ∈
      m.poison) ∧
    (∃ (w : Nat) (m : State), m.archOn = true ∧ w * 8 < m.arcSize ∧ (∀ (x : Nat × Bool), x ∈ m.latent → x.fst ≠ w) ∧ w ∈
      m.poison) :=
  ⟨⟨0, 0xFFFFFFFF, [5], mUp, by decide +kernel⟩,
   ⟨mUp, by decide +kernel⟩,
   ⟨0x1FFFFFFF, { mUp with latent := [(0x1FFFFFFF, false)] }, by decide +kernel⟩,
   ⟨0x1FFFFFFF, mUp, by decide +kernel⟩,
   ⟨0x1FFFFFFF, mUp, by decide +kernel⟩,
   ⟨0x1FFFFFFF, { mUp with poison := [0x1FFFFFFF] }, by decide +kernel⟩⟩

theorem witness_BatonStagesTakePlace :
    (∃ (tick hop : Nat) (m : State) (t pos : Nat), hop < 15 ∧ pos < 48 ∧ m.tileOn t = true ∧ m.flight =
      [{ tick := tick, stage := Stage.prod t pos, hop := hop }]) ∧
    (∃ (tick hop : Nat) (m : State) (ch : Nat), hop < 15 ∧ ch < 112 ∧ m.flight =
      [{ tick := tick, stage := Stage.chan ch, hop := hop }] ∧ (∀ (k : Nat), k < 16 → m.r Page.trk (Fld.wlTxEn k) ≠ 1 ∨ m.r
      Page.trk (Fld.wlTxCh k) ≠ ch)) ∧
    (∃ (tick hop : Nat) (m : State) (t n pos : Nat), hop < 15 ∧ n < 4 ∧ pos < 48 ∧ m.tileOn t = true ∧ tabGet 0 (m.tile
      t).deliv (28 + n) ≠ tick + 1 ∧ m.flight = [{ tick := tick, stage := Stage.cons t (28 + n) pos, hop := hop }]) ∧
    (∃ (tick hop : Nat) (m : State) (t c pos : Nat), hop < 15 ∧ m.tileOn t = false ∧ m.flight =
      [{ tick := tick, stage := Stage.cons t c pos, hop := hop }]) ∧
    (∃ (tick hop : Nat) (m : State) (n : Nat), hop < 15 ∧ m.flight = [{ tick := tick, stage := Stage.trigOut n, hop := hop }])
      :=
  ⟨⟨0, 14, { mUp with flight := [{ tick := 0, stage := .prod 15 47, hop := 14 }] }, 15, 47, by decide +kernel⟩,
   ⟨0, 14, { mUp with flight := [{ tick := 0, stage := .chan 111, hop := 14 }] }, 111, by decide +kernel⟩,
   ⟨0, 14, { mUp with flight := [{ tick := 0, stage := .cons 15 31 47, hop := 14 }] }, 15, 3, 47, by decide +kernel⟩,
   ⟨0, 14, { mUp.setDom 19 false with flight := [{ tick := 0, stage := .cons 15 0 47, hop := 14 }] }, 15, 0, 47,
     by decide +kernel⟩,
   ⟨0, 14, { mUp with flight := [{ tick := 0, stage := .trigOut 7, hop := 14 }] }, 7, by decide +kernel⟩⟩

theorem witness_BoundariesAreDecidedAndTaken :
    (∃ (t : Nat) (m : State), m.r (Page.seq t) Fld.seqState = 4 ∧ (m.seq t).holding = false ∧ (m.seq t).gapEnd = none ∧ (m.seq
      t).noRefin = false ∧ (m.seq t).started = true ∧ (m.seq t).next = none ∧ ((m.segOf t (m.r (Page.seq t) Fld.seqSeg)).src ≠
      1 ∨ (m.seq t).vec = 64) ∧ (m.seq t).gran + 1 < (m.segOf t (m.r (Page.seq t) Fld.seqSeg)).granules ∧ (m.seq t).und = none
      ∧ (m.seq t).jump = none) ∧
    (∃ (t : Nat) (m : State), m.r (Page.seq t) Fld.seqState = 4 ∧ (m.seq t).holding = false ∧ (m.seq t).gapEnd = none ∧ (m.seq
      t).noRefin = false ∧ (m.seq t).started = true ∧ (m.seq t).next = none ∧ ((m.segOf t (m.r (Page.seq t) Fld.seqSeg)).src ≠
      1 ∨ (m.seq t).vec = 64) ∧ (m.seq t).gran + 1 = (m.segOf t (m.r (Page.seq t) Fld.seqSeg)).granules ∧ (m.segOf t (m.r
      (Page.seq t) Fld.seqSeg)).reps ≠ 0 ∧ (m.segOf t (m.r (Page.seq t) Fld.seqSeg)).reps ≤ (m.seq t).rep ∧ (m.segOf t (m.r
      (Page.seq t) Fld.seqSeg)).act = 4 ∧ (m.seq t).jump = none) ∧
    (∃ (t : Nat) (m : State) (j : JumpReq), m.r (Page.seq t) Fld.seqState = 4 ∧ (m.seq t).holding = false ∧ (m.seq t).gapEnd =
      none ∧ (m.seq t).noRefin = false ∧ (m.seq t).started = true ∧ (m.seq t).next = none ∧ ((m.segOf t (m.r (Page.seq t)
      Fld.seqSeg)).src ≠ 1 ∨ (m.seq t).vec = 64) ∧ (m.seq t).jump = some j ∧ ((m.segOf t (m.r (Page.seq t) Fld.seqSeg)).bound
      = true ∨ (m.seq t).gran + 1 = (m.segOf t (m.r (Page.seq t) Fld.seqSeg)).granules) ∧ j.tick < (m.seq t).boundary - 8 ∧
      (m.seq t).und = none ∧ m.streamed t (j.target, 0, 1) = false) ∧
    (∃ (t : Nat) (m : State), m.r (Page.seq t) Fld.seqState = 4 ∧ (m.seq t).holding = false ∧ (m.seq t).gapEnd = none ∧ (m.seq
      t).noRefin = false ∧ (m.seq t).started = true ∧ (m.seq t).next = none ∧ ((m.segOf t (m.r (Page.seq t) Fld.seqSeg)).src ≠
      1 ∨ (m.seq t).vec = 64) ∧ (m.seq t).gran + 1 < (m.segOf t (m.r (Page.seq t) Fld.seqSeg)).granules ∧ (m.seq t).und = some
      (m.r (Page.seq t) Fld.seqSeg, (m.seq t).gran + 1, (m.seq t).rep) ∧ (m.seq t).jump = none ∧ m.r (Page.seq t)
      Fld.seqPolicy = 0) ∧
    (∃ (t : Nat) (m : State), m.r (Page.seq t) Fld.seqState = 4 ∧ (m.seq t).holding = false ∧ (m.seq t).gapEnd = none ∧ (m.seq
      t).noRefin = false ∧ (m.seq t).started = true ∧ (m.seq t).next = some SeqNext.granule ∧ (m.seq t).gran + 1 ≠ (m.segOf t
      (m.r (Page.seq t) Fld.seqSeg)).granules ∧ (m.segOf t (m.r (Page.seq t) Fld.seqSeg)).src = 3 ∧ (m.seq t).und = none ∧
      m.seqPlayed t (m.seq t).boundary = true ∧ (m.granWords t (m.r (Page.seq t) Fld.seqSeg, (m.seq t).gran + 1, (m.seq
      t).rep)).fst = 0) ∧
    (∃ (t : Nat) (m : State), m.r (Page.seq t) Fld.seqState = 4 ∧ (m.seq t).holding = false ∧ (m.seq t).gapEnd = none ∧ (m.seq
      t).noRefin = false ∧ (m.seq t).started = false ∧ (m.segOf t (m.r (Page.seq t) Fld.seqFirst)).src = 3 ∧ (∀ (s : Nat), s ∈
      m.seqLanes t → m.sw t s ≠ Sw.pin ∧ (m.lane t s).dds = false) ∧ (m.granWords t (m.r (Page.seq t) Fld.seqFirst, 0, 1)).fst
      = 0 ∧ (∀ (h : Nat), (m.seq t).goHop = some h → h < 14)) ∧
    (∃ (t : Nat) (m : State), m.r (Page.seq t) Fld.seqState = 4 ∧ (m.seq t).holding = false ∧ (m.seq t).gapEnd = none ∧ (m.seq
      t).noRefin = false ∧ (m.seq t).started = true ∧ (m.seq t).next = some SeqNext.finish ∧ (m.seq t).gran + 1 = (m.segOf t
      (m.r (Page.seq t) Fld.seqSeg)).granules ∧ m.seqPlayed t (m.seq t).boundary = true ∧ (m.seq t).und = none) :=
  ⟨⟨0, seqAt 4 11 { started := true, boundary := 100, gran := 7 }, by decide +kernel⟩,
   ⟨0, seqAt 4 (11 + 1024) { started := true, boundary := 100, gran := 8 }, by decide +kernel⟩,
   ⟨0, seqAt 4 (11 + 16) { started := true, boundary := 100, jump := some ⟨0, 91, false⟩ }, ⟨0, 91, false⟩,
     by decide +kernel⟩,
   ⟨0, seqAt 4 11 { started := true, boundary := 100, und := some (0, 1, 1) }, by decide +kernel⟩,
   ⟨0, (seqAt 4 11 { started := true, boundary := 100, next := some .granule, stage := [(1, (0, [])) ] }).setLane 0 0
     { dacNext := 100 }, by decide +kernel⟩,
   ⟨0, seqAt 4 11 { stage := [(0, (0, [])) ], goHop := some 13 }, by decide +kernel⟩,
   ⟨0, (seqAt 4 11 { started := true, boundary := 100, gran := 8, next := some .finish }).setLane 0 0 { dacNext := 100 },
     by decide +kernel⟩⟩

theorem witness_CalibrationRequestsAndAborts :
    (∃ (fn : Nat) (p : CalParams) (m : State), m.hostAt fn Page.cur = true ∧ m.calStatus fn p = 0) ∧
    (∃ (fn : Nat) (p : CalParams) (m : State), m.hostAt fn Page.cur = true ∧ m.calStatus fn p ≠ 0) ∧
    (∃ (fn : Nat) (m : State) (c : CalRun) (l : List CalRun), (m.hostAt fn Page.cur = true ∧ m.cals = c :: l ∧ c.ended =
      false) ∧ (∀ (t : Nat), (m.tile t).turn = none)) ∧
    (∃ (fn : Nat) (m : State) (c : CalRun) (l : List CalRun), (m.hostAt fn Page.cur = true ∧ m.cals = c :: l ∧ c.ended = true)
      ∧ (∀ (t : Nat), (m.tile t).turn = none)) ∧
    (∃ (fn : Nat) (p : CalParams) (m : State) (tag : Nat), m.cmdOk fn = true ∧ m.tagBusy fn tag = false ∧ m.calStatus fn p =
      0) ∧
    (∃ (fn : Nat) (m : State) (tag rq : Nat), m.cmdOk fn = true ∧ m.tagBusy fn tag = true ∧ m.r (Page.q fn) (Fld.rqEn rq) ≠ 0)
      ∧
    (∃ (fn : Nat) (m : State) (q tag rq : Nat) (c : CalRun), (m.cmdOk fn = true ∧ m.cals = [c] ∧ c.fn = fn ∧ c.cmd = some (q,
      tag, rq) ∧ c.silent = false ∧ m.r (Page.q fn) (Fld.rqEn rq) ≠ 0 ∧ c.ended = false) ∧ (∀ (t : Nat), (m.tile t).turn =
      none)) ∧
    (∃ (fn : Nat) (m : State) (q tag rq : Nat) (c : CalRun), (m.cmdOk fn = true ∧ m.cals = [c] ∧ c.fn = fn ∧ c.cmd = some (q,
      tag, rq) ∧ c.silent = false ∧ m.r (Page.q fn) (Fld.rqEn rq) ≠ 0 ∧ c.ended = true) ∧ (∀ (t : Nat), (m.tile t).turn =
      none)) ∧
    (∃ (fn : Nat) (m : State), m.cmdOk fn = true ∧ m.cals = []) :=
  ⟨⟨0, calP, mUp, by decide +kernel⟩,
   ⟨0, { calP with kinds := 0 }, mUp, by decide +kernel⟩,
   ⟨0, { mUp with cals := [calR] }, calR, [], by decide +kernel, fun _ => rfl⟩,
   ⟨0, { mUp with cals := [{ calR with ended := true }] }, { calR with ended := true }, [], by decide +kernel, fun _ => rfl⟩,
   ⟨0, calP, mUp, 65535, by decide +kernel⟩,
   ⟨0, { mUp with cals := [{ calR with cmd := some (0, 65535, 0) }] }.w (.q 0) (.rqEn 15) 1, 65535, 15, by decide +kernel⟩,
   ⟨0, { mUp with cals := [{ calR with cmd := some (7, 65535, 15) }] }.w (.q 0) (.rqEn 15) 1, 7, 65535, 15,
     { calR with cmd := some (7, 65535, 15) }, by decide +kernel, fun _ => rfl⟩,
   ⟨0, { mUp with cals := [{ calR with cmd := some (7, 65535, 15), ended := true }] }.w (.q 0) (.rqEn 15) 1, 7, 65535, 15,
     { calR with cmd := some (7, 65535, 15), ended := true }, by decide +kernel, fun _ => rfl⟩,
   ⟨0, mUp, by decide +kernel⟩⟩

theorem witness_CalibrationTurns :
    (∃ (t : Nat) (m : State) (c : CalRun) (s set : Nat) (l : List (CalRun × Nat)), t < 16 ∧ (m.tile t).turn = none ∧
      m.calWants t = (c, s) :: l ∧ m.tileOn t = true ∧ (m.tile t).goingDown = false ∧ c.wantsRef t = false ∧ s < 9 ∧ m.calNext
      t s c.p.handover = CalNext.go CalPath.inPlace ∧ m.calSetFor t s c.p.set = some set ∧ m.serves t s = false) ∧
    (∃ (t : Nat) (m : State) (c : CalRun) (s : Nat) (l : List (CalRun × Nat)), t < 16 ∧ (m.tile t).turn = none ∧ m.calWants t
      = (c, s) :: l ∧ m.tileOn t = true ∧ (m.tile t).goingDown = false ∧ c.wantsRef t = false ∧ s < 9 ∧ m.calNext t s
      c.p.handover = CalNext.wait ∧ l = []) ∧
    (∃ (t : Nat) (m : State) (s since : Nat) (c : CalRun), t < 16 ∧ m.cals = [c] ∧ (m.tile t).calWait = [(c.id, s, since)] ∧
      c.p.waitMs ≠ 0 ∧ (∀ (e : Nat × Nat), e ∈ c.outcomes → e.fst ≠ t * 10 + s)) ∧
    (∃ (t : Nat) (m : State) (x : CalMeas) (c : CalTurn) (run : CalRun), t < 16 ∧ (m.tile t).turn = some c ∧ m.cals = [run] ∧
      run.id = c.run ∧ c.path = CalPath.inPlace ∧ c.slot < 9 ∧ (m.lane t c.slot).dcPend = none ∧ (∀ (e : Nat × Nat), e ∈
      run.outcomes → e.fst ≠ t * 10 + c.slot) ∧ m.serves t c.slot = false ∧ m.underXfer t c.slot = false ∧ (m.calJudge t c run
      x).fst ≠ 4) :=
  ⟨⟨0, { mUp with cals := [calR] }, calR, 0, 0, [], by decide +kernel⟩,
   ⟨0, { (lsw 4).setLane 0 0 { owner := some (.ctx 0) } with cals := [calR] }, calR, 0, [], by decide +kernel⟩,
   ⟨0, { mUp with cals := [{ calR with p := { calP with waitMs := 1 } }] }.setTile 0 { calWait := [(0, 0, 0)] }, 0, 0,
     { calR with p := { calP with waitMs := 1 } }, by decide +kernel⟩,
   ⟨0, { mUp with cals := [{ calR with p := { calP with kinds := 2 } }] }.setTile 0
     { turn := some { run := 0, slot := 0, path := .inPlace, temp := 0, set := 0 } }, ⟨pass0, pass0, qual0, 5000000⟩,
     { run := 0, slot := 0, path := .inPlace, temp := 0, set := 0 }, { calR with p := { calP with kinds := 2 } },
     by decide +kernel⟩⟩

theorem witness_CatalogueCommits :
    (∃ (m : State) (fn set t s : Nat), m.hostAt fn Page.cur = true ∧ set < 8 ∧ t < 16 ∧ s < 10 ∧ m.tileOn t = true ∧ m.setBusy
      set = false ∧ m.validSets t s ≠ [set] ∧ (m.setEntry t s set).valid = true) ∧
    (∃ (m : State) (fn set t s : Nat), m.hostAt fn Page.cur = true ∧ set < 8 ∧ t < 16 ∧ s < 10 ∧ m.tileOn t = true ∧ m.setBusy
      set = false ∧ m.validSets t s = [set]) ∧
    (∃ (m : State) (c : CalRun) (l : List CalRun) (k : Nat) (v : KeptCal), m.cals = c :: l ∧ c.ended = false ∧ c.complete =
      true ∧ c.cmd = none ∧ c.kept = [(k, v)]) :=
  ⟨⟨{ mUp with catalogue := { entries := [(1278, { valid := true }), (1279, { valid := true })] } }, 0, 7, 15, 9,
    by decide +kernel⟩,
   ⟨{ mUp with catalogue := { entries := [(1279, { valid := true })] } }, 0, 7, 15, 9, by decide +kernel⟩,
   ⟨{ mUp with cals := [{ calR with kept := [(0, keep0)], outcomes := [(0, 1)] }] },
     { calR with kept := [(0, keep0)], outcomes := [(0, 1)] }, [], 0, keep0, by decide +kernel⟩⟩

theorem witness_CommandQueues :
    (∃ (fn q : Nat) (m : State) (ds : List QData), q < 8 ∧ m.winOk fn = true ∧ m.r (Page.q fn) (Fld.cqEn q) ≠ 0 ∧ (m.cq fn
      q).skip = false ∧ (m.cq fn q).words.length + ds.length ≤ 8192 ∧ ds ≠ []) ∧
    (∃ (fn q : Nat) (m : State), q < 8 ∧ m.hostAt fn (Page.q fn) = true ∧ (m.cq fn q).stalled = []) ∧
    (∃ (fn q : Nat) (m : State) (h : QWord) (l : List QWord), q < 8 ∧ fn < 17 ∧ partialTail (m.cq fn q).words = h :: l ∧ (m.cq
      fn q).stalled = []) ∧
    (∃ (fn q off r v t s : Nat) (ds : List QData) (bs : List Byte) (es : EccErrs) (whole ep en : Bool) (c : Instr) (m :
      State), m.linked fn = true ∧ m.linkStalled = true ∧ c ∈ [Instr.cqWrite fn q off ds whole ep, Instr.resultDoorbell fn r
      v, Instr.flush fn q, Instr.bar2Read fn off r es, Instr.bar2Write fn off bs ep es, Instr.connect fn t s, Instr.disconnect
      fn t s, Instr.busMasterEnable fn en, Instr.powerStateChange fn en]) ∧
    (∃ (fn q : Nat) (w : QWord) (l : List QWord) (m : State), fn < 17 ∧ q < 8 ∧ (m.cq fn q).stalled = w :: l) :=
  ⟨⟨0, 7, mUp.w (.q 0) (.cqEn 7) 1, [1], by decide +kernel⟩,
   ⟨0, 7, mUp, by decide +kernel⟩,
   ⟨16, 7, { mUp with cqs := [(135, { words := [⟨1, false, false, false⟩] })] }, ⟨1, false, false, false⟩, [],
     by decide +kernel⟩,
   ⟨0, 7, 0, 0, 0, 0, 0, [], [], [], false, false, false, .flush 0 7,
     { mUp with cqs := [(135, { stalled := [⟨1, false, false, false⟩] })] }, by decide +kernel⟩,
   ⟨16, 7, ⟨1, false, false, false⟩, [], { mUp with cqs := [(135, { stalled := [⟨1, false, false, false⟩] })] },
     by decide +kernel⟩⟩

theorem witness_CommandTakeServesTheHead :
    (∃ (fn q : Nat) (m : State), fn < 17 ∧ q < 8 ∧ m.cmdOk fn = true ∧ m.cmdTurn fn q = false) ∧
    (∃ (fn q : Nat) (h : QWord) (rest : List QWord) (m : State), fn < 17 ∧ q < 8 ∧ m.cmdOk fn = true ∧ m.cmdTurn fn q = true ∧
      (m.cq fn q).words = h :: rest ∧ h.last = true ∧ h.bad = false ∧ (m.cq fn q).stalled = [] ∧ (m.cq fn q).blocked = [] ∧
      m.r (Page.q fn) (Fld.rqEn (hdrRq h.data)) ≠ 0 ∧ h.data = BitVec.ofNat 64 (256 + 2 ^ 16 * hdrRq h.data + 2 ^ 32 * hdrTag
      h.data) ∧ m.queueQuiet fn q = true ∧ m.tagBusy fn (hdrTag h.data) = false) ∧
    (∃ (fn q : Nat) (h : QWord) (rest : List QWord) (m : State), fn < 17 ∧ q < 8 ∧ m.cmdOk fn = true ∧ m.cmdTurn fn q = true ∧
      (m.cq fn q).words = h :: rest ∧ h.last = true ∧ h.bad = false ∧ (m.cq fn q).stalled = [] ∧ (m.cq fn q).blocked = [] ∧
      m.r (Page.q fn) (Fld.rqEn (hdrRq h.data)) ≠ 0 ∧ opcodeForm (hdrOp h.data) = none) :=
  ⟨⟨16, 7, mUp, by decide +kernel⟩,
   ⟨16, 7, ⟨BitVec.ofNat 64 (256 + 15 * 65536 + 2 ^ 32 * 7), true, false, false⟩, [],
     { mUp.w (.q 16) (.rqEn 15) 1 with cqs := [(135, { words := [⟨BitVec.ofNat 64 (256 + 15 * 65536 + 2 ^ 32 * 7), true, false, false⟩] })] },
     by decide +kernel⟩,
   ⟨16, 7, ⟨0x99, true, false, false⟩, [],
     { mUp.w (.q 16) (.rqEn 0) 1 with cqs := [(135, { words := [⟨0x99, true, false, false⟩] })] }, by decide +kernel⟩⟩

theorem witness_ConnectAndDisconnectUnit :
    (∃ (fn t s : Nat) (m : State), m.hostAt fn (Page.lane t s) = true ∧ m.follower t s = false ∧ m.locked t s = false ∧
      (((m.unit t s).all fun k => m.sw t k == Sw.disconnected) = true) ∧ m.r (Page.lane t s) Fld.pageEn ≠ 0 ∧ s < 9 ∧
      m.gangsApart t = true ∧ m.unheld t s = true ∧ m.tfold t = false ∧ (m.tile t).goingDown = false ∧ m.cur.pfail = none ∧
      (governor m (List.foldl (fun m k => m.preconnect t k (m.pace + 1) true) m (m.unit t s)) t s = none)) ∧
    (∃ (fn t s : Nat) (m : State), m.hostAt fn (Page.lane t s) = true ∧ m.follower t s = false ∧ m.flrShut t s = true) ∧
    (∃ (fn t s : Nat) (m : State), m.hostAt fn (Page.lane t s) = true ∧ m.follower t s = false ∧ m.flrShut t s = false ∧
      m.gangsApart t = true ∧ m.unheld t s = true ∧ (∀ (k : Nat), k ∈ m.unit t s → m.sw t k = Sw.connected)) :=
  ⟨⟨0, 15, 8, mUp.w (.lane 15 8) .pageEn 1, by decide +kernel⟩,
   ⟨0, 15, 8, (mUp.w .site (.siteOwn 15 8) 1).setFn 1 { flr := some 5 }, by decide +kernel⟩,
   ⟨0, 15, 9, lsw 4 mUp 15 9, by decide +kernel⟩⟩

theorem witness_ConnectionInTime :
    (∃ (t s : Nat) (m : State), m.sw t s = Sw.preconnect) ∧
    (∃ (t s : Nat) (m : State), m.sw t s = Sw.connecting ∧ (m.lane t s).forceSw = false ∧ (m.lane t s).ben = false ∧
      m.shadowed t (m.leader t s) = false) ∧
    (∃ (t s : Nat) (m : State), m.sw t s = Sw.connecting ∧ ((m.lane t s).forceSw = true ∨ (m.lane t s).ben = true) ∧ (m.lane t
      (m.leader t s)).swapHits < 3 ∧ m.shadowed t (m.leader t s) = false) ∧
    (∃ (t s : Nat) (m : State), m.sw t s = Sw.disconnecting ∧ (m.lane t s).rampStep < 64) ∧
    (∃ (t s : Nat) (m : State), m.sw t s = Sw.disconnecting ∧ (m.lane t s).rampStep = 64) ∧
    (∃ (t s : Nat) (m : State), m.sw t s = Sw.disconnecting ∧ 64 < (m.lane t s).rampStep ∧ m.calm t = true ∧ (m.lane t
      (m.leader t s)).pulse = none ∧ (∀ (j : Nat), j ∈ m.leaving t s → (m.lane t j).owner = none ∧ (m.lane t j).rstPend =
      false) ∧ (m.subst t).xfer = none) :=
  ⟨⟨0, 0, lsw 2, by decide +kernel⟩,
   ⟨0, 0, lsw 3, by decide +kernel⟩,
   ⟨0, 0, (lsw 3).setLane 0 0 { forceSw := true, swapHits := 2 }, by decide +kernel⟩,
   ⟨0, 0, (lsw 9).setLane 0 0 { rampStep := 63 }, by decide +kernel⟩,
   ⟨0, 0, (lsw 9).setLane 0 0 { rampStep := 64 }, by decide +kernel⟩,
   ⟨0, 0, (lsw 9).setLane 0 0 { rampStep := 65 }, by decide +kernel⟩⟩

theorem witness_ContextCommands :
    (∃ (fn : Nat) (p : CtxParams) (m : State), m.cmdOk fn = true ∧ m.openStatus fn p = 0) ∧
    (∃ (fn : Nat) (p : CtxParams) (m : State), m.cmdOk fn = true ∧ m.openStatus fn p ≠ 0) ∧
    (∃ (fn id : Nat) (m : State) (go : Nat), m.cmdOk fn = true ∧ m.owns fn id = true ∧ odd8to14 go = false ∧ m.tileOn (m.ctx
      id).tile = true ∧ (m.tile (m.ctx id).tile).goingDown = false ∧ ((m.ctx id).st = CtxSt.openSt ∨ (m.ctx id).st =
      CtxSt.done) ∧ (¬(go < 8 ∧ go = (m.ctx id).par.abortOn))) ∧
    (∃ (fn id : Nat) (m : State), m.cmdOk fn = true ∧ m.owns fn id = true ∧ (m.ctx id).st.live = true ∧ m.runEnd id (min
      m.pace (m.lane (m.ctx id).tile (m.ctx id).slot).sampledTo) = none) ∧
    (∃ (fn id : Nat) (m : State), m.cmdOk fn = true ∧ m.owns fn id = true ∧ ((m.ctx id).st = CtxSt.openSt ∨ (m.ctx id).st =
      CtxSt.done)) ∧
    (∃ (fn id : Nat) (m : State), m.cmdOk fn = true ∧ m.owns fn id = true) :=
  ⟨⟨0, ⟨143, false, 0, 65536, 3, 1024, 15, false, 15, 15⟩, mUp, by decide +kernel⟩,
   ⟨0, ⟨143, false, 0, 65537, 3, 1024, 15, false, 15, 15⟩, mUp, by decide +kernel⟩,
   ⟨0, 0, ctxIn .openSt, 7, by decide +kernel⟩,
   ⟨0, 0, run [], by decide +kernel⟩,
   ⟨0, 0, ctxIn .done, by decide +kernel⟩,
   ⟨0, 0, ctxIn .done, by decide +kernel⟩⟩

theorem witness_DacSamplesTakeTheirSource :
    (∃ (t s : Nat) (m : State), m.laneOn t s = true ∧ m.sw t s = Sw.connected ∧ m.follower t s = false ∧ (m.lane t s).owner =
      none ∧ m.nextDac t s ≤ (m.lane t s).latD ∧ (m.lane t s).hold = false ∧ (m.lane t s).rngPend = none ∧ (m.lane t s).dds =
      false ∧ (m.lane t s).pulse = none ∧ (m.lane t s).step = none) ∧
    (∃ (g hop t s id : Nat) (q : QEntry) (rest : List QEntry) (m : State), (t < 16 ∧ s < 10 ∧ hop < 14 ∧ m.laneOn t s = true ∧
      m.srcOf t s = 2 ∧ m.l (Page.lane t s) Fld.laneDacGroup = g ∧ (m.lane t s).owner = some (Owner.ctx id) ∧ (m.ctx
      id).badDesc = none ∧ (∀ (c : Nat × Ctx), c ∈ m.ctxs → c.snd.waitI = none) ∧ (m.lane t s).qGate = true ∧ (m.lane t
      s).qFrom < m.pace ∧ ((m.lane t s).lastUpdate = 0 ∨ (m.lane t s).lastUpdate + 80 ≤ m.pace) ∧ (m.lane t s).step = none ∧
      (m.lane t s).dwellEnd = 0 ∧ (m.lane t s).dacQ = q :: rest ∧ q.rep = 0 ∧ q.fin = false ∧ q.cfg.strobe = true ∧
      BitVec.getLsbD q.w 27 = false ∧ (m.lane t s).latch.length < 8 ∧ (q.keep = true → m.r (Page.lane t s) Fld.laneForceLevel
      < 2 ^ 20 ∧ wbits q.w 0 20 = 0)) ∧ (∀ (u k : Nat), u < 16 → k < 10 → u = t ∧ k = s ∨ m.l (Page.lane u k) Fld.laneDacGroup
      ≠ g)) :=
  ⟨⟨0, 0, lsw 4, by decide +kernel⟩,
   ⟨1, 13, 0, 0, 0, { cfg := { strobe := true } }, [],
     { lv (((lsw 4).setLane 0 0 { owner := some (.ctx 0), qFrom := 100, dacQ := [{ cfg := { strobe := true } }] }).setCtx 0 { st := .running, engine := some 0, members := [0] }) (.lane 0 0) [(.laneDacSrc, 2), (.laneDacGroup, 1)] with pace := 101 },
     by decide +kernel, fun u k hu hk => (by decide +kernel : ∀ u < 16, ∀ k < 10, u = 0 ∧ k = 0 ∨
     ({ lv (((lsw 4).setLane 0 0 { owner := some (.ctx 0), qFrom := 100, dacQ := [{ cfg := { strobe := true } }] }).setCtx 0 { st := .running, engine := some 0, members := [0] }) (.lane 0 0) [(.laneDacSrc, 2), (.laneDacGroup, 1)] with pace := 101 }).l
     (.lane u k) .laneDacGroup ≠ 1) u hu k hk⟩⟩

theorem witness_DescriptorsDecode :
    (∃ (id : Nat) (ws : List Word) (m : State), m.atDesc id 0 ws = true) ∧
    (∃ (id : Nat) (ws : List Word) (m : State), m.atDesc id 6 ws = true) ∧
    (∃ (id : Nat) (ws : List Word) (m : State), m.atDesc id 8 ws = true) ∧
    (∃ (id : Nat) (ws : List Word) (m : State), m.atDesc id 9 ws = true ∧ wbits (dw ws 1) 16 2 = 0) ∧
    (∃ (id : Nat) (ws : List Word) (m : State), m.atDesc id 9 ws = true ∧ wbits (dw ws 1) 16 2 = 3 ∧ wbits (dw ws 1) 20 2 <
      (m.ctx id).loops.length) ∧
    (∃ (id : Nat) (ws : List Word) (m : State), m.atDesc id 1 ws = true ∧ m.quiet id = true ∧ (m.ctx id).connWait = false ∧
      wbits (dw ws 1) 16 2 = 0 ∧ wbits (dw ws 1) 24 4 = 0 ∧ m.cur.pfail = none ∧ m.unit (m.ctx id).tile (m.ctx id).slot =
      [(m.ctx id).slot] ∧ m.sw (m.ctx id).tile (m.ctx id).slot = Sw.disconnected ∧ (m.lane (m.ctx id).tile (m.ctx
      id).slot).estHold = none ∧ m.substFor (m.ctx id).tile (m.ctx id).slot = false ∧ wbits (dw ws 1) 0 3 ≠ 0 ∧ m.laneCheck
      (m.ctx id).tile (m.ctx id).slot 256 (configForce ws) true = none) ∧
    (∃ (id : Nat) (ws : List Word) (m : State), (m.atDesc id 2 ws = true ∧ (m.lane (m.ctx id).tile (m.ctx id).slot).dds =
      false ∧ m.namesIb
      { cfg := stepCfg ws (m.ctx id).desc (wbits (dw ws 3) 0 20), start := (linLevels ws).fst, inc := sext 21 (wbits (dw ws 2) 0 21), rngWord := if BitVec.getLsbD (dw ws 1) 27 = true then wbits (dw ws 1) 24 4 * 2 ^ 24 else 0 }
      = false ∧ 8 ≤ (m.ctx id).goStart ∧ m.cur.pfail = none ∧ ((m.ctx id).gridOpen = false ∨ (m.ctx id).gridStrobe =
      ({ cfg := stepCfg ws (m.ctx id).desc (wbits (dw ws 3) 0 20), start := (linLevels ws).fst, inc := sext 21 (wbits (dw ws 2) 0 21), rngWord := if BitVec.getLsbD (dw ws 1) 27 = true then wbits (dw ws 1) 24 4 * 2 ^ 24 else 0 }
      : Gen).cfg.strobe) ∧ governor (m.engOp (m.ctx id).tile (m.ctx id).engine 24) ((m.engOp (m.ctx id).tile (m.ctx id).engine
      24).withDescEst (m.ctx id).tile (m.ctx id).slot
      { cfg := stepCfg ws (m.ctx id).desc (wbits (dw ws 3) 0 20), start := (linLevels ws).fst, inc := sext 21 (wbits (dw ws 2) 0 21), rngWord := if BitVec.getLsbD (dw ws 1) 27 = true then wbits (dw ws 1) 24 4 * 2 ^ 24 else 0 })
      (m.ctx id).tile (m.ctx id).slot = none)) ∧
    (∃ (id : Nat) (ws : List Word) (m : State) (es : List Word), (m.ctx id).dataAt (m.ctx id).desc (listLen ws) = some (es,
      none) ∧ (m.atDesc id 3 ws = true ∧ (m.lane (m.ctx id).tile (m.ctx id).slot).dds = false ∧ m.namesIb
      { kind := 3, cfg := stepCfg ws (m.ctx id).desc (wbits (dw ws 1) 0 16), entries := es } = false ∧ 8 ≤ (m.ctx id).goStart
      ∧ m.cur.pfail = none ∧ ((m.ctx id).gridOpen = false ∨ (m.ctx id).gridStrobe =
      ({ kind := 3, cfg := stepCfg ws (m.ctx id).desc (wbits (dw ws 1) 0 16), entries := es } : Gen).cfg.strobe) ∧ governor
      (m.engOp (m.ctx id).tile (m.ctx id).engine 24) ((m.engOp (m.ctx id).tile (m.ctx id).engine 24).withDescEst (m.ctx
      id).tile (m.ctx id).slot { kind := 3, cfg := stepCfg ws (m.ctx id).desc (wbits (dw ws 1) 0 16), entries := es }) (m.ctx
      id).tile (m.ctx id).slot = none)) ∧
    (∃ (id : Nat) (ws : List Word) (m : State), (m.atDesc id 5 ws = true ∧ (m.lane (m.ctx id).tile (m.ctx id).slot).dds =
      false ∧ m.namesIb { kind := 5, cfg := stepCfg ws (m.ctx id).desc (wbits (dw ws 3) 0 20) } = false ∧ 8 ≤ (m.ctx
      id).goStart ∧ m.cur.pfail = none ∧ ((m.ctx id).gridOpen = false ∨ (m.ctx id).gridStrobe =
      ({ kind := 5, cfg := stepCfg ws (m.ctx id).desc (wbits (dw ws 3) 0 20) } : Gen).cfg.strobe) ∧ governor (m.engOp (m.ctx
      id).tile (m.ctx id).engine 24) ((m.engOp (m.ctx id).tile (m.ctx id).engine 24).withDescEst (m.ctx id).tile (m.ctx
      id).slot { kind := 5, cfg := stepCfg ws (m.ctx id).desc (wbits (dw ws 3) 0 20) }) (m.ctx id).tile (m.ctx id).slot =
      none)) :=
  ⟨⟨0, [0,0,0,0,0,0,0,0], run [[0,0,0,0,0,0,0,0]], by decide +kernel⟩,
   ⟨0, [6,0,0,0,0,0,0,0], run [[6,0,0,0,0,0,0,0]], by decide +kernel⟩,
   ⟨0, [8,7,0,0,0,0,0,0], run [[8,7,0,0,0,0,0,0]], by decide +kernel⟩,
   ⟨0, [9,0,0,0,0,0,0,0], run [[9,0,0,0,0,0,0,0]], by decide +kernel⟩,
   ⟨0, [9,0x30000,1,0,0,0,0,0], run [[9,0x30000,1,0,0,0,0,0]], by decide +kernel⟩,
   ⟨0, [1,1,0,0,0,0,0,0], run [[1,1,0,0,0,0,0,0]] 1, by decide +kernel⟩,
   ⟨0, [2,0,0,1,200,0,1,0], run [[2,0,0,1,200,0,1,0]], by decide +kernel⟩,
   ⟨0, [3,1,0,0,200,0,1,0], run [[3,1,0,0,200,0,1,0],[4,0,0,0,0,0,0,0]], [0,0,0,0,0,0,0], by decide +kernel⟩,
   ⟨0, [5,0,0,1,200,0,1,0], run [[5,0,0,1,200,0,1,0]], by decide +kernel⟩⟩

theorem witness_EveryStepKeepsSoundness :
    ∃ (m m' : State), m.sound = true ∧ step m = Host.Outcome.next m' :=
  ⟨mUp, { mUp with pace := 1 }, by decide +kernel, rfl⟩

theorem witness_FaultsOpenTheUnit :
    (∃ (t s : Nat) (m : State), m.calm t = true ∧ (m.lane t (m.leader t s)).owner = none ∧ (m.subst t).xfer = none ∧ (∀ (k :
      Nat), k ∈ m.together t s → m.calHold t k = false) ∧ m.sw t s = Sw.connecting ∧ 3 ≤ (m.lane t s).swapHits) ∧
    (∃ (t s : Nat) (m : State) (uv : Int), m.calm t = true ∧ (m.lane t (m.leader t s)).owner = none ∧ (m.subst t).xfer = none
      ∧ (∀ (k : Nat), k ∈ m.together t s → m.calHold t k = false) ∧ m.laneOn t s = true ∧ m.beyondReach t s uv = true ∧
      uv.natAbs ≤ 30000000) ∧
    (∃ (t s : Nat) (m : State) (lowNs : Nat), m.calm t = true ∧ (m.lane t (m.leader t s)).owner = none ∧ (m.subst t).xfer =
      none ∧ (∀ (k : Nat), k ∈ m.together t s → m.calHold t k = false) ∧ m.tileOn t = true ∧ m.boosted t s = true ∧ 100 ≤
      lowNs) ∧
    (∃ (t s : Nat) (m : State) (v i : Int), m.calm t = true ∧ (m.lane t (m.leader t s)).owner = none ∧ (m.subst t).xfer = none
      ∧ (∀ (k : Nat), k ∈ m.together t s → m.calHold t k = false) ∧ m.tileOn t = true ∧ m.boosted t s = true ∧ v.natAbs ≤ 6000
      ∧ i.natAbs ≤ 6000 ∧ (5500 < v.natAbs ∨ 5500 < i.natAbs)) :=
  ⟨⟨0, 0, (lsw 3).setLane 0 0 { swapHits := 3 }, by decide +kernel⟩,
   ⟨0, 0, (lsw 4).setLane 0 0 { forceSw := true }, 30000000, by decide +kernel⟩,
   ⟨0, 0, (lsw 4).w (.tile 0) .tileBoostEn 1, 100, by decide +kernel⟩,
   ⟨0, 0, (lsw 4).w (.tile 0) .tileBoostEn 1, 5501, 6000, by decide +kernel⟩⟩

theorem witness_FenceAndDma :
    (∃ (fn q rq : Nat) (m : State), m.cmdOk fn = true ∧ m.queueQuiet fn q = true ∧ m.r (Page.q fn) (Fld.rqEn rq) ≠ 0) ∧
    (∃ (fn tag iova off len : Nat) (m : State), m.cmdOk fn = true ∧ m.dmaFull fn = false ∧ m.dmaStatus fn tag iova off len =
      0) ∧
    (∃ (fn tag : Nat) (d : Dma) (m : State), (m.cmdOk fn = true ∧ d.fn = fn ∧ d.tag = tag) ∧ (∃ l, m.dmas = d :: l)) ∧
    (∃ (fn tag : Nat) (d : Dma) (l : List Dma) (m : State), m.sound = true ∧ m.dmas = d :: l ∧ d.fn = fn ∧ d.tag = tag ∧
      m.dmaRuns fn = true ∧ m.archOn = true ∧ m.latent = [] ∧ m.poison = [] ∧ d.bad = none ∧ m.shareOut fn = false ∧ m.dmaTurn
      fn = true ∧ d.wr = false) ∧
    (∃ (fn tag : Nat) (d : Dma) (l : List Dma) (m : State) (ws : List Word), m.sound = true ∧ m.dmas = d :: l ∧ d.fn = fn ∧
      d.tag = tag ∧ m.dmaRuns fn = true ∧ m.archOn = true ∧ m.latent = [] ∧ m.poison = [] ∧ d.bad = none ∧ m.shareOut fn =
      false ∧ m.dmaTurn fn = true ∧ d.wr = true ∧ 4 * ws.length = d.unit) ∧
    (∃ (fn tag : Nat) (d : Dma) (l : List Dma) (m : State), m.sound = true ∧ m.dmas = d :: l ∧ d.fn = fn ∧ d.tag = tag ∧
      m.dmaRuns fn = true ∧ m.archOn = true ∧ m.latent = [] ∧ m.poison = [] ∧ d.bad = none ∧ m.shareOut fn = true) ∧
    (∃ (fn tag : Nat) (d : Dma) (l : List Dma) (m : State), m.sound = true ∧ m.dmas = d :: l ∧ d.fn = fn ∧ d.tag = tag ∧
      m.dmaRuns fn = true ∧ m.archOn = true ∧ m.latent = [] ∧ m.poison = [] ∧ d.bad = none ∧ m.shareOut fn = false ∧ m.dmaTurn
      fn = false) :=
  ⟨⟨0, 7, 15, mUp.w (.q 0) (.rqEn 15) 1, by decide +kernel⟩,
   ⟨0, 65535, 0, 0, 64, mUp, by decide +kernel⟩,
   ⟨0, 5, { fn := 0, q := 0, tag := 5, rq := 0, wr := false, iova := 0, off := 0, len := 8 },
     { mUp with dmas := [{ fn := 0, q := 0, tag := 5, rq := 0, wr := false, iova := 0, off := 0, len := 8 }] },
     by decide +kernel, ⟨[], rfl⟩⟩,
   ⟨0, 5, { fn := 0, q := 0, tag := 5, rq := 0, wr := false, iova := 0, off := 0, len := 8 }, [],
     { mUp with dmas := [{ fn := 0, q := 0, tag := 5, rq := 0, wr := false, iova := 0, off := 0, len := 8 }] }.setFn 0
     { bme := true }, by decide +kernel⟩,
   ⟨0, 5, { fn := 0, q := 0, tag := 5, rq := 0, wr := true, iova := 0, off := 0, len := 8 }, [],
     { mUp with dmas := [{ fn := 0, q := 0, tag := 5, rq := 0, wr := true, iova := 0, off := 0, len := 8 }] }.setFn 0
     { bme := true }, [1, 2], by decide +kernel⟩,
   ⟨0, 5, { fn := 0, q := 0, tag := 5, rq := 0, wr := false, iova := 0, off := 0, len := 8 }, [],
     { noArc with dmas := [{ fn := 0, q := 0, tag := 5, rq := 0, wr := false, iova := 0, off := 0, len := 8 }] }.setFn 0
     { bme := true }, by decide +kernel⟩,
   ⟨0, 5, { fn := 0, q := 0, tag := 5, rq := 0, wr := false, iova := 0, off := 0, len := 8 },
     [{ fn := 1, q := 0, tag := 5, rq := 0, wr := false, iova := 0, off := 0, len := 8 }],
     ({ mUp with dmas := [{ fn := 0, q := 0, tag := 5, rq := 0, wr := false, iova := 0, off := 0, len := 8 }, { fn := 1, q := 0, tag := 5, rq := 0, wr := false, iova := 0, off := 0, len := 8 }], cur := { mUp.cur with dmaLast := 0 } }.setFn
     0 { bme := true }).setFn 1 { bme := true }, by decide +kernel⟩⟩

theorem witness_FiringsRoutesAndTrigLands :
    (∃ (fn t pos : Nat) (m : State), m.hostAt fn (Page.bat t) = true ∧ pos < 48) ∧
    (∃ (fn ch : Nat) (m : State), m.hostAt fn Page.trk = true ∧ ch < 128 ∧ m.ownsTrk fn ch = true) ∧
    (∃ (fn ch : Nat) (m : State), m.hostAt fn Page.trk = true ∧ ch < 128 ∧ m.ownsTrk fn ch = false) ∧
    (∃ (a : Acc) (w : Word) (t c : Nat) (m : State), accTarget a = Target.reg (Page.bat t) (256 + 8 * c) ∧ m.hostAt a.fn
      (Page.bat t) = true ∧ c < 32 ∧ (a.fn = 0 ∨ m.batForeign a.fn t (256 + 8 * c) w = false)) ∧
    (∃ (a : Acc) (w : Word) (t c : Nat) (m : State), accTarget a = Target.reg (Page.bat t) (256 + 8 * c) ∧ m.hostAt a.fn
      (Page.bat t) = true ∧ c < 32 ∧ a.fn ≠ 0 ∧ m.batForeign a.fn t (256 + 8 * c) w = true) ∧
    (∃ (a : Acc) (t c : Nat) (m : State), accTarget a = Target.reg (Page.bat t) (256 + 8 * c) ∧ m.hostAt a.fn (Page.bat t) =
      true ∧ 32 ≤ c ∧ c < 40) ∧
    (∃ (n : Nat) (m : State), m.dom 1 = true ∧ n < 8 ∧ m.trigBlind n = false) ∧
    (∃ (n : Nat) (m : State), m.dom 1 = true ∧ n < 8 ∧ m.trigBlind n = true) ∧
    (∃ (n z : Nat) (l : Tab Nat) (m : State), n < 8 ∧ m.cur.trigUntil = (n, z) :: l) :=
  ⟨⟨0, 15, 47, mUp, by decide +kernel⟩,
   ⟨0, 127, mUp, by decide +kernel⟩,
   ⟨1, 127, mUp.w (.site) (.siteHome 0) 1, by decide +kernel⟩,
   ⟨⟨0, 0, 0x1F381F8⟩, 0, 15, 31, mUp, by decide +kernel⟩,
   ⟨⟨1, 0, 0x38100⟩, 1, 0, 0, mUp.w (.site) (.siteHome 0) 1, by decide +kernel⟩,
   ⟨⟨0, 0, 0x1F38238⟩, 15, 39, mUp, by decide +kernel⟩,
   ⟨7, mUp, by decide +kernel⟩,
   ⟨7, { mUp with cur := { mUp.cur with trigUntil := [(7, 5)] } }, by decide +kernel⟩,
   ⟨7, 5, [], { mUp with cur := { mUp.cur with trigUntil := [(7, 5)] } }, by decide +kernel⟩⟩

theorem witness_FoldbackAndOpenCheck :
    (∃ (t s z : Nat) (m : State), m.laneOn t s = true ∧ (m.lane t s).shortSince = some z ∧ z + 4000000 ≤ m.nextAdc t s ∧
      (m.lane t s).foldShort = false ∧ (m.subst t).xfer = none ∧ s < 9 ∧ (∀ (k : Nat), k ∈ m.together t s → m.calHold t k =
      false)) ∧
    (∃ (t s : Nat) (m : State), m.laneOn t s = true ∧ (m.lane t s).foldShort = true ∧ (m.lane t s).foldThermal = false ∧
      m.tfold t = false ∧ ((m.lane t s).foldClr = true ∨ ∃ z, (m.lane t s).exitSince = some z ∧ z + 800000 ≤ m.nextAdc t s)) ∧
    (∃ (fn t s : Nat) (m : State), m.hostAt fn (Page.lane t s) = true ∧ m.follower t s = false ∧ m.locked t s = false ∧ m.r
      (Page.lane t s) Fld.laneSupvAct < 4 ∧ m.r (Page.lane t s) Fld.laneSupvProbe < 2 ∧ m.r (Page.lane t s) Fld.laneSupvFclr =
      1) ∧
    (∃ (fn t s : Nat) (m : State), m.hostAt fn (Page.lane t s) = true ∧ m.follower t s = false ∧ m.locked t s = false ∧ m.r
      (Page.lane t s) Fld.laneSupvAct < 4 ∧ m.r (Page.lane t s) Fld.laneSupvProbe < 2 ∧ m.r (Page.lane t s) Fld.laneSupvFclr ≠
      1 ∧ (m.lane t s).foldShort = true) ∧
    (∃ (t s : Nat) (m : State), m.laneOn t s = true ∧ m.openCheck t s = true ∧ (m.lane t s).rangeS = none) ∧
    (∃ (t s e : Nat) (on off restOn restOff : List Int) (m : State), m.laneOn t s = true ∧ m.openCheck t s = true ∧ (m.lane t
      s).evalAt = some e ∧ (m.lane t s).mOn = some on ∧ (m.lane t s).mOff = some off ∧ restOn.length = 8 ∧ restOff.length = 8
      ∧ (sumEight off restOff).natAbs ≤ 8 * 50000 ∧ sumEight on restOn - sumEight off restOff ≤ 8 * 50000) ∧
    (∃ (t s e code : Nat) (on off restOn restOff : List Int) (m : State), m.laneOn t s = true ∧ m.openCheck t s = true ∧
      (m.lane t s).evalAt = some e ∧ (m.lane t s).mOn = some on ∧ (m.lane t s).mOff = some off ∧ restOn.length = 8 ∧
      restOff.length = 8 ∧ (code = 3 ∧ 8 * 50000 < (sumEight off restOff).natAbs ∧ 2 ≤ (m.lane t s).foCnt ∨ code = 4 ∧
      (sumEight off restOff).natAbs ≤ 8 * 50000 ∧ 8 * 50000 < sumEight on restOn - sumEight off restOff ∧ 2 ≤ (m.lane t
      s).soCnt) ∧ (m.lane t s).foDecl = false ∧ (m.lane t s).probeStopped = false ∧ (m.subst t).xfer = none ∧ s < 9 ∧ (∀ (k :
      Nat), k ∈ m.together t s → m.calHold t k = false) ∧ m.l (Page.lane t s) Fld.laneSupvAct = 0) :=
  ⟨⟨15, 8, 0, mUp.setLane 15 8 { shortSince := some 0, adcLast := some 3999950 }, by decide +kernel⟩,
   ⟨15, 9, mUp.setLane 15 9 { foldShort := true, exitSince := some 0, adcLast := some 799950 }, by decide +kernel⟩,
   ⟨0, 15, 9, (mUp.setLane 15 9 { foldShort := true }).ws (.lane 15 9) [(.laneSupvAct, 3), (.laneSupvProbe, 1),
     (.laneSupvFclr, 1)], by decide +kernel⟩,
   ⟨0, 15, 9, (mUp.setLane 15 9 { foldShort := true }).ws (.lane 15 9) [(.laneSupvAct, 3), (.laneSupvProbe, 1)],
     by decide +kernel⟩,
   ⟨0, 0, lv (lsw 4) (.lane 0 0) [(.laneForceMode, 1), (.laneSupvProbe, 1)], by decide +kernel⟩,
   ⟨0, 0, 5, [], [50000,50000,50000,50000,50000,50000,50000,50000], [100000,100000,100000,100000,100000,100000,100000,100000],
     [9,9,9,9,9,9,9,9], lv ((lsw 4).setLane 0 0
     { evalAt := some 5, mOn := some [], mOff := some [50000,50000,50000,50000,50000,50000,50000,50000] }) (.lane 0 0)
     [(.laneForceMode, 1), (.laneSupvProbe, 1)], by decide +kernel⟩,
   ⟨0, 0, 5, 3, [], [-50001], [0,0,0,0,0,0,0,0], [-50000,-50000,-50000,-50000,-50000,-50000,-50000,0], lv ((lsw 4).setLane 0 0
     { evalAt := some 5, mOn := some [], mOff := some [-50001], foCnt := 2 }) (.lane 0 0) [(.laneForceMode, 1),
     (.laneSupvProbe, 1)], by decide +kernel⟩⟩

theorem witness_FramesRecordsAndCommits :
    (∃ (t : Nat) (m : State), m.tileOn t = true ∧ m.sound = true ∧ m.r (Page.acq t) Fld.acqSrc = 0 ∧ m.r (Page.acq t)
      Fld.acqTrigSrc ≠ 2 ∧ m.samplesTo t ((m.acq t).frameT + m.acqPeriod t) = true ∧ (m.r (Page.acq t) Fld.acqState = 2 ∨ m.r
      (Page.acq t) Fld.acqState = 3) ∧ (m.acq t).cap = none) ∧
    (∃ (t : Nat) (m : State) (drained : Nat) (c : Rec), m.tileOn t = true ∧ m.sound = true ∧ m.r (Page.acq t) Fld.acqSrc = 0 ∧
      m.r (Page.acq t) Fld.acqTrigSrc ≠ 2 ∧ m.samplesTo t ((m.acq t).frameT + m.acqPeriod t) = true ∧ m.r (Page.acq t)
      Fld.acqState = 4 ∧ (m.acq t).cap = some c ∧ c.opened = true ∧ c.seen < m.acqLen t - m.acqPreN t ∧ c.trig ≤ (m.acq
      t).frameT ∧ c.overflow = false ∧ c.rr = 0 ∧ c.factor = 0 ∧ c.group = [] ∧ ((m.acq t).carried (min drained (min (m.acq
      t).owed (min (5 * ((m.acq t).frameT + m.acqPeriod t - (m.acq t).servAt) / 2) ((m.due ((m.acq t).frameT + m.acqPeriod
      t)).arcRoom (m.home t)))))).fill + m.acqFb t ≤ 393216) ∧
    (∃ (t : Nat) (m : State) (c : Rec), m.tileOn t = true ∧ m.sound = true ∧ (m.acq t).cap = some c ∧ m.r (Page.acq t)
      Fld.acqState = 4 ∧ c.opened = true ∧ c.seen = m.acqLen t - m.acqPreN t) ∧
    (∃ (t : Nat) (m : State), m.tileOn t = true ∧ m.sound = true ∧ m.r (Page.acq t) Fld.acqState = 5) ∧
    (∃ (t : Nat) (m : State) (c : Rec) (z : Nat), m.tileOn t = true ∧ m.sound = true ∧ (m.acq t).cap = some c ∧ m.r (Page.acq
      t) Fld.acqState = 4 ∧ m.r (Page.acq t) Fld.acqSrc = 0 ∧ m.nextGranule t c = some z) ∧
    (∃ (t : Nat) (m : State) (c : Rec), m.tileOn t = true ∧ m.sound = true ∧ (m.acq t).cap = some c ∧ m.r (Page.acq t)
      Fld.acqState = 4 ∧ m.r (Page.acq t) Fld.acqSrc = 0 ∧ m.nextGranule t c = none) ∧
    (∃ (t : Nat) (m : State) (c : WaitRec) (rest : List WaitRec), m.tileOn t = true ∧ m.sound = true ∧ (m.acq t).waiting = c
      :: rest ∧ m.archOn = true ∧ m.arcRoom (m.home t) < c.out.total) ∧
    (∃ (t : Nat) (m : State) (c : WaitRec) (rest : List WaitRec), m.tileOn t = true ∧ m.sound = true ∧ (m.acq t).waiting = c
      :: rest ∧ m.archOn = true ∧ m.latent = [] ∧ c.header.length = 64 ∧ c.old = false ∧ c.out.total ≤ m.arcRoom (m.home t))
      :=
  ⟨⟨0, (acqSet.w (.acq 0) .acqState 3).setLane 0 0 { adcLast := some 50 }, by decide +kernel⟩,
   ⟨0, ((acqSet.w (.acq 0) .acqState 4).setLane 0 0 { adcLast := some 50 }).setAcq 0
     { cap := some { opened := true, seen := 63 } }, 10, { opened := true, seen := 63 }, by decide +kernel⟩,
   ⟨0, (acqSet.w (.acq 0) .acqState 4).setAcq 0 { cap := some { opened := true, seen := 64 } },
     { opened := true, seen := 64 }, by decide +kernel⟩,
   ⟨0, acqSet.w (.acq 0) .acqState 5, by decide +kernel⟩,
   ⟨0, (acqSet.ws (.acq 0) [(.acqState, 4), (.acqRrMax, 1)]).setAcq 0 { cap := some { trig := 1 }, thr := 1 }, { trig := 1 },
     50, by decide +kernel⟩,
   ⟨0, (acqSet.w (.acq 0) .acqState 4).setAcq 0 { cap := some {} }, {}, by decide +kernel⟩,
   ⟨0, noArc (acqSet.setAcq 0 { waiting := [⟨0, List.replicate 64 7, [1], false, false, { head := 64 }⟩] }), ⟨0,
     List.replicate 64 7, [1], false, false, { head := 64 }⟩, [], by decide +kernel⟩,
   ⟨0, acqSet.setAcq 0 { waiting := [⟨0, List.replicate 64 7, [1], true, false, { buf := 1, head := 64 }⟩] }, ⟨0,
     List.replicate 64 7, [1], true, false, { buf := 1, head := 64 }⟩, [], by decide +kernel⟩⟩

theorem witness_GangAndBoosterWrites :
    (∃ (fn t : Nat) (w : Word) (m : State) (g : Nat), m.hostAt fn (Page.tile t) = true ∧ g < 4 ∧ m.gangOk t g w = true) ∧
    (∃ (fn t : Nat) (w : Word) (m : State) (g : Nat), m.hostAt fn (Page.tile t) = true ∧ g < 4 ∧ m.gangOk t g w = false) ∧
    (∃ (fn t : Nat) (w : Word) (m : State), m.hostAt fn (Page.tile t) = true ∧ m.hasBoost = true ∧ m.boostOk t w = true) ∧
    (∃ (fn t : Nat) (w : Word) (m : State), m.hostAt fn (Page.tile t) = true ∧ m.hasBoost = true ∧ m.boostOk t w = false) :=
  ⟨⟨0, 15, 0, mUp, 3, by decide +kernel⟩,
   ⟨0, 15, 1, mUp, 3, by decide +kernel⟩,
   ⟨0, 15, 0, mUp, by decide +kernel⟩,
   ⟨0, 15, 0xFFFFFFFF, mUp, by decide +kernel⟩⟩

theorem witness_GrantDispatchAndPrefetch :
    (∃ (t id : Nat) (q : LockReq) (rest : List LockReq) (m : State), m.locks = q :: rest ∧ q.tile = t ∧ q.who = Owner.ctx id ∧
      m.grantable 0 q = true ∧ m.grantOk id = true) ∧
    (∃ (t id k : Nat) (m : State), m.tileOn t = true ∧ m.nextReady t = some id ∧ m.idleEngine t = some k) ∧
    (∃ (id : Nat) (m : State) (ws : List Word), (m.ctx id).st = CtxSt.running ∧ (m.ctx id).engine ≠ none ∧ (m.ctx id).fetchIdx
      < (m.ctx id).par.llen ∧ (m.ctx id).par.archive = false ∧ (m.fn (m.ctx id).fn).bme = true ∧ (m.fn (m.ctx id).fn).d3 =
      false ∧ ws.length = 8 * min 32 ((m.ctx id).par.llen - (m.ctx id).fetchIdx)) ∧
    (∃ (id : Nat) (m : State), (m.ctx id).st = CtxSt.running ∧ (m.ctx id).engine ≠ none ∧ (m.ctx id).fetchIdx < (m.ctx
      id).par.llen ∧ (m.ctx id).par.archive = false ∧ (m.fn (m.ctx id).fn).bme = true ∧ (m.fn (m.ctx id).fn).d3 = false ∧
      m.runEnd id (min m.pace (m.lane (m.ctx id).tile (m.ctx id).slot).sampledTo) = none) :=
  ⟨⟨0, 0, ⟨.ctx 0, 0, [0], 3⟩, [], { ctxIn .lockWait with locks := [⟨.ctx 0, 0, [0], 3⟩] }, by decide +kernel⟩,
   ⟨0, 0, 0, ctxIn .ready, by decide +kernel⟩,
   ⟨0, ((run []).modCtx 0 fun c => { c with par := { c.par with llen := 1 } }).setFn 0 { bme := true }, [0,0,0,0,0,0,0,0],
     by decide +kernel⟩,
   ⟨0, ((run []).modCtx 0 fun c => { c with par := { c.par with llen := 1 } }).setFn 0 { bme := true }, by decide +kernel⟩⟩

theorem witness_IdleStepAndReset :
    (∃ (m : State), m.pending = [] ∧ (m.held = [] ∨ m.linkStalled = true)) ∧
    (∃ (m : State) (c : Instr) (l : List Instr), m.pending = [] ∧ m.held = c :: l ∧ m.linkStalled = false) ∧
    (∃ (n : Nat), 0 < n) ∧
    (∃ (p : Page) (f : Fld), (¬(p = Page.pwr ∧ f = Fld.pwrDomStat))) :=
  ⟨⟨mUp, by decide +kernel⟩,
   ⟨{ mUp with held := [.perstRelease] }, .perstRelease, [], by decide +kernel⟩,
   ⟨1, by decide +kernel⟩,
   ⟨.dev, .devStatReady, by decide +kernel⟩⟩

theorem witness_InterpolationAndAutoRecalibration :
    (∃ (t : Nat) (m : State) (s k : Nat), m.tileOn t = true ∧ s < 10 ∧ m.validSets t s = [k] ∧ (m.tile t).temps = []) ∧
    (∃ (t : Nat) (m : State), m.tileOn t = true ∧ (m.tile t).autoRun = false ∧ (m.tile t).autoRetryAt ≠ 0) ∧
    (∃ (t : Nat) (m : State), m.tileOn t = true ∧ (m.tile t).autoRun = false ∧ (m.tile t).autoRetryAt = 0 ∧ m.r Page.cat
      Fld.catAutoEn = 1 ∧ m.autoDrift t = false) ∧
    (∃ (t : Nat) (m : State), m.tileOn t = true ∧ (m.tile t).autoRun = false ∧ (m.tile t).autoRetryAt = 0 ∧ m.r Page.cat
      Fld.catAutoEn = 1 ∧ m.autoDrift t = true) ∧
    (∃ (t : Nat) (m : State), m.tileOn t = true ∧ (m.tile t).autoRun = false ∧ (m.tile t).autoRetryAt = 0 ∧ m.r Page.cat
      Fld.catAutoEn ≠ 1) ∧
    (∃ (t : Nat) (m : State) (refv : Nat) (ref1 ref2 : Int) (l1 l2 : List Nat), m.tileOn t = true ∧ (m.tile t).autoRun = true
      ∧ (m.tile t).autoSwapAt = none ∧ (m.tile t).svcUp = false ∧ apart (lineErrs 1048576 l1) (lineErrs 1048576 l2) ≤ 800 ∧
      (refvNear refv (m.tile t).autoRefv = false ∨ (ref1 - ref2).natAbs ≤ 200)) ∧
    (∃ (t : Nat) (m : State) (refv : Nat) (ref1 ref2 : Int) (l1 l2 : List Nat), m.tileOn t = true ∧ (m.tile t).autoRun = true
      ∧ (m.tile t).autoSwapAt = none ∧ (m.tile t).svcUp = false ∧ (800 < apart (lineErrs 1048576 l1) (lineErrs 1048576 l2) ∨
      refvNear refv (m.tile t).autoRefv = true ∧ 200 < (ref1 - ref2).natAbs)) ∧
    (∃ (t : Nat) (m : State) (e : Nat), m.tileOn t = true ∧ (m.tile t).autoSwapAt = some e ∧ (m.tile t).autoRef = none ∧
      (m.tile t).svcUp = false ∧ m.cals = []) ∧
    (∃ (t : Nat) (m : State) (e : Nat) (ref : Int), m.tileOn t = true ∧ (m.tile t).autoSwapAt = some e ∧ (m.tile t).autoRef =
      some ref ∧ (m.tile t).svcUp = false ∧ m.cals = []) :=
  ⟨⟨0, { mUp with catalogue := { entries := [(79, { valid := true })] } }, 9, 7, by decide +kernel⟩,
   ⟨0, mUp.setTile 0 { autoRetryAt := 5 }, by decide +kernel⟩,
   ⟨0, mUp.w .cat .catAutoEn 1, by decide +kernel⟩,
   ⟨0, (mUp.setTile 0 { temps := [500] }).w .cat .catAutoEn 1, by decide +kernel⟩,
   ⟨0, mUp.w .cat .catAutoEn 0, by decide +kernel⟩,
   ⟨0, mUp.setTile 0 { autoRun := true }, 5000000, 0, 200, [], [], by decide +kernel⟩,
   ⟨0, mUp.setTile 0 { autoRun := true, autoRetry := 2 }, 5000000, 0, 0, [1048576, 0], [], by decide +kernel⟩,
   ⟨0, mUp.setTile 0 { autoRun := true, autoSwapAt := some 9 }, 9, by decide +kernel⟩,
   ⟨0, mUp.setTile 0 { autoSwapAt := some 9, autoRef := some 5 }, 9, 5, by decide +kernel⟩⟩

theorem witness_JumpRequestsStandPending :
    (∃ (fn t target : Nat) (m : State), m.hostAt fn (Page.seq t) = true ∧ m.r (Page.seq t) Fld.seqState = 4 ∧ target % 4096 ≤
      m.seqLastSeg t ∧ ((m.segOf t (target % 4096)).resident = true ∨ m.landing t (target % 4096) = true)) ∧
    (∃ (fn t target : Nat) (m : State), m.hostAt fn (Page.seq t) = true ∧ m.r (Page.seq t) Fld.seqState = 4 ∧ (m.seqLastSeg t
      < target % 4096 ∨ (m.segOf t (target % 4096)).resident = false ∧ m.landing t (target % 4096) = false)) ∧
    (∃ (fn t : Nat) (m : State), m.hostAt fn (Page.seq t) = true ∧ m.r (Page.seq t) Fld.seqState ≠ 4) ∧
    (∃ (t : Nat) (m : State) (j : Nat), m.tileOn t = true ∧ j < 4 ∧ tabGet 0 (m.tile t).deliv (20 + j) ≠ m.pace + 1 ∧ m.r
      (Page.seq t) Fld.seqState ≠ 4) ∧
    (∃ (t : Nat) (m : State) (j : Nat), m.tileOn t = true ∧ j < 4 ∧ tabGet 0 (m.tile t).deliv (20 + j) = m.pace + 1) ∧
    (∃ (t : Nat) (m : State) (j : Nat), m.tileOn t = true ∧ j < 4 ∧ tabGet 0 (m.tile t).deliv (20 + j) ≠ m.pace + 1 ∧ m.r
      (Page.seq t) Fld.seqState = 4) :=
  ⟨⟨0, 0, 4096, seqAt 4 11 { started := true, boundary := 100 }, by decide +kernel⟩,
   ⟨0, 0, 4095, seqAt 4 11 { started := true, boundary := 100 }, by decide +kernel⟩,
   ⟨0, 0, seqAt 3 11 {}, by decide +kernel⟩,
   ⟨0, seqAt 5 11 {}, 3, by decide +kernel⟩,
   ⟨0, (seqAt 4 11 { started := true, boundary := 100 }).setTile 0 { deliv := [(23, 1)] }, 3, by decide +kernel⟩,
   ⟨0, seqAt 4 11 { started := true, boundary := 100 }, 3, by decide +kernel⟩⟩

theorem witness_LaneWritesAndReset :
    (∃ (fn t s : Nat) (m : State), m.hostAt fn (Page.lane t s) = true ∧ m.flrShut t s = true) ∧
    (∃ (fn t s : Nat) (w : Word) (m : State) (y : Why), m.hostAt fn (Page.lane t s) = true ∧ m.flrShut t s = false ∧
      m.laneCheck t s 256 w false = some y) ∧
    (∃ (fn t s : Nat) (w : Word) (m : State) (y : Why), m.hostAt fn (Page.lane t s) = true ∧ m.flrShut t s = false ∧
      m.laneCheck t s 308 w false = some y) ∧
    (∃ (fn t s : Nat) (w : Word) (m : State), m.hostAt fn (Page.lane t s) = true ∧ m.flrShut t s = false ∧ m.laneCheck t s 256
      w false = none ∧ Fld.laneForceMode.of w ≠ 0 ∧ m.cur.pfail = none ∧ governor m (m.classWrite fn (Page.lane t s) 256 w) t
      s = none) ∧
    (∃ (fn t s : Nat) (w : Word) (m : State), m.hostAt fn (Page.lane t s) = true ∧ m.flrShut t s = false ∧ m.laneCheck t s 308
      w false = none ∧ m.sw t s ≠ Sw.pin ∧ m.cur.pfail = none ∧ governor m (m.classWrite fn (Page.lane t s) 308 w) t s = none)
      ∧
    (∃ (fn t s : Nat) (m : State), m.hostAt fn (Page.lane t s) = true ∧ m.unit t s = [s] ∧ m.follower t s = false ∧ m.flrShut
      t s = false ∧ m.r (Page.lane t s) Fld.laneRstCmd ≠ 1 ∧ m.unheld t s = true ∧ m.sw t s = Sw.disconnected) :=
  ⟨⟨0, 0, 0, (mUp.w .site (.siteOwn 0 0) 1).setFn 1 { flr := some 5 }, by decide +kernel⟩,
   ⟨0, 0, 0, 0x100000, held0, .locked, by decide +kernel⟩,
   ⟨0, 0, 0, 1, held0, .locked, by decide +kernel⟩,
   ⟨0, 0, 0, 0x100000, lsw 4, by decide +kernel⟩,
   ⟨0, 0, 0, 0, mUp, by decide +kernel⟩,
   ⟨0, 15, 8, mUp, by decide +kernel⟩⟩

theorem witness_LatchTakesStoredFields :
    (∃ (t s : Nat) (m : State), m.laneOn t s = true ∧ m.followsDac t s = true ∧ m.tfold t = false ∧ (m.lane t s).latA <
      m.nextAdc t s ∧ (m.nextDac t s ≤ (m.lane t s).latD ∨ m.nextAdc t s < m.nextDac t s)) ∧
    (∃ (t s : Nat) (m : State), m.laneOn t s = true ∧ m.followsDac t s = true ∧ m.tfold t = false ∧ (m.lane t s).latD <
      m.nextDac t s ∧ (m.nextAdc t s ≤ (m.lane t s).latA ∨ m.nextDac t s < m.nextAdc t s) ∧ m.sw t s = Sw.connected ∧ m.r
      (Page.lane t s) Fld.laneForceVrange = m.l (Page.lane t s) Fld.laneForceVrange ∧ m.r (Page.lane t s) Fld.laneForceIrange
      = m.l (Page.lane t s) Fld.laneForceIrange ∧ m.r (Page.lane t s) Fld.laneForceMode ≠ 4 ∧ m.r (Page.lane t s)
      Fld.lanePersSel = 0 ∧ (m.lane t s).dds = false) :=
  ⟨⟨0, 0, { mUp.setLane 0 0 { latD := 1000 } with pace := 1 }, by decide +kernel⟩,
   ⟨0, 0, { (lsw 4).setLane 0 0 { latA := 1000, dacNext := 5 } with pace := 1 }, by decide +kernel⟩⟩

theorem witness_LateAbortsOnlyCount :
    (∃ (m : State) (fn id : Nat), m.cmdOk fn = true ∧ m.owns fn id = true ∧ (m.ctx id).st = CtxSt.done) ∧
    (∃ (m : State) (fn t : Nat), m.hostAt fn (Page.seq t) = true ∧ m.r (Page.seq t) Fld.seqState = 5) ∧
    (∃ (m : State) (fn t : Nat), m.hostAt fn (Page.acq t) = true ∧ m.r (Page.acq t) Fld.acqState = 6) ∧
    (∃ (m : State) (fn run : Nat) (c : CalRun), m.hostAt fn Page.cur = true ∧ (List.find? (fun c => c.id == run) m.cals = some
      c) ∧ c.ended = true) ∧
    (∃ (m : State) (t : Nat) (x : Xfer), (m.subst t).xfer = some x ∧ 4 ≤ x.stage) ∧
    (∃ (m : State) (fn tag : Nat), m.cmdOk fn = true ∧ (∀ (d : Dma), d ∈ m.dmas → ¬(d.fn = fn ∧ d.tag = tag)) ∧ (m.fn
      fn).dmaEnded.contains tag = true) :=
  ⟨⟨ctxIn .done, 0, 0, by decide +kernel⟩,
   ⟨seqAt 5 11 {}, 0, 0, by decide +kernel⟩,
   ⟨acqSet.w (.acq 0) .acqState 6, 0, 0, by decide +kernel⟩,
   ⟨{ mUp with cals := [{ calR with ended := true }] }, 0, 0, { calR with ended := true }, by decide +kernel⟩,
   ⟨mUp.setSubst 0 { xfer := some { slot := 0, back := false, h0 := 0, stage := 4 } }, 0,
     { slot := 0, back := false, h0 := 0, stage := 4 }, by decide +kernel⟩,
   ⟨mUp.setFn 0 { dmaEnded := [65535] }, 0, 65535, by decide +kernel⟩⟩

theorem witness_MailboxSnapshotAndCommit :
    (∃ (a : Acc) (m : State) (p : Page), accTarget a = Target.reg p 48 ∧ m.hostAt a.fn p = true ∧ m.r p (Fld.mbxBusy a.fn) ≠
      1) ∧
    (∃ (a : Acc) (m : State) (p : Page), accTarget a = Target.reg p 56 ∧ m.hostAt a.fn p = true ∧ m.r p (Fld.mbxBusy a.fn) ≠
      1) ∧
    (∃ (a : Acc) (m : State) (p : Page) (off : Nat), accTarget a = Target.reg p off ∧ m.r p (Fld.mbxBusy a.fn) = 1 ∧ m.r p
      (Fld.mbxOp a.fn) = 0) ∧
    (∃ (a : Acc) (m : State) (p : Page) (off : Nat), accTarget a = Target.reg p off ∧ m.r p (Fld.mbxBusy a.fn) = 1 ∧ m.r p
      (Fld.mbxOp a.fn) = 1 ∧ m.itemHere a.fn p (m.r p (Fld.mbxCmdItem a.fn)) = false) ∧
    (∃ (a : Acc) (m : State) (t s off : Nat), accTarget a = Target.reg (Page.lane t s) off ∧ m.r (Page.lane t s) (Fld.mbxBusy
      a.fn) = 1 ∧ m.r (Page.lane t s) (Fld.mbxOp a.fn) = 1 ∧ m.r (Page.lane t s) (Fld.mbxCmdItem a.fn) = 4355 ∧ m.hasDds =
      true ∧ m.follower t s = false ∧ m.locked t s = false ∧ ddsFreqOk (m.r (Page.lane t s) (Fld.mbxData a.fn 0) + 2 ^ 32 *
      (m.r (Page.lane t s) (Fld.mbxData a.fn 1) % 65536)) (m.r (Page.lane t s) Fld.laneDacDiv) = true) :=
  ⟨⟨⟨0, 0, 0x1030⟩, mUp, .pace, by decide +kernel⟩,
   ⟨⟨0, 0, 0x1038⟩, mUp, .pace, by decide +kernel⟩,
   ⟨⟨0, 0, 0x1030⟩, mUp.ws .pace [(.mbxBusy 0, 1), (.mbxOp 0, 0), (.mbxCmdItem 0, 0x201)], .pace, 0x30, by decide +kernel⟩,
   ⟨⟨0, 0, 0x1030⟩, mUp.ws .pace [(.mbxBusy 0, 1), (.mbxOp 0, 1), (.mbxCmdItem 0, 0xFFFF)], .pace, 0x30, by decide +kernel⟩,
   ⟨⟨0, 0, 0x1010030⟩, mUp.ws (.lane 0 0) [(.mbxBusy 0, 1), (.mbxOp 0, 1), (.mbxCmdItem 0, 4355), (.mbxData 0 0, 2 ^ 30)], 0,
     0, 0x30, by decide +kernel⟩⟩

theorem witness_MicrocodeAndFirmware :
    (∃ (fn off : Nat) (last : Bool) (bs : List Byte) (m : State), m.hostAt fn Page.cur = true ∧ m.sound = true ∧ windowOk off
      bs = true ∧ last = false) ∧
    (∃ (fn off : Nat) (last ok : Bool) (bs : List Byte) (m : State), m.hostAt fn Page.cur = true ∧ m.sound = true ∧ windowOk
      off bs = true ∧ last = true ∧ ok = true) ∧
    (∃ (fn off : Nat) (last ok : Bool) (bs : List Byte) (m : State), m.hostAt fn Page.cur = true ∧ m.sound = true ∧ windowOk
      off bs = true ∧ last = true ∧ ok = false) ∧
    (∃ (fn off : Nat) (bs : List Byte) (m : State), m.hostAt fn Page.cur = true ∧ m.sound = true ∧ windowOk off bs = false) ∧
    (∃ (fn mask ms t : Nat) (m : State), m.hostAt fn Page.cur = true ∧ mask < 65536 ∧ 0 < ms ∧ ms < 65536 ∧ m.cur.applyMask =
      0 ∧ m.cur.staged.isSome = true ∧ mask.testBit t = true ∧ m.tileOn t = true ∧ (m.tile t).goingDown = false ∧ (∀ (u :
      Nat), u < t → ¬(mask.testBit u = true ∧ m.tileOn u = true))) ∧
    (∃ (t v : Nat) (m : State), t < 16 ∧ (m.tile t).draining = true ∧ m.cur.applyMask = 2 ^ t ∧ m.cur.ucApplySt = 4294967295 ∧
      m.cur.staged = some v ∧ m.nv.lastUcode.length = 16 ∧ m.drained t = true) ∧
    (∃ (t v : Nat) (m : State), t < 16 ∧ (m.tile t).draining = true ∧ m.cur.applyMask = 2 ^ t ∧ m.cur.ucApplySt = 4294967295 ∧
      m.cur.staged = some v ∧ m.nv.lastUcode.length = 16 ∧ m.drained t = false) ∧
    (∃ (fn : Nat) (m : State) (v : Nat), m.hostAt fn Page.cur = true ∧ m.cur.staged = some v) ∧
    (∃ (fn : Nat) (m : State), m.hostAt fn Page.cur = true ∧ m.cur.staged = none) ∧
    (∃ (fn off : Nat) (last : Bool) (bs : List Byte) (m : State), m.fwStageAt fn = true ∧ m.sound = true ∧ windowOk off bs =
      true ∧ last = false) ∧
    (∃ (fn off : Nat) (last : Bool) (bs : List Byte) (m : State), m.fwStageAt fn = true ∧ m.sound = true ∧ windowOk off bs =
      true ∧ last = true) ∧
    (∃ (fn off : Nat) (bs : List Byte) (m : State), m.fwStageAt fn = true ∧ m.sound = true ∧ windowOk off bs = false) :=
  ⟨⟨0, 24, false, List.replicate 24 1, mUp, by decide +kernel⟩,
   ⟨0, 24, true, true, List.replicate 24 1, mUp, by decide +kernel⟩,
   ⟨0, 24, true, false, List.replicate 24 1, mUp, by decide +kernel⟩,
   ⟨0, 23, List.replicate 24 1, mUp, by decide +kernel⟩,
   ⟨0, 0x8000, 65535, 15, { mUp with cur := { mUp.cur with staged := some 7 } }, by decide +kernel⟩,
   ⟨15, 7, (List.range 64).foldl (fun m k => m.w (.eng 15 k) .engState 3)
     ({ mUp with cur := { mUp.cur with staged := some 7, applyMask := 0x8000, ucApplySt := 4294967295 } }.setTile 15
     { draining := true, drainEnd := 9, offAt := some 9 }), by decide +kernel⟩,
   ⟨15, 7, { mUp with cur := { mUp.cur with staged := some 7, applyMask := 0x8000, ucApplySt := 4294967295 } }.setTile 15
     { draining := true }, by decide +kernel⟩,
   ⟨0, { mUp with cur := { mUp.cur with staged := some 7 } }, 7, by decide +kernel⟩,
   ⟨0, mUp, by decide +kernel⟩,
   ⟨0, 24, false, List.replicate 24 1, mUp, by decide +kernel⟩,
   ⟨0, 24, true, List.replicate 24 1, mUp, by decide +kernel⟩,
   ⟨0, 24, List.replicate 23 1, mUp, by decide +kernel⟩⟩

theorem witness_NoCommandTouchesQueueOrBuild :
    ∃ (c : Instr) (m m' : State), exec c m = Host.Outcome.next m' :=
  ⟨.perstRelease, mUp, mUp, rfl⟩

theorem witness_PersonalityTransitions :
    (∃ (t s : Nat) (m : State), m.sw t s = Sw.toPin ∧ (m.lane t s).toStep = 0) ∧
    (∃ (t s : Nat) (m : State), m.sw t s = Sw.toPin ∧ (m.lane t s).toStep = 1) ∧
    (∃ (t s : Nat) (m : State), m.sw t s = Sw.toPin ∧ (m.lane t s).toStep = 2 ∧ (m.lane t s).dcPend = none) ∧
    (∃ (t s : Nat) (m : State), m.sw t s = Sw.toSmu ∧ (m.lane t s).toStep = 0) ∧
    (∃ (t s : Nat) (m : State), m.sw t s = Sw.toSmu ∧ (m.lane t s).toStep = 1) ∧
    (∃ (t s : Nat) (m : State), m.sw t s = Sw.toSmu ∧ (m.lane t s).toStep = 2 ∧ (m.lane t s).dcPend = none ∧ m.follower t s =
      false) ∧
    (∃ (t s : Nat) (m : State), m.laneOn t s = true ∧ m.sw t s = Sw.connected ∧ m.follower t s = false ∧ (m.lane t s).owner =
      none ∧ (m.lane t s).dds = true ∧ (m.lane t s).ddsExit = true ∧ 2 ^ 48 ≤ (m.lane t s).ddsAcc + (m.lane t s).ddsFreqL ∧
      m.nextDac t s ≤ (m.lane t s).latD ∧ (m.lane t s).hold = false ∧ (m.lane t s).rngPend = none ∧ (m.lane t s).pulse = none
      ∧ (m.lane t s).step = none) :=
  ⟨⟨0, 0, lsw 6, by decide +kernel⟩,
   ⟨0, 0, (lsw 6).setLane 0 0 { toStep := 1 }, by decide +kernel⟩,
   ⟨0, 0, (lsw 6).setLane 0 0 { toStep := 2 }, by decide +kernel⟩,
   ⟨0, 0, lsw 7, by decide +kernel⟩,
   ⟨0, 0, (lsw 7).setLane 0 0 { toStep := 1 }, by decide +kernel⟩,
   ⟨0, 0, (lsw 7).setLane 0 0 { toStep := 2 }, by decide +kernel⟩,
   ⟨0, 0, (lsw 4).setLane 0 0 { dds := true, ddsExit := true, ddsAcc := 2 ^ 48 - 1, ddsFreqL := 1 }, by decide +kernel⟩⟩

theorem witness_PowerFailureSavesItsRecord :
    (∃ (m : State) (t₀ s₀ : Nat), (m.cur.aon = true ∧ m.cur.pfail = none ∧ s₀ < 10 ∧ m.sw t₀ s₀ = Sw.connected) ∧ (∀ (t :
      Nat), (m.subst t).xfer = none)) ∧
    (∃ (m : State), (m.cur.aon = true ∧ m.cur.pfail = none ∧ m.moduleOpen = true) ∧ (∀ (t : Nat), (m.subst t).xfer = none)) ∧
    (∃ (r : PfRec) (m : State), m.cur.pfail = some r ∧ m.cur.pfSaved = false ∧ r.safe.isSome = true) ∧
    (∃ (m : State), (m.cur.pfail.isSome = true ∨ m.r Page.pwr Fld.pwrDomStat ≤ 1)) :=
  ⟨⟨lsw 4 mUp 15 9, 15, 9, by decide +kernel, fun _ => rfl⟩,
   ⟨mUp, by decide +kernel, fun _ => rfl⟩,
   ⟨{ safe := some 5 }, { mUp with cur := { mUp.cur with pfail := some { safe := some 5 } } }, by decide +kernel⟩,
   ⟨{ mUp with cur := { mUp.cur with pfSaved := true, pfail := some {} } }, by decide +kernel⟩⟩

theorem witness_PulseTrains :
    (∃ (fn t s : Nat) (m : State), m.hostAt fn (Page.lane t s) = true ∧ m.follower t s = false ∧ m.locked t s = false ∧
      m.pulseOk t s = true ∧ m.r (Page.lane t s) Fld.lanePulseCount < 65536) ∧
    (∃ (fn t s : Nat) (q : Pulse) (m : State), m.hostAt fn (Page.lane t s) = true ∧ m.follower t s = false ∧ m.locked t s =
      false ∧ m.r (Page.lane t s) Fld.lanePulseCount < 65536 ∧ (m.lane t s).pulse = some q ∧ m.r (Page.lane t s)
      Fld.lanePulseCmd = 2) ∧
    (∃ (fn t s : Nat) (q : Pulse) (m : State), m.hostAt fn (Page.lane t s) = true ∧ m.follower t s = false ∧ m.locked t s =
      false ∧ m.r (Page.lane t s) Fld.lanePulseCount < 65536 ∧ (m.lane t s).pulse = some q ∧ m.r (Page.lane t s)
      Fld.lanePulseCmd ≠ 2) ∧
    (∃ (t s : Nat) (m : State), m.laneOn t s = true ∧ m.pulseOk t s = true ∧ m.follower t s = false ∧ tabGet 0 (m.tile
      t).deliv s ≠ m.pace + 1) ∧
    (∃ (t s : Nat) (m : State), m.laneOn t s = true ∧ tabGet 0 (m.tile t).deliv s = m.pace + 1) ∧
    (∃ (t s : Nat) (q : Pulse) (m : State), m.laneOn t s = true ∧ (m.lane t s).pulse = some q ∧ q.onTop = false ∧ m.sw t s =
      Sw.connected ∧ q.hop < 15) ∧
    (∃ (t s : Nat) (q : Pulse) (m : State), m.laneOn t s = true ∧ (m.lane t s).pulse = some q ∧ q.onTop = true) ∧
    (∃ (t s z : Nat) (q : PulseMeas) (m : State), m.laneOn t s = true ∧ (m.lane t s).adcLast = some z ∧ (m.lane t s).pm = [q]
      ∧ q.stop ≤ z + 50 ∧ q.v.n ≠ 0) :=
  ⟨⟨0, 0, 0, lv (lsw 4) (.lane 0 0) [(.laneForceMode, 1), (.lanePulseCount, 65535)], by decide +kernel⟩,
   ⟨0, 0, 0, { onTop := true }, ((lsw 4).setLane 0 0 { pulse := some { onTop := true } }).w (.lane 0 0) .lanePulseCmd 2,
     by decide +kernel⟩,
   ⟨0, 0, 0, { onTop := true }, (lsw 4).setLane 0 0 { pulse := some { onTop := true } }, by decide +kernel⟩,
   ⟨0, 0, lv (lsw 4) (.lane 0 0) [(.laneForceMode, 2)], by decide +kernel⟩,
   ⟨0, 0, (lv (lsw 4) (.lane 0 0) [(.laneForceMode, 1)]).setTile 0 { deliv := [(0, 1)] }, by decide +kernel⟩,
   ⟨0, 0, { hop := 14 }, (lsw 4).setLane 0 0 { pulse := some { hop := 14 } }, by decide +kernel⟩,
   ⟨0, 0, { onTop := true }, (lsw 4).setLane 0 0 { pulse := some { onTop := true } }, by decide +kernel⟩,
   ⟨0, 0, 50, { v := { n := 1, sum := 3, fs := 1 } }, (lsw 4).setLane 0 0
     { adcLast := some 50, pm := [{ v := { n := 1, sum := 3, fs := 1 } }] }, by decide +kernel⟩⟩

theorem witness_RangingRailAndSupervisors :
    (∃ (t s z : Nat) (m : State), (m.lane t s).rangeS = some z ∧ (m.lane t s).oldElem = true) ∧
    (∃ (t s z : Nat) (m : State), (m.lane t s).rangeS = some z) ∧
    (∃ (t s : Nat) (m : State), m.laneOn t s = true ∧ 64 ≤ (m.lane t s).railCnt ∧ (m.sw t s = Sw.pin ∨ m.r (Page.lane t s)
      Fld.laneRail ≤ railFloor fun f => if f = Fld.laneForceVrange then m.gov t s f else m.inForce t s f)) ∧
    (∃ (t s : Nat) (m : State), m.laneOn t s = true ∧ 64 ≤ (m.lane t s).railCnt ∧ m.sw t s ≠ Sw.pin ∧ ((railFloor fun f => if
      f = Fld.laneForceVrange then m.gov t s f else m.inForce t s f) < m.r (Page.lane t s) Fld.laneRail) ∧ m.r (Page.lane t s)
      Fld.laneRail < 4) ∧
    (∃ (t s : Nat) (m : State) (z : Nat), m.laneOn t s = true ∧ m.l (Page.lane t s) Fld.laneSupvAct < 2 ∧ (m.lane t
      s).openSince = some z ∧ (m.lane t s).openDone = false ∧ z + 800 * m.l (Page.lane t s) Fld.laneSupvDwell ≤ (m.lane t
      s).sampledTo) ∧
    (∃ (t s : Nat) (m : State), m.laneOn t s = true ∧ m.l (Page.lane t s) Fld.laneSupvAct < 2 ∧ m.l (Page.lane t s)
      Fld.laneSupvClim ≠ 0 ∧ m.r (Page.lane t s) Fld.laneCompl = 1 ∧ (m.lane t s).longDone = false ∧ m.follower t s = false ∧
      (m.lane t s).complSince + 800 * m.l (Page.lane t s) Fld.laneSupvClim + 1 ≤ (m.lane t s).sampledTo) :=
  ⟨⟨0, 0, 0, (lsw 4).setLane 0 0 { rangeS := some 0, oldElem := true }, by decide +kernel⟩,
   ⟨0, 0, 0, (lsw 4).setLane 0 0 { rangeS := some 0 }, by decide +kernel⟩,
   ⟨0, 0, (lsw 8).setLane 0 0 { railCnt := 64 }, by decide +kernel⟩,
   ⟨0, 0, ((lsw 4).setLane 0 0 { railCnt := 64 }).w (.lane 0 0) .laneRail 3, by decide +kernel⟩,
   ⟨0, 0, lv ((lsw 4).setLane 0 0 { openSince := some 0, adcLast := some 800 }) (.lane 0 0) [(.laneSupvDwell, 1),
     (.laneSupvAct, 1)], 0, by decide +kernel⟩,
   ⟨0, 0, (lv ((lsw 4).setLane 0 0 { adcLast := some 850 }) (.lane 0 0) [(.laneSupvClim, 1), (.laneSupvAct, 1)]).w (.lane 0 0)
     .laneCompl 1, by decide +kernel⟩⟩

theorem witness_RatingsAndReversedInput :
    ∃ (mv : Nat), mv ≤ 40000 :=
  ⟨40000, by decide +kernel⟩

theorem witness_ReadinessAndFunctionState :
    (∃ (m : State), m.dom 1 = true ∧ m.r Page.dev Fld.devStatReady = 0 ∧ m.r Page.dev Fld.devStatBootFail = 0 ∧ m.cur.pfail =
      none ∧ m.cur.rst = none) ∧
    (∃ (m : State) (t : Nat), m.dom 1 = true ∧ m.r Page.dev Fld.devStatReady = 0 ∧ m.r Page.dev Fld.devStatBootFail = 0 ∧
      m.cur.pfail = none ∧ m.cur.rst = none ∧ m.tileOn t = true) ∧
    (∃ (m : State), m.cur.pfail = none ∧ m.cur.rst = none) ∧
    (∃ (fn : Nat) (m : State), m.cfgOk fn = true) :=
  ⟨⟨mUp.w .dev .devStatReady 0, by decide +kernel⟩,
   ⟨mUp.w .dev .devStatReady 0, 15, by decide +kernel⟩,
   ⟨mUp, by decide +kernel⟩,
   ⟨16, mUp, by decide +kernel⟩⟩

theorem witness_ReferenceTemperatureAndBudget :
    (∃ (m : State), m.dom 0 = true ∧ m.r Page.pace Fld.paceRefinOk ≠ 0) ∧
    (∃ (m : State), m.dom 0 = true ∧ m.r Page.pace Fld.paceRefinOk = 0) ∧
    (∃ (m : State), m.dom 0 = true ∧ m.cur.refinBack = true) ∧
    (∃ (tiles : List Int) (ctl arc : Int) (m : State), m.dom 1 = true ∧ (∀ (x : Int), x ∈ tiles → x < 1100) ∧ ctl < 1050 ∧ arc
      < 950) ∧
    (∃ (t : Nat) (x : Int) (tiles : List Int) (ctl arc : Int) (m : State), m.dom 1 = true ∧ ctl < 1050 ∧ arc < 950 ∧ m.tileOn
      t = true ∧ (∀ (u : Nat), u < 16 → u = t ∨ m.tileOn u = false) ∧ tiles.getD t 0 = x ∧ 1200 ≤ x ∧ x < 1350 ∧ (m.tile
      t).hot120 = 1 ∧ m.tfold t = false ∧ (m.subst t).xfer = none ∧ (m.tile t).turn = none) ∧
    (∃ (t z : Nat) (m : State), (m.tile t).below110 = some z ∧ m.tileOn t = true ∧ m.tfold t = true) ∧
    (∃ (mv : Nat) (m : State), m.dom 1 = true ∧ mv < 2 ^ Fld.pwrVin.w) :=
  ⟨⟨mUp, by decide +kernel⟩,
   ⟨mUp.w .pace .paceRefinOk 0, by decide +kernel⟩,
   ⟨{ mUp.w .pace .paceRefinOk 0 with cur := { mUp.cur with refinBack := true } }, by decide +kernel⟩,
   ⟨[1099], 1049, 949, mUp, by decide +kernel⟩,
   ⟨0, 1200, [1200], 1049, 949, (mUp.w .pwr .pwrDomStat 31).setTile 0 { hot120 := 1 }, by decide +kernel⟩,
   ⟨15, 3, (mUp.setTile 15 { below110 := some 3 }).w (.tile 15) .tileTfold 1, by decide +kernel⟩,
   ⟨65535, mUp, by decide +kernel⟩⟩

theorem witness_RegisterWritesActByClass :
    (∃ (a : Acc) (m : State) (p : Page) (off : Nat), accTarget a = Target.reg p off ∧ a.off % 4 = 0 ∧ m.hostAt a.fn p = true ∧
      m.absentAt p off = false ∧ plainReg a.fn p off = true) ∧
    (∃ (a : Acc) (m : State) (p : Page) (off : Nat), accTarget a = Target.reg p off ∧ a.off % 4 = 0 ∧ m.hostAt a.fn p = true ∧
      m.absentAt p off = false ∧ p = Page.trk ∧ a.fn ≠ 0 ∧ 452 ≤ off ∧ off ≤ 464) ∧
    (∃ (a : Acc) (w : Word) (m : State) (p : Page) (off : Nat), accTarget a = Target.reg p off ∧ a.off % 4 = 0 ∧ m.hostAt a.fn
      p = true ∧ m.absentAt p off = false ∧ p = Page.cat ∧ (off = 256 ∧ (Fld.catRefv.of w < 4900000 ∨ 5100000 < Fld.catRefv.of
      w) ∨ off = 260 ∧ (Fld.catAutoTdelta.of w < 10 ∨ 200 < Fld.catAutoTdelta.of w))) ∧
    (∃ (a : Acc) (w : Word) (m : State) (p : Page) (off t s : Nat) (y : Why), accTarget a = Target.reg p off ∧ a.off % 4 = 0 ∧
      m.hostAt a.fn p = true ∧ m.absentAt p off = false ∧ p = Page.lane t s ∧ laneStores off = true ∧ m.flrShut t s = false ∧
      m.laneCheck t s off w false = some y) ∧
    (∃ (a : Acc) (w : Word) (m : State) (p : Page) (off t s : Nat), accTarget a = Target.reg p off ∧ a.off % 4 = 0 ∧ m.hostAt
      a.fn p = true ∧ m.absentAt p off = false ∧ p = Page.lane t s ∧ laneStores off = true ∧ m.flrShut t s = false ∧
      m.laneCheck t s off w false = none ∧ m.cur.pfail = none ∧ governor m (m.classWrite a.fn p off w) t s = none) ∧
    (∃ (a : Acc) (m : State) (t word : Nat), accTarget a = Target.segWord t word ∧ a.off % 4 = 0 ∧ m.cfgOpen (Page.seq t) =
      true ∧ m.hostAt a.fn (Page.seq t) = true) ∧
    (∃ (a : Acc) (w : Word) (m : State) (off n : Nat), accTarget a = Target.reg (Page.q a.fn) off ∧ a.off % 4 = 0 ∧ m.hostAt
      a.fn (Page.q a.fn) = true ∧ off = 1048 + 64 * n ∧ n < 16 ∧ m.r (Page.q a.fn) (Fld.rqEn n) = 0 ∧ wbits w 0 1 = 1 ∧ wbits
      w 8 7 < m.r (Page.q a.fn) Fld.qNvec) ∧
    (∃ (a : Acc) (w : Word) (m : State) (off n : Nat), accTarget a = Target.reg (Page.q a.fn) off ∧ a.off % 4 = 0 ∧ m.hostAt
      a.fn (Page.q a.fn) = true ∧ off = 1048 + 64 * n ∧ n < 16 ∧ m.r (Page.q a.fn) (Fld.rqEn n) = 1 ∧ wbits w 0 1 = 0) ∧
    (∃ (a : Acc) (m : State) (off n : Nat), accTarget a = Target.reg (Page.q a.fn) off ∧ a.off % 4 = 0 ∧ m.hostAt a.fn (Page.q
      a.fn) = true ∧ n < 16 ∧ 1024 + 64 * n ≤ off ∧ off < 1088 + 64 * n ∧ m.r (Page.q a.fn) (Fld.rqEn n) = 1 ∧ off % 64 ∈ [0,
      4, 8, 12, 16, 20, 28, 40, 44, 48]) ∧
    (∃ (a : Acc) (w : Word) (m : State) (off n : Nat), accTarget a = Target.reg (Page.q a.fn) off ∧ a.off % 4 = 0 ∧ m.hostAt
      a.fn (Page.q a.fn) = true ∧ off = 512 + 32 * n ∧ n < 8 ∧ m.r (Page.q a.fn) (Fld.cqEn n) = 1 ∧ wbits w 0 1 = 0) ∧
    (∃ (a : Acc) (m : State) (p : Page) (off : Nat), badTarget a = some (p, off) ∧ m.hostAt a.fn p = true ∧ m.absentAt p (off
      / 4 * 4) = true) ∧
    (∃ (a : Acc) (m : State) (p : Page) (off : Nat), badTarget a = some (p, off) ∧ m.hostAt a.fn p = true ∧ m.absentAt p (off
      / 4 * 4) = false) ∧
    (∃ (a : Acc) (m : State), m.linked a.fn = true ∧ m.waits = true) ∧
    (∃ (a : Acc) (m : State), m.linked a.fn = true ∧ m.waits = false ∧ ((m.fn a.fn).d3 = true ∨ (m.fn a.fn).flr.isSome =
      true)) ∧
    (∃ (a : Acc) (m : State), m.linked a.fn = true ∧ m.reach a.fn = true) ∧
    (∃ (a : Acc) (m : State) (p : Page) (off : Nat), m.linked a.fn = true ∧ m.reach a.fn = true ∧ badTarget a = some (p, off)
      ∧ m.present a.fn p = true ∧ m.absentAt p (off / 4 * 4) = false) ∧
    (∃ (a : Acc) (en : Bool) (m : State) (p : Page), (accTarget a = Target.reg p 12 ∧ siteDrops a.fn p 12 = false ∧ m.hostAt
      a.fn p = true ∧ (match p with | Page.lane t s => m.flrShut t s | x => false) = false) ∧ (en = true ∨ ∀ (t : Nat), p ≠
      Page.seq t ∧ p ≠ Page.acq t)) ∧
    (∃ (a : Acc) (m : State) (t : Nat), accTarget a = Target.reg (Page.seq t) 12 ∧ m.hostAt a.fn (Page.seq t) = true ∧
      m.seqLive t = true) ∧
    (∃ (a : Acc) (m : State) (t : Nat), accTarget a = Target.reg (Page.acq t) 12 ∧ m.hostAt a.fn (Page.acq t) = true ∧
      m.acqLive t = true) :=
  ⟨⟨⟨0, 0, 0x2120⟩, mUp, .pwr, 0x120, by decide +kernel⟩,
   ⟨⟨1, 4, 0x51D0⟩, mUp, .trk, 0x1D0, by decide +kernel⟩,
   ⟨⟨0, 0, 0x3100⟩, 4899999, mUp, .cat, 0x100, by decide +kernel⟩,
   ⟨⟨0, 0, 0x1010104⟩, 1, held0, .lane 0 0, 0x104, 0, 0, .locked, by decide +kernel⟩,
   ⟨⟨0, 0, 0x1010118⟩, 0x21, lsw 4, .lane 0 0, 0x118, 0, 0, by decide +kernel⟩,
   ⟨⟨0, 0, 0x1040004⟩, mUp, 0, 1, by decide +kernel⟩,
   ⟨⟨0, 0, 0x77D8⟩, 0x101, mUp.w (.q 0) .qNvec 2, 0x7D8, 15, by decide +kernel⟩,
   ⟨⟨0, 0, 0x77D8⟩, 0, mUp.w (.q 0) (.rqEn 15) 1, 0x7D8, 15, by decide +kernel⟩,
   ⟨⟨0, 0, 0x77F0⟩, mUp.w (.q 0) (.rqEn 15) 1, 0x7F0, 15, by decide +kernel⟩,
   ⟨⟨0, 0, 0x72E0⟩, 0, (mUp.w (.q 0) (.cqEn 7) 1).setCq 0 7 { words := [⟨1, true, false, false⟩] }, 0x2E0, 7,
     by decide +kernel⟩,
   ⟨⟨0, 0, 0x101014D⟩, { mUp with variant := .b }, .lane 0 0, 0x14D, by decide +kernel⟩,
   ⟨⟨0, 0, 0x2121⟩, mUp, .pwr, 0x121, by decide +kernel⟩,
   ⟨⟨16, 0, 0⟩, { mUp with held := [.perstRelease] }, by decide +kernel⟩,
   ⟨⟨16, 0, 0⟩, mUp.setFn 16 { d3 := true }, by decide +kernel⟩,
   ⟨⟨16, 0, 0⟩, mUp, by decide +kernel⟩,
   ⟨⟨0, 0, 0x2121⟩, mUp, .pwr, 0x121, by decide +kernel⟩,
   ⟨⟨0, 0, 0x100C⟩, false, mUp, .pace, by decide +kernel, .inr fun _ => ⟨by simp, by simp⟩⟩,
   ⟨⟨0, 0, 0x102000C⟩, seqAt 4 11 {}, 0, by decide +kernel⟩,
   ⟨⟨0, 0, 0x103000C⟩, (acqSet.w (.acq 0) .acqState 4).setAcq 0 { cap := some {} }, 0, by decide +kernel⟩⟩

theorem witness_ResetsTakePlace :
    (∃ (m : State), m.moduleOpen = true ∧ m.cur.pfail = none ∧ m.cur.rst = none ∧ m.dom 0 = true) ∧
    (∃ (m : State), m.moduleOpen = true ∧ m.cur.pfail = none ∧ m.cur.rst = none ∧ m.hostAt 0 Page.dev = true) ∧
    (∃ (m : State), m.moduleOpen = true ∧ m.cur.pfail = none ∧ m.cur.rst = none ∧ m.cur.linkUp = true) ∧
    (∃ (m : State), m.moduleOpen = true ∧ m.cur.pfail = none ∧ m.cur.rst = none ∧ m.dom 1 = true ∧ m.r Page.dev
      Fld.devStatBootFail = 0 ∧ ((if m.nv.fwRun = 0 then m.nv.fwA else m.nv.fwB) ≠ 1)) ∧
    (∃ (m : State) (mv : Nat), 5800 ≤ mv ∧ mv ≤ 44000 ∧ m.r Page.pwr Fld.pwrDomStat ≤ 1 ∧ m.cur.pfail = none) ∧
    (∃ (m : State), m.cur.pfail.isSome = true ∧ m.cur.pfSaved = true ∧ m.cur.coreHot = false) ∧
    (∃ (m : State), m.cur.pfail.isSome = true ∧ m.cur.pfSaved = true ∧ m.cur.coreHot = true ∧ m.dom 0 = true) :=
  ⟨⟨mUp, by decide +kernel⟩,
   ⟨mUp, by decide +kernel⟩,
   ⟨mUp, by decide +kernel⟩,
   ⟨mUp, by decide +kernel⟩,
   ⟨State.reset, 44000, by decide +kernel⟩,
   ⟨{ State.reset with cur := { pfail := some {}, pfSaved := true } }, by decide +kernel⟩,
   ⟨{ State.reset with cur := { pfail := some {}, pfSaved := true, coreHot := true } }, by decide +kernel⟩⟩

theorem witness_ResetsWaitForLanes :
    ∃ (m : State) (c : Instr) (cold : Bool) (cause t₀ s₀ : Nat) (st : Straps) (a b : Bool), ((c = Instr.perst st a b ∧ cold =
      true ∧ cause = 1 ∧ m.dom 0 = true ∨ c = Instr.warm 0 ∧ cold = false ∧ cause = 3 ∧ m.hostAt 0 Page.dev = true ∨ c =
      Instr.hotReset ∧ cold = false ∧ cause = 6 ∧ m.cur.linkUp = true ∨ c = Instr.watchdog ∧ cold = false ∧ ((if m.nv.fwRun =
      0 then m.nv.fwA = 1 else m.nv.fwB = 1) ∧ cause = 5 ∨ (¬if m.nv.fwRun = 0 then m.nv.fwA = 1 else m.nv.fwB = 1) ∧ cause =
      4) ∧ m.dom 1 = true ∧ m.r Page.dev Fld.devStatBootFail = 0) ∧ m.cur.pfail = none ∧ m.cur.rst = none ∧ s₀ < 10 ∧ m.sw t₀
      s₀ = Sw.connected) ∧ (∀ (t : Nat), (m.subst t).xfer = none) :=
  ⟨lsw 4 mUp 15 9, .warm 0, false, 3, 15, 9, ⟨0, 0, false⟩, false, false, by decide +kernel, fun _ => rfl⟩

theorem witness_ResultRings :
    (∃ (fn r : Nat) (m : State) (id key : Nat) (x : Packet) (l : List (Nat × Packet)), m.sound = true ∧ fn < 17 ∧ r < 16 ∧
      m.cmdOk fn = true ∧ m.dmaRuns fn = true ∧ m.r (Page.q fn) (Fld.rqEn r) ≠ 0 ∧ m.ringUsed fn r + 4 ≤ 8192 ∧ m.r (Page.q
      fn) (Fld.rqWbEn r) = 0 ∧ m.r (Page.q fn) (Fld.rqTail r) % 8192 + 4 ≤ 8192 ∧ (m.pair (Page.q fn) (Fld.rqBaseLo r)
      (Fld.rqBaseHi r) + m.r (Page.q fn) (Fld.rqTail r) % 8192 * 8 + 32 ≤ m.pair (Page.q fn) (Fld.rqTbaseLo r) (Fld.rqTbaseHi
      r) + m.r (Page.q fn) (Fld.rqTail r) % 8192 ∨ m.pair (Page.q fn) (Fld.rqTbaseLo r) (Fld.rqTbaseHi r) + m.r (Page.q fn)
      (Fld.rqTail r) % 8192 + 4 ≤ m.pair (Page.q fn) (Fld.rqBaseLo r) (Fld.rqBaseHi r) + m.r (Page.q fn) (Fld.rqTail r) % 8192
      * 8) ∧ (m.ctx id).fn = fn ∧ (m.ctx id).par.rq = r ∧ (m.ctx id).pkts = (key, x) :: l ∧ (∀ (y : Nat × Ctx), y ∈ m.ctxs →
      y.fst ≠ id → ∀ (z : Nat × Packet), z ∈ y.snd.owed → z.fst ≠ key) ∧ (∀ (y : Nat × Ctx), y ∈ m.ctxs → ∀ (z : Nat ×
      Packet), z ∈ y.snd.owed → z.fst ≠ key) ∧ (∀ (y : Nat × ResQ), y ∈ m.rqs → ∀ (z : Nat × Packet), z ∈ y.snd.owed → z.fst ≠
      key)) ∧
    (∃ (fn r : Nat) (m : State) (id key : Nat) (x : Packet) (l : List (Nat × Packet)) (y : Packet) (o : List (Nat × Packet)),
      m.sound = true ∧ fn < 17 ∧ r < 16 ∧ m.cmdOk fn = true ∧ m.dmaRuns fn = true ∧ m.r (Page.q fn) (Fld.rqEn r) ≠ 0 ∧
      m.ringUsed fn r + 4 ≤ 8192 ∧ m.r (Page.q fn) (Fld.rqWbEn r) = 0 ∧ m.r (Page.q fn) (Fld.rqTail r) % 8192 + 4 ≤ 8192 ∧
      (m.pair (Page.q fn) (Fld.rqBaseLo r) (Fld.rqBaseHi r) + m.r (Page.q fn) (Fld.rqTail r) % 8192 * 8 + 32 ≤ m.pair (Page.q
      fn) (Fld.rqTbaseLo r) (Fld.rqTbaseHi r) + m.r (Page.q fn) (Fld.rqTail r) % 8192 ∨ m.pair (Page.q fn) (Fld.rqTbaseLo r)
      (Fld.rqTbaseHi r) + m.r (Page.q fn) (Fld.rqTail r) % 8192 + 4 ≤ m.pair (Page.q fn) (Fld.rqBaseLo r) (Fld.rqBaseHi r) +
      m.r (Page.q fn) (Fld.rqTail r) % 8192 * 8) ∧ (m.ctx id).fn = fn ∧ (m.ctx id).par.rq = r ∧ (m.ctx id).pkts = (key, x) ::
      l ∧ (∀ (y : Nat × Ctx), y ∈ m.ctxs → y.fst ≠ id → ∀ (z : Nat × Packet), z ∈ y.snd.owed → z.fst ≠ key) ∧ (m.ctx id).owed
      = (key, y) :: o) ∧
    (∃ (fn r : Nat) (m : State) (q : Nat) (x : Packet) (l : List (Nat × Packet)), m.sound = true ∧ fn < 17 ∧ r < 16 ∧ m.cmdOk
      fn = true ∧ m.dmaRuns fn = true ∧ m.r (Page.q fn) (Fld.rqEn r) ≠ 0 ∧ m.ringUsed fn r + 4 ≤ 8192 ∧ m.r (Page.q fn)
      (Fld.rqWbEn r) = 0 ∧ m.r (Page.q fn) (Fld.rqTail r) % 8192 + 4 ≤ 8192 ∧ (m.pair (Page.q fn) (Fld.rqBaseLo r)
      (Fld.rqBaseHi r) + m.r (Page.q fn) (Fld.rqTail r) % 8192 * 8 + 32 ≤ m.pair (Page.q fn) (Fld.rqTbaseLo r) (Fld.rqTbaseHi
      r) + m.r (Page.q fn) (Fld.rqTail r) % 8192 ∨ m.pair (Page.q fn) (Fld.rqTbaseLo r) (Fld.rqTbaseHi r) + m.r (Page.q fn)
      (Fld.rqTail r) % 8192 + 4 ≤ m.pair (Page.q fn) (Fld.rqBaseLo r) (Fld.rqBaseHi r) + m.r (Page.q fn) (Fld.rqTail r) % 8192
      * 8) ∧ q < 8 ∧ (m.rq fn r).waiting = [] ∧ (m.cq fn q).blocked = (r, x) :: l ∧ (∀ (k : Nat), k < 8 → k ≠ q → (m.cq fn
      k).blocked = [])) ∧
    (∃ (fn r v : Nat) (m : State), m.winOk fn = true ∧ r < 16 ∧ m.r (Page.q fn) (Fld.rqEn r) ≠ 0 ∧ v < 2 ^ 32 ∧ (v + 2 ^ 32 -
      m.r (Page.q fn) (Fld.rqHead r)) % 2 ^ 32 ≤ m.ringUsed fn r) ∧
    (∃ (fn r v : Nat) (m : State), m.winOk fn = true ∧ r < 16 ∧ m.r (Page.q fn) (Fld.rqEn r) ≠ 0 ∧ v < 2 ^ 32 ∧ m.ringUsed fn
      r < (v + 2 ^ 32 - m.r (Page.q fn) (Fld.rqHead r)) % 2 ^ 32) ∧
    (∃ (fn r : Nat) (m : State), fn < 17 ∧ r < 16 ∧ (m.rq fn r).unsig ≠ 0 ∧ m.r (Page.q fn) (Fld.rqModUs r) ≠ 0) ∧
    (∃ (a : Acc) (v : Nat) (m : State), m.winOk a.fn = true ∧ accTarget a = Target.msixEnt v 3 ∧ a.off % 4 = 0 ∧ v < m.r
      (Page.q a.fn) Fld.qNvec ∧ (m.msi a.fn).en = true ∧ (m.fn a.fn).bme = true ∧ (m.msi a.fn).pba = [v]) :=
  ⟨⟨16, 15, (ringOn 16 15).setCtx 0
    { fn := 16, par := ⟨0, false, 0, 1, 0, 0, 15, false, 15, 15⟩, pkts := [(0, [1,2,3,4,5,6,7,8])] }, 0, 0, [1,2,3,4,5,6,7,8],
    [], by decide +kernel⟩,
   ⟨16, 15, (ringOn 16 15).setCtx 0
     { fn := 16, par := ⟨0, false, 0, 1, 0, 0, 15, false, 15, 15⟩, pkts := [(0, [1,2,3,4,5,6,7,8])], owed := [(0, [9])] }, 0,
     0, [1,2,3,4,5,6,7,8], [], [9], [], by decide +kernel⟩,
   ⟨16, 15, (ringOn 16 15).setCq 16 7 { blocked := [(15, [1,2,3,4,5,6,7,8])] }, 7, [1,2,3,4,5,6,7,8], [], by decide +kernel⟩,
   ⟨16, 15, 4, (ringOn 16 15).w (.q 16) (.rqTail 15) 4, by decide +kernel⟩,
   ⟨16, 15, 5, (ringOn 16 15).w (.q 16) (.rqTail 15) 4, by decide +kernel⟩,
   ⟨16, 15, ((ringOn 16 15).setRq 16 15 { unsig := 1 }).w (.q 16) (.rqModUs 15) 1, by decide +kernel⟩,
   ⟨⟨0, 4, 0x2007FC⟩, 127, { mUp.w (.q 0) .qNvec 128 with msix := [(0, { en := true, pba := [127] })] }.setFn 0
     { bme := true }, by decide +kernel⟩⟩

theorem witness_ResultsAreReadAndRunsComplete :
    (∃ (id : Nat) (m : State) (r : StepResult) (rest : List StepResult), (m.ctx id).st = CtxSt.running ∧ m.repsLeft id = false
      ∧ (m.lane (m.ctx id).tile (m.ctx id).slot).latch = r :: rest ∧ (m.ctx id).packed = [] ∧ r.step.cfg.pack = false ∧
      r.step.cfg.res = true ∧ m.engStalled ((m.ctx id).engKey id) = false ∧ r.step.cfg.chk = false ∧ (m.ctx id).engine ≠ none
      ∧ m.engHeld ((m.ctx id).engKey id) = 2) ∧
    (∃ (id : Nat) (m : State) (r : StepResult) (rest : List StepResult), (m.ctx id).st = CtxSt.running ∧ m.repsLeft id = false
      ∧ (m.lane (m.ctx id).tile (m.ctx id).slot).latch = r :: rest ∧ (m.ctx id).packed = [] ∧ r.step.cfg.pack = false ∧
      r.step.cfg.res = true ∧ m.engStalled ((m.ctx id).engKey id) = false ∧ m.engHeld ((m.ctx id).engKey id) ≤ 1 ∧
      r.step.cfg.chk = false) ∧
    (∃ (id : Nat) (m : State) (r : StepResult) (rest : List StepResult) (l : Limits), (m.ctx id).st = CtxSt.running ∧
      m.repsLeft id = false ∧ (m.lane (m.ctx id).tile (m.ctx id).slot).latch = r :: rest ∧ (m.ctx id).packed = [] ∧
      r.step.cfg.pack = false ∧ r.step.cfg.res = true ∧ m.engStalled ((m.ctx id).engKey id) = false ∧ m.engHeld ((m.ctx
      id).engKey id) ≤ 1 ∧ (m.ctx id).limitOf r.step.cfg = some l ∧ r.step.cfg.chk = true ∧ r.step.cfg.qty ≠ 3 ∧ l.word = 0 ∧
      l.action = 0 ∧ r.r0.testBit 24 = false ∧ r.r0.testBit 25 = false ∧ r.r0.testBit 26 = false ∧ r.r0.testBit 27 = false ∧
      sext 24 r.r0 < l.lo) ∧
    (∃ (id : Nat) (m : State) (x : Int), (m.ctx id).st = CtxSt.running ∧ m.repsLeft id = false ∧ (m.ctx id).final = some (0,
      x) ∧ (m.ctx id).limitStop = false ∧ (m.ctx id).gen = none ∧ (m.lane (m.ctx id).tile (m.ctx id).slot).dacQ = [] ∧ (m.lane
      (m.ctx id).tile (m.ctx id).slot).step = none ∧ (m.lane (m.ctx id).tile (m.ctx id).slot).latch = [] ∧ (m.ctx id).owed =
      [] ∧ m.engHeld ((m.ctx id).engKey id) + bit ((m.ctx id).packed != []) < 2) :=
  ⟨⟨0, ((run []).modLane 0 0 fun d => { d with latch := [{ step := { cfg := { res := true } } }] }).modCtx 0 fun c =>
    { c with pkts := [(0, []), (0, [])] }, { step := { cfg := { res := true } } }, [], by decide +kernel⟩,
   ⟨0, ((run []).modLane 0 0 fun d => { d with latch := [{ step := { cfg := { res := true } } }] }).modCtx 0 fun c =>
     { c with pkts := [(0, [])] }, { step := { cfg := { res := true } } }, [], by decide +kernel⟩,
   ⟨0, ((run []).modLane 0 0 fun d =>
     { d with latch := [{ step := { cfg := { res := true, chk := true, lim := some 0 } } }] }).modCtx 0 fun c =>
     { c with limits := [{ lo := 1, hi := 1 }] }, { step := { cfg := { res := true, chk := true, lim := some 0 } } }, [],
     { lo := 1, hi := 1 }, by decide +kernel⟩,
   ⟨0, (run []).modCtx 0 fun c => { c with final := some (0, 5) }, 5, by decide +kernel⟩⟩

theorem witness_SequenceIsGrantedPrimedAndStarted :
    (∃ (t : Nat) (m : State) (o : LockReq) (rest : List LockReq), m.tileOn t = true ∧ m.locks = o :: rest ∧ o.tile = t ∧ o.who
      = Owner.seq ∧ m.grantable 0 o = true ∧ (((m.grant o).seqGrantLanes t (List.map (fun n => (m.segOf t n).src) (List.range
      (m.seqLastSeg t + 1))) o.slots).snd = none)) ∧
    (∃ (t : Nat) (m : State) (o : LockReq) (rest : List LockReq) (y : Why), m.tileOn t = true ∧ m.locks = o :: rest ∧ o.tile =
      t ∧ o.who = Owner.seq ∧ m.grantable 0 o = true ∧ (((m.grant o).seqGrantLanes t (List.map (fun n => (m.segOf t n).src)
      (List.range (m.seqLastSeg t + 1))) o.slots).snd = some y) ∧ m.r (Page.seq t) Fld.seqState = 1) ∧
    (∃ (t : Nat) (m : State), m.r (Page.seq t) Fld.seqState = 2 ∧ m.archOn = true ∧ m.latent = [] ∧ (m.seq t).headersOk =
      false ∧ 64 * (m.blockSegs t).length - (m.seq t).moved ≤ m.arcRoom (m.home t) ∧ (∀ (n : Nat), n ∈ m.blockSegs t →
      m.poisoned (m.blockAt t (m.segOf t n)) 64 = false ∧ m.headerOk t (m.segOf t n) = true) ∧ m.resBytes t true ≤ 1048576) ∧
    (∃ (t : Nat) (m : State), m.r (Page.seq t) Fld.seqState = 2 ∧ m.archOn = true ∧ m.latent = [] ∧ (m.seq t).headersOk =
      false ∧ m.arcRoom (m.home t) < 64 * (m.blockSegs t).length - (m.seq t).moved) ∧
    (∃ (t : Nat) (m : State) (n : Nat) (l : List Nat), m.r (Page.seq t) Fld.seqState = 2 ∧ m.archOn = true ∧ m.latent = [] ∧
      (m.seq t).headersOk = false ∧ 64 * (m.blockSegs t).length - (m.seq t).moved ≤ m.arcRoom (m.home t) ∧ m.blockSegs t = n
      :: l ∧ m.poisoned (m.blockAt t (m.segOf t n)) 64 = false ∧ m.headerOk t (m.segOf t n) = false) ∧
    (∃ (t : Nat) (m : State), m.r (Page.seq t) Fld.seqState = 2 ∧ m.archOn = true ∧ m.latent = [] ∧ (m.seq t).headersOk = true
      ∧ (m.seq t).staged = false ∧ m.arcRoom (m.home t) < m.resBytes t true - (m.seq t).moved) ∧
    (∃ (t : Nat) (m : State), m.r (Page.seq t) Fld.seqState = 2 ∧ m.archOn = true ∧ m.latent = [] ∧ (m.seq t).headersOk = true
      ∧ (m.seq t).staged = false ∧ m.resBytes t true - (m.seq t).moved ≤ m.arcRoom (m.home t) ∧ m.badDds t = none ∧
      ((((((m.primeRead t (m.resBytes t true)).fst.stageAll t).prefetchFrom t (m.r (Page.seq t) Fld.seqFirst)).modSeq t fun q
      =>
      { rep := q.rep, gran := q.gran, granStart := q.granStart, boundary := q.boundary, next := q.next, jump := q.jump, saved := q.saved, ring := q.ring, stage := q.stage, ddsLists := q.ddsLists, cur := q.cur, fetchAt := q.fetchAt, staged := true, started := q.started, noRefin := q.noRefin, listAt := q.listAt, headersOk := q.headersOk, moved := q.moved, und := q.und, complete := q.complete, holding := q.holding, gapEnd := q.gapEnd, gapTo := q.gapTo, vec := q.vec, cTick := q.cTick, period := q.period, failRep := q.failRep, failNext := q.failNext, idxF := q.idxF, idxP := q.idxP, idxA := q.idxA, lastSrc := q.lastSrc, firstFail := q.firstFail, jumpTs := q.jumpTs, endTs := q.endTs, slipTotal := q.slipTotal, hop := q.hop, goHop := q.goHop }).prefetch
      t (m.r (Page.seq t) Fld.seqPrime)).badPrimed t = none)) ∧
    (∃ (t : Nat) (m : State), m.tileOn t = true ∧ tabGet 0 (m.tile t).deliv 18 ≠ m.pace + 1 ∧ m.r (Page.seq t) Fld.seqState =
      3) ∧
    (∃ (t : Nat) (m : State), m.tileOn t = true ∧ tabGet 0 (m.tile t).deliv 18 ≠ m.pace + 1 ∧ m.r (Page.seq t) Fld.seqState ≠
      3) :=
  ⟨⟨0, { seqAt 1 11 {} (lsw 4) with locks := [⟨.seq, 0, [0], 3⟩] }, ⟨.seq, 0, [0], 3⟩, [], by decide +kernel⟩,
   ⟨0, { seqAt 1 11 {} (lsw 10) with locks := [⟨.seq, 0, [0], 3⟩] }, ⟨.seq, 0, [0], 3⟩, [], .wrongState, by decide +kernel⟩,
   ⟨0, { seqAt 2 11 {} with arc := [(0, 3), (1, 1), (4, 9), (14, 1)] }, by decide +kernel⟩,
   ⟨0, noArc (seqAt 2 11 {}), by decide +kernel⟩,
   ⟨0, seqAt 2 11 {}, 0, [], by decide +kernel⟩,
   ⟨0, noArc (seqAt 2 11 { headersOk := true }), by decide +kernel⟩,
   ⟨0, seqAt 2 1024 { headersOk := true }, by decide +kernel⟩,
   ⟨0, seqAt 3 11 {}, by decide +kernel⟩,
   ⟨0, seqAt 5 11 {}, by decide +kernel⟩⟩

theorem witness_SequenceStartsAndAborts :
    (∃ (fn t : Nat) (m : State), m.hostAt fn (Page.seq t) = true ∧ m.seqStartCheck t = 0) ∧
    (∃ (fn t : Nat) (m : State), m.hostAt fn (Page.seq t) = true ∧ m.seqStartCheck t ≠ 0) ∧
    (∃ (fn t : Nat) (m : State), m.hostAt fn (Page.seq t) = true ∧ m.seqLive t = true) ∧
    (∃ (fn t : Nat) (m : State), m.hostAt fn (Page.seq t) = true ∧ m.r (Page.seq t) Fld.seqState = 5) :=
  ⟨⟨0, 0, seqAt 0 (11 + 1024) {}, by decide +kernel⟩,
   ⟨0, 15, mUp, by decide +kernel⟩,
   ⟨0, 0, seqAt 4 11 { started := true }, by decide +kernel⟩,
   ⟨0, 0, seqAt 5 11 {}, by decide +kernel⟩⟩

theorem witness_ServiceRequestsAndAborts :
    (∃ (op : Nat) (cmd : Nat → Nat → Nat → Nat → Nat → Instr) (fn t s w d : Nat) (m : State), (m.hostAt fn Page.cur = true ∧
      m.svcPath op t s w d = SvcPath.queued) ∧ (op, cmd) ∈ [(1, Instr.handOut), (2, Instr.handBack), (3, Instr.test), (4,
      Instr.retire), (5, Instr.unretire)]) ∧
    (∃ (op : Nat) (cmd : Nat → Nat → Nat → Nat → Nat → Instr) (fn t s w d : Nat) (m : State), (m.hostAt fn Page.cur = true ∧
      m.svcPath op t s w d = SvcPath.atOnce ∧ m.cur.nextTicket < 65536 ∧ m.nv.retired.length = 16) ∧ (op, cmd) ∈ [(1,
      Instr.handOut), (2, Instr.handBack), (3, Instr.test), (4, Instr.retire), (5, Instr.unretire)]) ∧
    (∃ (op : Nat) (cmd : Nat → Nat → Nat → Nat → Nat → Instr) (fn t s w d : Nat) (m : State) (c : Nat), (m.hostAt fn Page.cur
      = true ∧ m.svcPath op t s w d = SvcPath.refused c) ∧ (op, cmd) ∈ [(1, Instr.handOut), (2, Instr.handBack), (3,
      Instr.test), (4, Instr.retire), (5, Instr.unretire)]) ∧
    (∃ (fn : Nat) (r : SvcReq) (t : Nat) (m : State), (m.hostAt fn Page.cur = true ∧ t < 16 ∧ (m.subst t).queue = [r] ∧
      r.ticket < 65536) ∧ (∀ (u : Nat), u ≠ t → (m.subst u).queue = [] ∧ (m.subst u).active = none ∧ (m.subst u).xfer = none))
      ∧
    (∃ (fn : Nat) (m : State), m.hostAt fn Page.cur = true ∧ m.substs = []) ∧
    (∃ (t : Nat) (r : SvcReq) (m : State), (m.subst t).active = some r ∧ (m.subst t).testing = false ∧ (m.subst t).xfer = none
      ∧ (m.subst t).queue = [] ∧ r.slot ≠ 9 ∧ r.waitMs ≠ 0 ∧ r.ticket < 65536) ∧
    (∃ (t : Nat) (r : SvcReq) (m : State), (m.subst t).queue = [r] ∧ (m.subst t).active = none ∧ r.waitMs ≠ 0 ∧ r.ticket <
      65536) :=
  ⟨⟨1, .handOut, 0, 15, 8, 65535, 15, mUp, by decide +kernel, by simp⟩,
   ⟨4, .retire, 0, 15, 8, 65535, 15, { mUp with nv := { mUp.nv with retired := List.replicate 16 8 } }, by decide +kernel, by
     simp⟩,
   ⟨3, .test, 0, 16, 8, 65535, 15, mUp, 13, by decide +kernel, by simp⟩,
   ⟨0, ⟨65535, 1, 8, 0, 15, 0⟩, 15, mUp.setSubst 15 { queue := [⟨65535, 1, 8, 0, 15, 0⟩] }, by decide +kernel, fun u h =>
     tabGet_other (P := fun x : SubstDyn => x.queue = [] ∧ x.active = none ∧ x.xfer = none) h ⟨rfl, rfl, rfl⟩⟩,
   ⟨0, mUp, by decide +kernel⟩,
   ⟨15, ⟨65535, 3, 8, 1, 15, 0⟩, mUp.setSubst 15 { active := some ⟨65535, 3, 8, 1, 15, 0⟩ }, by decide +kernel⟩,
   ⟨15, ⟨65535, 1, 8, 1, 15, 0⟩, mUp.setSubst 15 { queue := [⟨65535, 1, 8, 1, 15, 0⟩] }, by decide +kernel⟩⟩

theorem witness_SiteResetKeepsOthers :
    (∃ (fn : Nat) (m : State), (1 ≤ fn ∧ fn ≤ 16 ∧ m.cur.rst = none ∧ m.cfgOk fn = true ∧ m.cals = [] ∧ (∀ (e : Nat × Ctx), e
      ∈ m.ctxs → e.snd.st.live = false) ∧ (∀ (t : Nat), t < 16 → m.seqLive t = false ∧ m.acqLive t = false ∧ (m.subst t).xfer
      = none)) ∧ (∀ (id : Nat), (m.ctx id).st.live = false) ∧ (∀ (t s : Nat), (m.lane t s).owner = none)) ∧
    (∃ (fn e : Nat) (m : State), 1 ≤ fn ∧ fn ≤ 16 ∧ m.sound = true ∧ (m.fn fn).flr = some e ∧ m.siteOpen fn = true) :=
  ⟨⟨16, mUp, by decide +kernel, fun _ => rfl, fun _ _ => rfl⟩,
   ⟨16, 5, mUp.setFn 16 { flr := some 5 }, by decide +kernel⟩⟩

theorem witness_StepTakesFrontCommand :
    ∃ (c : Instr) (q : List Instr) (m : State), m.pending = c :: q :=
  ⟨.perstRelease, [], { mUp with pending := [.perstRelease] }, by decide +kernel⟩

theorem witness_TileAndArchiveDomains :
    (∃ (fn t : Nat) (m : State) (c : Instr), m.hostAt fn Page.cur = true ∧ m.cur.rst = none ∧ t < 16 ∧ m.cur.tileReq = none ∧
      m.tileOn t = true ∧ ((m.tile t).tshut && (m.tile t).goingDown && !(m.tile t).svcUp) = true ∧ c ∈ [Instr.tileSvcDown fn
      t, Instr.tileSvcReset fn t]) ∧
    (∃ (fn t : Nat) (m : State), m.hostAt fn Page.cur = true ∧ m.cur.rst = none ∧ t < 16 ∧ m.cur.tileReq = none ∧ m.tileOn t =
      false ∧ m.tooHot t = false ∧ m.domAdmit (4 + t) = false) ∧
    (∃ (fn t : Nat) (m : State), m.hostAt fn Page.cur = true ∧ m.cur.rst = none ∧ t < 16 ∧ m.cur.tileReq = none ∧ m.tileOn t =
      true ∧ m.tileQuiet t = true ∧ ((m.tile t).tshut && (m.tile t).goingDown && !(m.tile t).svcUp) = false) ∧
    (∃ (fn t : Nat) (m : State), m.hostAt fn Page.cur = true ∧ m.cur.rst = none ∧ t < 16 ∧ m.cur.tileReq = none ∧ m.tileOn t =
      false ∧ m.tooHot t = false ∧ m.domAdmit (4 + t) = true) ∧
    (∃ (fn t : Nat) (m : State) (c : Instr), m.hostAt fn Page.cur = true ∧ m.cur.rst = none ∧ c ∈ [Instr.tileSvcDown fn t,
      Instr.tileSvcReset fn t, Instr.tileSvcUp fn t] ∧ 15 < t) ∧
    (∃ (fn t : Nat) (m : State) (c : Instr), m.hostAt fn Page.cur = true ∧ m.cur.rst = none ∧ c ∈ [Instr.tileSvcDown fn t,
      Instr.tileSvcReset fn t, Instr.tileSvcUp fn t] ∧ t ≤ 15 ∧ m.cur.tileReq ≠ none) ∧
    (∃ (fn t : Nat) (m : State) (c : Instr), m.hostAt fn Page.cur = true ∧ m.cur.rst = none ∧ c ∈ [Instr.tileSvcDown fn t,
      Instr.tileSvcReset fn t, Instr.tileSvcUp fn t] ∧ t ≤ 15 ∧ m.cur.tileReq = none ∧ (m.tileOn t = true ↔ c =
      Instr.tileSvcUp fn t)) ∧
    (∃ (fn : Nat) (m : State), m.hostAt fn Page.cur = true ∧ m.archOn = true ∧ (∀ (t : Nat), t < 16 → m.seqLive t = false ∧
      m.acqLive t = false) ∧ m.dmas = []) ∧
    (∃ (fn : Nat) (m : State), m.hostAt fn Page.cur = true ∧ m.archOn = false ∧ sext 16 (m.r Page.pwr Fld.pwrTempArc) < 850 ∧
      m.domAdmit 3 = false) ∧
    (∃ (fn : Nat) (m : State), m.hostAt fn Page.cur = true ∧ m.archOn = false ∧ sext 16 (m.r Page.pwr Fld.pwrTempArc) < 850 ∧
      m.domAdmit 3 = true) ∧
    (∃ (fn : Nat) (m : State), m.hostAt fn Page.cur = true ∧ m.archOn = false) ∧
    (∃ (fn : Nat) (m : State), m.hostAt fn Page.cur = true ∧ m.archOn = true) ∧
    (∃ (fn : Nat) (m : State), m.hostAt fn Page.cur = true ∧ m.archOn = false ∧ 850 ≤ sext 16 (m.r Page.pwr Fld.pwrTempArc))
      :=
  ⟨⟨0, 15, mUp.setTile 15 { tshut := true, goingDown := true }, .tileSvcReset 0 15, by decide +kernel⟩,
   ⟨0, 15, (mUp.setDom 19 false).setLane 0 0 { estHold := some 20000000 }, by decide +kernel⟩,
   ⟨0, 15, mUp, by decide +kernel⟩,
   ⟨0, 15, ((mUp.w .cat .catAutoEn 0).setDom 19 false).w .pwr .pwrVin 24000, by decide +kernel⟩,
   ⟨0, 16, mUp, .tileSvcUp 0 16, by decide +kernel⟩,
   ⟨0, 15, { mUp with cur := { mUp.cur with tileReq := some 3 } }, .tileSvcUp 0 15, by decide +kernel⟩,
   ⟨0, 15, mUp, .tileSvcUp 0 15, by decide +kernel⟩,
   ⟨0, mUp, by decide +kernel⟩,
   ⟨0, (mUp.setDom 3 false).setLane 0 0 { estHold := some 20000000 }, by decide +kernel⟩,
   ⟨0, (mUp.setDom 3 false).ws .pwr [(.pwrVin, 24000), (.pwrTempArc, 849)], by decide +kernel⟩,
   ⟨0, mUp.setDom 3 false, by decide +kernel⟩,
   ⟨0, mUp, by decide +kernel⟩,
   ⟨0, (mUp.setDom 3 false).ws .pwr [(.pwrVin, 24000), (.pwrTempArc, 850)], by decide +kernel⟩⟩

theorem witness_TransferStepsInTime :
    (∃ (t : Nat) (r : SvcReq) (m : State), m.sound = true ∧ m.tileOn t = true ∧ (m.tile t).goingDown = false ∧ (m.tile t).turn
      = none ∧ (m.subst t).queue = [r] ∧ r.op = 1 ∧ r.slot < 9 ∧ r.ticket < 65536 ∧ m.substReady t = true ∧ m.xferBar t r.slot
      false = none ∧ governor (m.svcLeave t r) ((m.svcLeave t r).xferBegin t r.slot false (some r) false) t r.slot = none ∧
      m.sw t r.slot ≠ Sw.disconnected) ∧
    (∃ (t : Nat) (r : SvcReq) (m : State), m.sound = true ∧ m.tileOn t = true ∧ (m.tile t).goingDown = false ∧ (m.tile t).turn
      = none ∧ (m.subst t).queue = [r] ∧ r.op = 1 ∧ r.slot < 9 ∧ r.ticket < 65536 ∧ m.substReady t = true ∧ m.xferBar t r.slot
      false = none ∧ governor (m.svcLeave t r) ((m.svcLeave t r).xferBegin t r.slot false (some r) false) t r.slot = none ∧
      m.sw t r.slot = Sw.disconnected) ∧
    (∃ (t : Nat) (x : Xfer) (m : State), (m.subst t).xfer = some x ∧ x.started = false ∧ x.stage = 0) ∧
    (∃ (t : Nat) (x : Xfer) (m : State) (uv : Int), (m.subst t).xfer = some x ∧ x.started = true ∧ x.stage = 0 ∧ (x.mv = true
      ∨ uv.natAbs ≤ 2000)) ∧
    (∃ (t : Nat) (x : Xfer) (m : State) (uv : Int) (r : SvcReq), (m.subst t).xfer = some x ∧ x.started = true ∧ x.stage = 0 ∧
      x.mv = false ∧ 2000 < uv.natAbs ∧ x.forCal = false ∧ x.req = some r ∧ r.ticket < 65536) ∧
    (∃ (t : Nat) (x : Xfer) (m : State), (m.subst t).xfer = some x ∧ x.started = true ∧ x.stage = 1 ∧ x.mv = false) ∧
    (∃ (t : Nat) (x : Xfer) (m : State), (m.subst t).xfer = some x ∧ x.started = true ∧ x.stage = 2 ∧ x.shares < 64) ∧
    (∃ (t : Nat) (x : Xfer) (m : State), (m.subst t).xfer = some x ∧ x.started = true ∧ x.stage = 2 ∧ x.shares = 64) ∧
    (∃ (t : Nat) (x : Xfer) (m : State), (m.subst t).xfer = some x ∧ x.started = true ∧ (x.stage = 3 ∨ x.stage = 1 ∧ x.mv =
      true)) ∧
    (∃ (t : Nat) (x : Xfer) (m : State) (r : SvcReq), (m.subst t).xfer = some x ∧ x.stage < 4 ∧ (x.started = true → m.pace + 1
      < x.h0 + if x.mv = true then 8400 else 24800) ∧ x.forCal = false ∧ x.req = some r ∧ r.ticket < 65536) ∧
    (∃ (t : Nat) (x : Xfer) (m : State), (m.subst t).xfer = some x ∧ (4 ≤ x.stage ∨ x.started = true ∧ (x.h0 + if x.mv = true
      then 8400 else 24800) ≤ m.pace + 1)) :=
  ⟨⟨15, ⟨65535, 1, 8, 0, 15, 0⟩, lv ((lsw 4 mUp 15 8).setSubst 15 { queue := [⟨65535, 1, 8, 0, 15, 0⟩] }) (.lane 15 8)
    [(.laneForceMode, 1)], by decide +kernel⟩,
   ⟨15, ⟨65535, 1, 8, 0, 15, 0⟩, mUp.setSubst 15 { queue := [⟨65535, 1, 8, 0, 15, 0⟩] }, by decide +kernel⟩,
   ⟨0, { slot := 8, back := false, h0 := 5 }, (lsw 4 mUp 0 8).setSubst 0
     { xfer := some { slot := 8, back := false, h0 := 5 } }, by decide +kernel⟩,
   ⟨0, { slot := 8, back := false, h0 := 0, started := true }, (lsw 4 mUp 0 8).setSubst 0
     { xfer := some { slot := 8, back := false, h0 := 0, started := true } }, 2000, by decide +kernel⟩,
   ⟨0, { slot := 8, back := false, h0 := 0, started := true, req := some ⟨65535, 1, 8, 0, 15, 0⟩ }, (lsw 4 mUp 0 8).setSubst 0
     { xfer := some { slot := 8, back := false, h0 := 0, started := true, req := some ⟨65535, 1, 8, 0, 15, 0⟩ } }, -2001,
     ⟨65535, 1, 8, 0, 15, 0⟩, by decide +kernel⟩,
   ⟨0, { slot := 8, back := false, h0 := 0, started := true, stage := 1 }, (lsw 4 mUp 0 8).setSubst 0
     { xfer := some { slot := 8, back := false, h0 := 0, started := true, stage := 1 } }, by decide +kernel⟩,
   ⟨0, { slot := 8, back := true, h0 := 0, started := true, stage := 2, shares := 63 }, (lsw 4 mUp 0 8).setSubst 0
     { xfer := some { slot := 8, back := true, h0 := 0, started := true, stage := 2, shares := 63 } }, by decide +kernel⟩,
   ⟨0, { slot := 8, back := false, h0 := 0, started := true, stage := 2, shares := 64 }, (lsw 4 mUp 0 8).setSubst 0
     { xfer := some { slot := 8, back := false, h0 := 0, started := true, stage := 2, shares := 64 } }, by decide +kernel⟩,
   ⟨0, { slot := 8, back := false, h0 := 0, started := true, stage := 3, shares := 64 }, (lsw 4 mUp 0 8).setSubst 0
     { xfer := some { slot := 8, back := false, h0 := 0, started := true, stage := 3, shares := 64 } }, by decide +kernel⟩,
   ⟨0, { slot := 8, back := false, h0 := 0, started := true, stage := 3, req := some ⟨65535, 1, 8, 0, 15, 0⟩ }, (lsw 4 mUp 0
     8).setSubst 0
     { xfer := some { slot := 8, back := false, h0 := 0, started := true, stage := 3, req := some ⟨65535, 1, 8, 0, 15, 0⟩ } },
     ⟨65535, 1, 8, 0, 15, 0⟩, by decide +kernel⟩,
   ⟨0, { slot := 8, back := false, h0 := 0, started := true, stage := 4 }, (lsw 4 mUp 0 8).setSubst 0
     { xfer := some { slot := 8, back := false, h0 := 0, started := true, stage := 4 } }, by decide +kernel⟩⟩

theorem witness_TransfersEnd :
    (∃ (t : Nat) (x : Xfer) (m : State) (r : SvcReq), m.calm t = true ∧ (m.subst t).xfer = some x ∧ (m.lane t x.slot).dcPend =
      none ∧ m.r Page.pwr Fld.pwrOverAllow = 0 ∧ x.forCal = false ∧ x.started = true ∧ x.stage = 4 ∧ x.req = some r ∧ r.ticket
      < 65536 ∧ x.back = false ∧ r.op = 1) ∧
    (∃ (t : Nat) (x : Xfer) (m : State) (r : SvcReq), m.calm t = true ∧ (m.subst t).xfer = some x ∧ (m.lane t x.slot).dcPend =
      none ∧ m.r Page.pwr Fld.pwrOverAllow = 0 ∧ x.forCal = false ∧ x.started = true ∧ x.stage = 4 ∧ x.req = some r ∧ r.ticket
      < 65536 ∧ x.back = false ∧ r.op = 3) ∧
    (∃ (t : Nat) (x : Xfer) (m : State) (r : SvcReq), m.calm t = true ∧ (m.subst t).xfer = some x ∧ (m.lane t x.slot).dcPend =
      none ∧ m.r Page.pwr Fld.pwrOverAllow = 0 ∧ x.forCal = false ∧ x.started = true ∧ x.stage = 4 ∧ x.req = some r ∧ r.ticket
      < 65536 ∧ x.back = true ∧ r.op = 2) ∧
    (∃ (t : Nat) (x : Xfer) (m : State), m.calm t = true ∧ (m.subst t).xfer = some x ∧ (m.lane t x.slot).dcPend = none ∧ m.r
      Page.pwr Fld.pwrOverAllow = 0 ∧ x.forCal = false ∧ x.stage = 9 ∧ (m.subst t).faults = []) ∧
    (∃ (t : Nat) (r : SvcReq) (m : State), (m.subst t).active = some r ∧ (m.subst t).testing = true ∧ r.slot = 9 ∧ r.ticket <
      65536) ∧
    (∃ (t : Nat) (r : SvcReq) (m : State), (m.subst t).active = some r ∧ (m.subst t).testing = true ∧ r.slot ≠ 9) ∧
    (∃ (t : Nat) (r : SvcReq) (m : State), (m.subst t).active = some r ∧ (m.subst t).testing = true ∧ r.slot ≠ 9 ∧ r.ticket <
      65536) :=
  ⟨⟨0, { slot := 8, back := false, h0 := 0, started := true, stage := 4, req := some ⟨65535, 1, 8, 0, 15, 0⟩ }, (lsw 4 mUp 0
    8).setSubst 0
    { xfer := some { slot := 8, back := false, h0 := 0, started := true, stage := 4, req := some ⟨65535, 1, 8, 0, 15, 0⟩ } },
    ⟨65535, 1, 8, 0, 15, 0⟩, by decide +kernel⟩,
   ⟨0, { slot := 8, back := false, h0 := 0, started := true, stage := 4, req := some ⟨65535, 3, 8, 0, 15, 0⟩ }, (lsw 4 mUp 0
     8).setSubst 0
     { xfer := some { slot := 8, back := false, h0 := 0, started := true, stage := 4, req := some ⟨65535, 3, 8, 0, 15, 0⟩ } },
     ⟨65535, 3, 8, 0, 15, 0⟩, by decide +kernel⟩,
   ⟨0, { slot := 8, back := true, h0 := 0, started := true, stage := 4, req := some ⟨65535, 2, 8, 0, 15, 0⟩ }, (lsw 4 mUp 0
     8).setSubst 0
     { xfer := some { slot := 8, back := true, h0 := 0, started := true, stage := 4, req := some ⟨65535, 2, 8, 0, 15, 0⟩ } },
     ⟨65535, 2, 8, 0, 15, 0⟩, by decide +kernel⟩,
   ⟨0, { slot := 8, back := false, h0 := 0, started := true, stage := 9 }, (lsw 4 mUp 0 8).setSubst 0
     { xfer := some { slot := 8, back := false, h0 := 0, started := true, stage := 9 } }, by decide +kernel⟩,
   ⟨0, ⟨65535, 3, 9, 0, 15, 0⟩, mUp.setSubst 0 { active := some ⟨65535, 3, 9, 0, 15, 0⟩, testing := true },
     by decide +kernel⟩,
   ⟨0, ⟨65535, 4, 8, 0, 15, 0⟩, mUp.setSubst 0 { active := some ⟨65535, 4, 8, 0, 15, 0⟩, testing := true },
     by decide +kernel⟩,
   ⟨0, ⟨65535, 4, 8, 0, 15, 0⟩, mUp.setSubst 0 { active := some ⟨65535, 4, 8, 0, 15, 0⟩, testing := true },
     by decide +kernel⟩⟩

theorem witness_VectorsListsRefillsAndResume :
    (∃ (t : Nat) (m : State) (s : Nat), m.r (Page.seq t) Fld.seqState = 4 ∧ (m.seq t).started = true ∧ (m.seq t).holding =
      false ∧ (m.seq t).gapEnd = none ∧ (m.segOf t (m.r (Page.seq t) Fld.seqSeg)).src = 1 ∧ (m.seq t).vec < 64 ∧ m.seqLanes t
      = [s] ∧ m.sw t s = Sw.pin ∧ (m.lane t s).drv.tripped = false ∧ m.r (Page.acq t) Fld.acqSrc ≠ 1 ∧ bits ((m.seq
      t).cur.getD (m.seq t).vec 0) (3 * s) 3 = 1) ∧
    (∃ (t : Nat) (m : State) (s : Nat) (pins : List Int), m.r (Page.seq t) Fld.seqState = 4 ∧ (m.seq t).started = true ∧
      (m.seq t).holding = false ∧ (m.seq t).gapEnd = none ∧ (m.segOf t (m.r (Page.seq t) Fld.seqSeg)).src = 1 ∧ (m.seq t).vec
      < 64 ∧ m.seqLanes t = [s] ∧ m.sw t s = Sw.pin ∧ (m.lane t s).drv.tripped = false ∧ m.r (Page.acq t) Fld.acqSrc ≠ 1 ∧
      bits ((m.seq t).cur.getD (m.seq t).vec 0) (3 * s) 3 = 2 ∧ sext 16 (m.l (Page.lane t s) Fld.lanePinCmpLo) * 500 ≤
      pins.getD s 0) ∧
    (∃ (t : Nat) (m : State) (fs ps as : List Nat), m.r (Page.seq t) Fld.seqState = 4 ∧ (m.seq t).started = true ∧ (m.seq
      t).gapEnd = none ∧ (m.segOf t (m.r (Page.seq t) Fld.seqSeg)).src = 2 ∧ (m.seq t).listAt < (m.seq t).boundary ∧ tabGet
      ([], [], []) (m.seq t).ddsLists (m.segOf t (m.r (Page.seq t) Fld.seqSeg)).addr = (fs, ps, as) ∧ fs ≠ [] ∧ ps ≠ [] ∧ as ≠
      []) ∧
    (∃ (t : Nat) (m : State) (h h' : Hunt), (m.r (Page.seq t) Fld.seqState = 3 ∨ m.r (Page.seq t) Fld.seqState = 4) ∧ m.archOn
      = true ∧ m.latent = [] ∧ (m.seq t).fetchAt = some h ∧ m.seqSeek t 4096 h = (some true, h') ∧ m.ringFull t h'.key = false
      ∧ m.shareOut (m.home t) = true) ∧
    (∃ (t : Nat) (m : State) (h h' : Hunt), (m.r (Page.seq t) Fld.seqState = 3 ∨ m.r (Page.seq t) Fld.seqState = 4) ∧ m.archOn
      = true ∧ m.latent = [] ∧ (m.seq t).fetchAt = some h ∧ m.seqSeek t 4096 h = (some true, h') ∧ m.ringFull t h'.key = false
      ∧ m.shareOut (m.home t) = false ∧ (m.loadGran t (m.segOf t h'.key.fst) h'.key.snd.fst).fst = 0) ∧
    (∃ (t : Nat) (m : State) (h h' : Hunt), (m.r (Page.seq t) Fld.seqState = 3 ∨ m.r (Page.seq t) Fld.seqState = 4) ∧ m.archOn
      = true ∧ m.latent = [] ∧ (m.seq t).fetchAt = some h ∧ m.seqSeek t 4096 h = (some true, h') ∧ m.ringFull t h'.key = false
      ∧ m.shareOut (m.home t) = false ∧ (m.loadGran t (m.segOf t h'.key.fst) h'.key.snd.fst).fst ≠ 0 ∧ (m.seq t).holding =
      true ∧ (m.seq t).und = some h'.key) ∧
    (∃ (t : Nat) (m : State) (k : Nat × Nat × Nat) (tc : Nat) (j : JumpReq), (m.seq t).holding = true ∧ (m.seq t).und = some k
      ∧ (m.seq t).complete = some tc ∧ (m.seq t).noRefin = false ∧ k.snd.fst ≠ 0 ∧ k.fst = m.r (Page.seq t) Fld.seqSeg ∧
      (m.segOf t (m.r (Page.seq t) Fld.seqSeg)).src = 3 ∧ (m.seq t).jump = some j ∧ (m.segOf t (m.r (Page.seq t)
      Fld.seqSeg)).bound = true ∧ (j.tick + 8 < (m.seq t).boundary + if tc + 8 ≤ (m.seq t).boundary then 0 else ceilDiv (tc +
      8 - (m.seq t).boundary) (m.r (Page.seq t) Fld.seqDiv) * m.r (Page.seq t) Fld.seqDiv) ∧ m.streamed t (j.target, 0, 1) =
      false ∧ (m.segOf t j.target).src = 3 ∧ (m.granWords t (j.target, 0, 1)).fst = 0 ∧ (∀ (s : Nat), s ∈ m.seqLanes t → m.sw
      t s ≠ Sw.pin ∧ (m.lane t s).dds = false)) ∧
    (∃ (t : Nat) (m : State) (k : Nat × Nat × Nat) (tc : Nat), (m.seq t).holding = true ∧ (m.seq t).und = some k ∧ (m.seq
      t).complete = some tc ∧ (m.seq t).noRefin = false ∧ k.snd.fst ≠ 0 ∧ k.fst = m.r (Page.seq t) Fld.seqSeg ∧ (m.segOf t
      (m.r (Page.seq t) Fld.seqSeg)).src = 3 ∧ (m.seq t).jump = none ∧ (m.granWords t (m.r (Page.seq t) Fld.seqSeg, (m.seq
      t).gran + 1, (m.seq t).rep)).fst = 0) :=
  ⟨⟨0, seqAt 4 9 { started := true, vec := 63, cur := List.replicate 64 1 } (lsw 8), 0, by decide +kernel⟩,
   ⟨0, seqAt 4 9 { started := true, vec := 63, cur := List.replicate 64 2 } (lsw 8), 0, [0], by decide +kernel⟩,
   ⟨0, seqAt 4 10 { started := true, listAt := 99, boundary := 100, ddsLists := [(0, ([1], [1], [1]))] } (lsw 4), [1], [1],
     [1], by decide +kernel⟩,
   ⟨0, noArc (seqAt 3 3 { fetchAt := some { key := (0, 8, 1), loops := [] } }), { key := (0, 8, 1), loops := [] },
     { key := (0, 8, 1), loops := [] }, by decide +kernel⟩,
   ⟨0, seqAt 3 3 { fetchAt := some { key := (0, 8, 1), loops := [] } }, { key := (0, 8, 1), loops := [] },
     { key := (0, 8, 1), loops := [] }, by decide +kernel⟩,
   ⟨0,
     { seqAt 4 3 { started := true, holding := true, und := some (0, 8, 1), fetchAt := some { key := (0, 8, 1), loops := [] } } with poison := [136] },
     { key := (0, 8, 1), loops := [] }, { key := (0, 8, 1), loops := [] }, by decide +kernel⟩,
   ⟨0, seqAt 4 27
     { started := true, boundary := 100, holding := true, und := some (0, 1, 1), complete := some 90, jump := some ⟨0, 0, false⟩, stage := [(0, (0, [])), (1, (0, []))] },
     (0, 1, 1), 90, ⟨0, 0, false⟩, by decide +kernel⟩,
   ⟨0, seqAt 4 11
     { started := true, boundary := 100, holding := true, und := some (0, 1, 1), complete := some 90, stage := [(1, (0, []))] },
     (0, 1, 1), 90, by decide +kernel⟩⟩

theorem witness_WaitsAndEnds :
    (∃ (id k : Nat) (ws : List Word) (m : State), (m.ctx id).engine = some k ∧ m.quiet id = true ∧ m.atDesc id 7 ws = true ∧
      BitVec.getLsbD (dw ws 1) 4 = false ∧ (m.tile (m.ctx id).tile).draining = false ∧ (m.lane (m.ctx id).tile (m.ctx
      id).slot).latch = []) ∧
    (∃ (id k : Nat) (ws : List Word) (m : State), (m.ctx id).engine = some k ∧ m.quiet id = true ∧ m.atDesc id 7 ws = true ∧
      BitVec.getLsbD (dw ws 1) 4 = true) ∧
    (∃ (id k : Nat) (ws : List Word) (m : State), (m.ctx id).engine = some k ∧ m.quiet id = true ∧ m.atDesc id 10 ws = true ∧
      wbits (dw ws 1) 0 2 = 0) ∧
    (∃ (t ch id : Nat) (w : WaitInfo) (m : State), (m.tileOn t = true ∧ ch < 8 ∧ id / 256 = t ∧ tabGet 0 (m.tile t).deliv (10
      + ch) ≠ m.pace + 1 ∧ (m.ctx id).waitI = some w ∧ w.timed = false ∧ w.go = ch ∧ (m.ctx id).st = CtxSt.parked) ∧ (∀ (j :
      Nat), (m.ctx j).st.live = true ∨ (m.ctx j).st = CtxSt.done → (m.ctx j).par.abortOn ≠ ch)) ∧
    (∃ (t ch id : Nat) (w : WaitInfo) (m : State), (m.tileOn t = true ∧ ch < 8 ∧ id / 256 = t ∧ tabGet 0 (m.tile t).deliv (10
      + ch) ≠ m.pace + 1 ∧ (m.ctx id).waitI = some w ∧ w.timed = false ∧ w.go = ch ∧ (m.ctx id).st = CtxSt.armed) ∧ (∀ (j :
      Nat), (m.ctx j).st.live = true ∨ (m.ctx j).st = CtxSt.done → (m.ctx j).par.abortOn ≠ ch)) ∧
    (∃ (t ch : Nat) (m : State), m.tileOn t = true ∧ ch < 8 ∧ m.ctxs = [] ∧ m.home t = 0 ∧ tabGet 0 (m.tile t).deliv (10 + ch)
      ≠ m.pace + 1) ∧
    (∃ (id e : Nat) (w : WaitInfo) (m : State), (m.ctx id).waitI = some w ∧ w.endTick = some e ∧ (m.ctx id).st = CtxSt.parked
      ∧ w.timed = true) ∧
    (∃ (id e : Nat) (w : WaitInfo) (m : State), (m.ctx id).waitI = some w ∧ w.endTick = some e ∧ (m.ctx id).st = CtxSt.parked
      ∧ w.timed = false ∧ w.toAct = false ∧ (∀ (f : Flight), f ∈ m.flight → e < f.tick)) ∧
    (∃ (id e : Nat) (w : WaitInfo) (m : State), (m.ctx id).waitI = some w ∧ w.endTick = some e ∧ (m.ctx id).st = CtxSt.parked
      ∧ w.timed = false ∧ w.toAct = true ∧ (∀ (f : Flight), f ∈ m.flight → e < f.tick)) :=
  ⟨⟨0, 0, [7, 7, 1, 0, 0, 0, 0, 0], run [[7, 7, 1, 0, 0, 0, 0, 0]], by decide +kernel⟩,
   ⟨0, 0, [7, 0x17, 1, 0, 0, 0, 0, 0], run [[7, 0x17, 1, 0, 0, 0, 0, 0]], by decide +kernel⟩,
   ⟨0, 0, [10, 0, 0, 0, 0, 0, 0, 0], run [[10, 0, 0, 0, 0, 0, 0, 0]], by decide +kernel⟩,
   ⟨0, 7, 0, { go := 7, endTick := some 5 }, (ctxIn .parked).modCtx 0 fun c =>
     { c with waitI := some { go := 7, endTick := some 5 } }, by decide +kernel, fun j => tabGet_one (P := fun c : Ctx =>
     c.st.live = true ∨ c.st = .done → c.par.abortOn ≠ 7) (by decide) (by decide)⟩,
   ⟨0, 7, 0, { go := 7, endTick := some 5 }, (ctxIn .armed).modCtx 0 fun c =>
     { c with waitI := some { go := 7, endTick := some 5 }, engine := some 0 }, by decide +kernel, fun j => tabGet_one (P :=
     fun c : Ctx => c.st.live = true ∨ c.st = .done → c.par.abortOn ≠ 7) (by decide) (by decide)⟩,
   ⟨0, 7, mUp, by decide +kernel⟩,
   ⟨0, 5, { timed := true, endTick := some 5 }, (ctxIn .parked).modCtx 0 fun c =>
     { c with waitI := some { timed := true, endTick := some 5 } }, by decide +kernel⟩,
   ⟨0, 5, { go := 7, endTick := some 5 }, (ctxIn .parked).modCtx 0 fun c =>
     { c with waitI := some { go := 7, endTick := some 5 } }, by decide +kernel⟩,
   ⟨0, 5, { go := 7, endTick := some 5, toAct := true }, (ctxIn .parked).modCtx 0 fun c =>
     { c with waitI := some { go := 7, endTick := some 5, toAct := true } }, by decide +kernel⟩⟩

theorem witness_WalulFramesAreDelivered :
    (∃ (n c : Nat) (f : WlFrame) (m : State), n < 2 ∧ m.wlPort n = 2 ∧ c ≤ m.pace ∧ m.pace < c + 65536 ∧ f.tick16 = c % 65536)
      ∧
    (∃ (n c : Nat) (f : WlFrame) (m : State), n < 2 ∧ m.wlPort n = 2 ∧ c ≤ m.pace ∧ m.pace < c + 65536 ∧ f.tick16 = c % 65536
      ∧ (¬(f.origin ≠ m.index ∧ m.wl.seen.contains (f.chan, c, f.origin) = false))) ∧
    (∃ (n c : Nat) (f : WlFrame) (m : State), n < 2 ∧ m.wlPort n = 2 ∧ c ≤ m.pace ∧ m.pace < c + 65536 ∧ f.tick16 = c % 65536
      ∧ (f.origin ≠ m.index ∧ m.wl.seen.contains (f.chan, c, f.origin) = false) ∧ (m.wlPort (1 - n) = 0 ∨ m.wlNext (1 - n) =
      f.origin) ∧ (m.pace ≤ c + 19 * if m.r Page.wl Fld.wlMode = 1 then m.r Page.wl Fld.wlHmax else m.wlHops n f.origin)) ∧
    (∃ (n c : Nat) (f : WlFrame) (m : State), n < 2 ∧ m.wlPort n = 2 ∧ c ≤ m.pace ∧ m.pace < c + 65536 ∧ f.tick16 = c % 65536
      ∧ (f.origin ≠ m.index ∧ m.wl.seen.contains (f.chan, c, f.origin) = false) ∧ m.wlPort (1 - n) = 2 ∧ m.wlNext (1 - n) ≠
      f.origin ∧ (m.pace ≤ c + 19 * if m.r Page.wl Fld.wlMode = 1 then m.r Page.wl Fld.wlHmax else m.wlHops n f.origin)) ∧
    (∃ (n c : Nat) (f : WlFrame) (m : State), n < 2 ∧ m.wlPort n = 2 ∧ c ≤ m.pace ∧ m.pace < c + 65536 ∧ f.tick16 = c % 65536
      ∧ (f.origin ≠ m.index ∧ m.wl.seen.contains (f.chan, c, f.origin) = false) ∧ m.wlPort (1 - n) ≠ 0 ∧ m.wlPort (1 - n) ≠ 2
      ∧ m.wlNext (1 - n) ≠ f.origin ∧ (m.pace ≤ c + 19 * if m.r Page.wl Fld.wlMode = 1 then m.r Page.wl Fld.wlHmax else
      m.wlHops n f.origin)) ∧
    (∃ (n c : Nat) (f : WlFrame) (m : State), n < 2 ∧ m.wlPort n = 2 ∧ c ≤ m.pace ∧ m.pace < c + 65536 ∧ f.tick16 = c % 65536
      ∧ (f.origin ≠ m.index ∧ m.wl.seen.contains (f.chan, c, f.origin) = false) ∧ (m.wlPort (1 - n) = 0 ∨ m.wlNext (1 - n) =
      f.origin) ∧ ((c + 19 * if m.r Page.wl Fld.wlMode = 1 then m.r Page.wl Fld.wlHmax else m.wlHops n f.origin) < m.pace)) ∧
    (∃ (p : WlPend) (m : State), m.wl.pend = [p]) :=
  ⟨⟨1, 0, ⟨15, 0, 7, 1⟩, { wl0 with pace := 65535 }, by decide +kernel⟩,
   ⟨1, 0, ⟨15, 0, 7, 0⟩, { wl0 with pace := 65535 }, by decide +kernel⟩,
   ⟨1, 0, ⟨15, 0, 7, 1⟩, { wl0 with pace := 19 }, by decide +kernel⟩,
   ⟨1, 0, ⟨15, 0, 7, 2⟩, { ((wl0.w .dev .devStrapIndex 1).ws .wl [(.wlPState 0, 2), (.wlN, 3)]) with pace := 19 },
     by decide +kernel⟩,
   ⟨1, 0, ⟨15, 0, 7, 2⟩, { ((wl0.w .dev .devStrapIndex 1).ws .wl [(.wlPState 0, 1), (.wlN, 3)]) with pace := 19 },
     by decide +kernel⟩,
   ⟨1, 0, ⟨15, 0, 7, 1⟩, { wl0 with pace := 65535 }, by decide +kernel⟩,
   ⟨⟨5, 15, 15, 1⟩, { wl0 with wl := { pend := [⟨5, 15, 15, 1⟩] } }, by decide +kernel⟩⟩

theorem witness_WalulPortsTrainAndFall :
    (∃ (n : Nat) (p : WlPeer) (m : State), m.wlOn = true ∧ n < 2 ∧ m.portUsed n = true ∧ (m.wl.topoErr.contains n = false ∨
      p.cold = true) ∧ m.wlPort n = 2) ∧
    (∃ (n width : Nat) (p : WlPeer) (m : State), m.wlOn = true ∧ n < 2 ∧ m.portUsed n = true ∧ (m.wl.topoErr.contains n =
      false ∨ p.cold = true) ∧ m.wlPort n ≠ 2 ∧ (width = 2 ∨ width = 4) ∧ m.wlAgrees n p = true) ∧
    (∃ (n width : Nat) (p : WlPeer) (m : State), m.wlOn = true ∧ n < 2 ∧ m.portUsed n = true ∧ (m.wl.topoErr.contains n =
      false ∨ p.cold = true) ∧ m.wlPort n ≠ 2 ∧ (width = 2 ∨ width = 4) ∧ m.wlAgrees n p = false) ∧
    (∃ (n width : Nat) (p : WlPeer) (m : State), m.wlOn = true ∧ n < 2 ∧ m.portUsed n = true ∧ (m.wl.topoErr.contains n =
      false ∨ p.cold = true) ∧ m.wlPort n ≠ 2 ∧ width ≠ 2 ∧ width ≠ 4) ∧
    (∃ (n : Nat) (c : LossCause) (m : State), n < 2 ∧ c ≠ LossCause.crcRun ∧ m.wlPort n = 2) ∧
    (∃ (n : Nat) (c : LossCause) (m : State), n < 2 ∧ c = LossCause.crcRun ∧ 4 ≤ m.wl.bad n) :=
  ⟨⟨1, ⟨1, 1, 0, 0, 2, true, true, false, 2, 1⟩, wl0, by decide +kernel⟩,
   ⟨1, 4, ⟨1, 1, 0, 0, 2, true, true, false, 2, 1⟩, wl0.w .wl (.wlPState 1) 1, by decide +kernel⟩,
   ⟨1, 2, ⟨3, 1, 0, 0, 2, true, true, false, 2, 1⟩, wl0.w .wl (.wlPState 1) 1, by decide +kernel⟩,
   ⟨1, 0, ⟨1, 1, 0, 0, 2, true, true, false, 2, 1⟩, wl0.w .wl (.wlPState 1) 1, by decide +kernel⟩,
   ⟨1, .linkOff, wl0, by decide +kernel⟩,
   ⟨1, .crcRun, { wl0 with wl := { bad1 := 4 } }, by decide +kernel⟩⟩

theorem witness_WindowMonitors :
    (∃ (t s n : Nat) (m : State) (x : Int), n < 2 ∧ m.wmLive t s n m.pace = true ∧ ((m.lane t s).wm n).raw = WmState.inside ∧
      m.wmThen t s n x ≠ WmState.inside ∧ m.l (Page.lane t s) (Fld.laneWmPend n) = 0) ∧
    (∃ (t s n : Nat) (m : State) (x : Int) (q : Pulse), n < 2 ∧ m.wmLive t s n m.pace = true ∧ ((m.lane t s).wm n).raw =
      WmState.inside ∧ m.wmThen t s n x ≠ WmState.inside ∧ m.l (Page.lane t s) (Fld.laneWmPend n) = 1 ∧ (m.lane t (m.leader t
      (m.actSlot t s))).pulse = some q ∧ q.onTop = true) ∧
    (∃ (t s n : Nat) (m : State) (x : Int), n < 2 ∧ m.wmLive t s n m.pace = true ∧ ((m.lane t s).wm n).raw ≠ WmState.inside ∧
      m.wmThen t s n x = WmState.inside) ∧
    (∃ (t s n : Nat) (m : State) (fn : Nat), n < 2 ∧ m.hostAt fn (Page.lane t s) = true ∧ m.flrShut t s = false ∧ ((m.lane t
      s).wm n).raw = WmState.inside) ∧
    (∃ (t s n : Nat) (m : State) (fn : Nat), n < 2 ∧ m.hostAt fn (Page.lane t s) = true ∧ m.flrShut t s = false ∧ ((m.lane t
      s).wm n).raw ≠ WmState.inside ∧ m.l (Page.lane t s) (Fld.laneWmLatch n) = 0) ∧
    (∃ (t s n : Nat) (m : State) (fn : Nat), n < 2 ∧ m.hostAt fn (Page.lane t s) = true ∧ m.flrShut t s = false ∧ ((m.lane t
      s).wm n).raw ≠ WmState.inside ∧ m.l (Page.lane t s) (Fld.laneWmLatch n) ≠ 0 ∧ m.r (Page.lane t s) (Fld.laneWmTrip n) <
      2) ∧
    (∃ (t s n : Nat) (m : State), (m.wmLive t s n (max (((m.lane t s).wm n).since + if m.l (Page.lane t s) (Fld.laneWmFilt n)
      = 1 then 4 else 2) m.pace) = true) ∧ m.r (Page.lane t s) (Fld.laneWmState n) ≠ ((m.lane t s).wm n).raw.code ∧ (∀ (i :
      Nat), i < 8 → (((m.lane t s).wm n).sampleAt (((m.lane t s).wm n).since - 1 - i)).code = m.r (Page.lane t s)
      (Fld.laneWmState n))) ∧
    (∃ (fn t s n : Nat) (m : State), m.hostAt fn (Page.lane t s) = true ∧ m.flrShut t s = false ∧ n < 2 ∧ m.follower t s =
      false ∧ m.sw t s = Sw.disconnected ∧ m.r (Page.lane t s) (Fld.laneWmTrip n) = 0 ∧ (m.lane t s).chk = none) ∧
    (∃ (t s n z : Nat) (m : State), (m.lane t s).chk = some (n, z) ∧ n < 2 ∧ s < 9 ∧ (m.tile t).svcUp = false ∧ m.r Page.dev
      Fld.devSvcAutoRetire = 0) :=
  ⟨⟨0, 0, 1, lsw 4, 100000000, by decide +kernel⟩,
   ⟨0, 0, 1, lv ((lsw 4).setLane 0 0 { pulse := some { onTop := true } }) (.lane 0 0) [(.laneWmPend 1, 1)], 100000000,
     { onTop := true }, by decide +kernel⟩,
   ⟨0, 0, 1, (lsw 4).setLane 0 0 { wm1 := { raw := .above, clamp := true } }, 0, by decide +kernel⟩,
   ⟨0, 0, 1, (lsw 4).w (.lane 0 0) (.laneWmTrip 1) 1, 0, by decide +kernel⟩,
   ⟨0, 0, 1, (((lsw 4).setLane 0 0 { wm1 := { raw := .above } }).ws (.lane 0 0) [(.laneWmTrip 1, 1), (.laneWmLatch 1,
     0)]).latch (.lane 0 0) [.laneWmLatch 1], 0, by decide +kernel⟩,
   ⟨0, 0, 1, ((lsw 4).setLane 0 0 { wm1 := { raw := .above } }).w (.lane 0 0) (.laneWmTrip 1) 1, 0, by decide +kernel⟩,
   ⟨0, 0, 1, (lsw 4).setLane 0 0 { wm1 := { raw := .above, since := 50 } }, by decide +kernel⟩,
   ⟨0, 0, 0, 1, mUp, by decide +kernel⟩,
   ⟨0, 8, 1, 5, mUp.setLane 0 8 { chk := some (1, 5) }, by decide +kernel⟩⟩

theorem witness_ZeroSegmentEntryIsBad :
    (∃ (t n : Nat) (m : State), (∀ (k : Nat), k < 8 → m.segWord t (8 * n + k) = 0)) ∧
    (∃ (t n : Nat) (m : State) (fn : Nat), (∀ (k : Nat), k < 8 → m.segWord t (8 * n + k) = 0) ∧ m.hostAt fn (Page.seq t) =
      true ∧ (m.r (Page.seq t) Fld.seqState = 0 ∨ m.r (Page.seq t) Fld.seqState = 5) ∧ m.r (Page.seq t) Fld.pageEn ≠ 0 ∧ m.r
      (Page.seq t) Fld.seqLanes ≠ 0 ∧ 2 ≤ m.r (Page.seq t) Fld.seqPrime ∧ m.r (Page.seq t) Fld.seqPrime ≤ 1024 ∧ m.r (Page.seq
      t) Fld.seqPolicy ≤ 2 ∧ 80 ≤ m.r (Page.seq t) Fld.seqDiv ∧ n ≤ m.seqLastSeg t) :=
  ⟨⟨15, 4095, mUp, by decide +kernel⟩,
   ⟨15, 4095, mUp.ws (.seq 15) [(.pageEn, 1), (.seqLanes, 1), (.seqDiv, 80), (.seqPrime, 1024), (.seqPolicy, 2), (.seqLast,
     4095)], 0, by decide +kernel⟩⟩

end Sys2Proof.Tests
end

section
/-! PROOF. No command touches the queue, the variant or the board profile (O4). `KeepsBuild m₀ m` is kept by every operation of the
model, one lemma per operation in the model's order; each proof follows the operation's body: a chain of updates is a chain of the
lemmas about them, `when`, `unless`, `fork` and `ite` stand for its conditions, `foldl` for its loops. -/

namespace Sys2Proof.Machine

/-- Between `m₀` and `m` the queue of commands, the variant fitted and the board profile in flash are untouched, and the counter
of free values has not fallen. -/
structure KeepsBuild (m₀ m : State) : Prop where
  pending : m.pending = m₀.pending
  variant : m.variant = m₀.variant
  profile : m.profile = m₀.profile
  freeCtr : m₀.freeCtr ≤ m.freeCtr

section
variable {m₀ m n : State}

theorem KeepsBuild.refl (m : State) : KeepsBuild m m := ⟨rfl, rfl, rfl, Nat.le_refl _⟩

theorem KeepsBuild.trans (h : KeepsBuild m₀ m) (h' : KeepsBuild m n) : KeepsBuild m₀ n :=
  ⟨h'.pending.trans h.pending, h'.variant.trans h.variant, h'.profile.trans h.profile, Nat.le_trans h.freeCtr h'.freeCtr⟩

/-- The frame rule: an update of the other fields of the state, of which it may name any. -/
theorem KeepsBuild.frame (h : KeepsBuild m₀ m) {held pace straps chainEnd regs lat lanes locks ctxs engOps seqs segTab acqs substs
      tiles flight tscap arc written poison latent fns cqs rqs dmas hostMem msix cals catalogue nv faultLog pfRecs wl cur} :
    KeepsBuild m₀ { m with
      held := held, pace := pace, straps := straps, chainEnd := chainEnd, regs := regs, lat := lat, lanes := lanes,
      locks := locks, ctxs := ctxs, engOps := engOps, seqs := seqs, segTab := segTab, acqs := acqs, substs := substs,
      tiles := tiles, flight := flight, tscap := tscap, arc := arc, written := written, poison := poison, latent := latent,
      fns := fns, cqs := cqs, rqs := rqs, dmas := dmas, hostMem := hostMem, msix := msix, cals := cals,
      catalogue := catalogue, nv := nv, faultLog := faultLog, pfRecs := pfRecs, wl := wl, cur := cur } :=
  ⟨h.pending, h.variant, h.profile, h.freeCtr⟩

theorem KeepsBuild.drawn (h : KeepsBuild m₀ m) : KeepsBuild m₀ m.drawn :=
  h.trans ⟨rfl, rfl, rfl, Nat.le_succ _⟩

theorem KeepsBuild.ite {c : Prop} [Decidable c] (hm : KeepsBuild m₀ m) (hn : KeepsBuild m₀ n) :
    KeepsBuild m₀ (if c then m else n) := by
  split
  · exact hm
  · exact hn

theorem KeepsBuild.when {c : Prop} [Decidable c] (h : KeepsBuild m₀ m) (hn : KeepsBuild m₀ m → KeepsBuild m₀ n) :
    KeepsBuild m₀ (if c then n else m) := .ite (hn h) h

theorem KeepsBuild.unless {c : Prop} [Decidable c] (h : KeepsBuild m₀ m) (hn : KeepsBuild m₀ m → KeepsBuild m₀ n) :
    KeepsBuild m₀ (if c then m else n) := .ite h (hn h)

theorem KeepsBuild.fork {c : Prop} [Decidable c] {n' : State} (h : KeepsBuild m₀ m) (hn : KeepsBuild m₀ m → KeepsBuild m₀ n)
    (hn' : KeepsBuild m₀ m → KeepsBuild m₀ n') : KeepsBuild m₀ (if c then n else n') := .ite (hn h) (hn' h)

theorem KeepsBuild.foldl {α : Type} {f : State → α → State} {l : List α} (h : KeepsBuild m₀ m)
    (hf : ∀ m x, KeepsBuild m₀ m → KeepsBuild m₀ (f m x)) : KeepsBuild m₀ (l.foldl f m) :=
  foldl_preserves f (KeepsBuild m₀) hf l m h

theorem KeepsBuild.of_fst {α : Type} {x : State × α} {a : α} (h : KeepsBuild m₀ x.1) (hx : x = (n, a)) : KeepsBuild m₀ n := by
  subst hx
  exact h

theorem KeepsBuild.fst_mk {α : Type} {a : α} (h : KeepsBuild m₀ m) : KeepsBuild m₀ (m, a).1 := h

theorem KeepsBuild.fst_ite {α : Type} {c : Prop} [Decidable c] {x y : State × α} (hx : KeepsBuild m₀ x.1)
    (hy : KeepsBuild m₀ y.1) : KeepsBuild m₀ (if c then x else y).1 := by
  split
  · exact hx
  · exact hy

/-! The operations of `Machine/Ops.lean`. -/

theorem KeepsBuild.w (h : KeepsBuild m₀ m) {p : Page} {f : Fld} {v : Nat} : KeepsBuild m₀ (m.w p f v) := h.frame

theorem KeepsBuild.ws (h : KeepsBuild m₀ m) {p : Page} {l : List (Fld × Nat)} : KeepsBuild m₀ (m.ws p l) := by
  induction l generalizing m with
  | nil => exact h
  | cons x l ih => exact ih h.w

theorem KeepsBuild.inc (h : KeepsBuild m₀ m) {p : Page} {f : Fld} : KeepsBuild m₀ (m.inc p f) := h.w

theorem KeepsBuild.incBy (h : KeepsBuild m₀ m) {p : Page} {f : Fld} {n : Nat} : KeepsBuild m₀ (m.incBy p f n) := h.w

theorem KeepsBuild.incSat (h : KeepsBuild m₀ m) {p : Page} {f : Fld} : KeepsBuild m₀ (m.incSat p f) := h.w

theorem KeepsBuild.rstFld (h : KeepsBuild m₀ m) {p : Page} {f : Fld} : KeepsBuild m₀ (m.rstFld p f) := h.w

theorem KeepsBuild.latch (h : KeepsBuild m₀ m) {p : Page} {l : List Fld} : KeepsBuild m₀ (m.latch p l) := by
  induction l generalizing m with
  | nil => exact h
  | cons f l ih => exact ih h.frame

theorem KeepsBuild.rstPage (h : KeepsBuild m₀ m) {p : Page} : KeepsBuild m₀ (m.rstPage p) := h.frame

theorem KeepsBuild.setLane (h : KeepsBuild m₀ m) {t s : Nat} {d : LaneDyn} : KeepsBuild m₀ (m.setLane t s d) := h.frame

theorem KeepsBuild.modLane (h : KeepsBuild m₀ m) {t s : Nat} {f : LaneDyn → LaneDyn} :
    KeepsBuild m₀ (m.modLane t s f) := h.setLane

theorem KeepsBuild.setCtx (h : KeepsBuild m₀ m) {id : Nat} {c : Ctx} : KeepsBuild m₀ (m.setCtx id c) := h.frame

theorem KeepsBuild.modCtx (h : KeepsBuild m₀ m) {id : Nat} {f : Ctx → Ctx} : KeepsBuild m₀ (m.modCtx id f) := h.setCtx

theorem KeepsBuild.setSeq (h : KeepsBuild m₀ m) {t : Nat} {q : SeqDyn} : KeepsBuild m₀ (m.setSeq t q) := h.frame

theorem KeepsBuild.modSeq (h : KeepsBuild m₀ m) {t : Nat} {f : SeqDyn → SeqDyn} : KeepsBuild m₀ (m.modSeq t f) :=
  h.setSeq

theorem KeepsBuild.setAcq (h : KeepsBuild m₀ m) {t : Nat} {q : AcqDyn} : KeepsBuild m₀ (m.setAcq t q) := h.frame

theorem KeepsBuild.modAcq (h : KeepsBuild m₀ m) {t : Nat} {f : AcqDyn → AcqDyn} : KeepsBuild m₀ (m.modAcq t f) :=
  h.setAcq

theorem KeepsBuild.setSubst (h : KeepsBuild m₀ m) {t : Nat} {q : SubstDyn} : KeepsBuild m₀ (m.setSubst t q) := h.frame

theorem KeepsBuild.modSubst (h : KeepsBuild m₀ m) {t : Nat} {f : SubstDyn → SubstDyn} :
    KeepsBuild m₀ (m.modSubst t f) := h.setSubst

theorem KeepsBuild.setTile (h : KeepsBuild m₀ m) {t : Nat} {q : TileDyn} : KeepsBuild m₀ (m.setTile t q) := h.frame

theorem KeepsBuild.modTile (h : KeepsBuild m₀ m) {t : Nat} {f : TileDyn → TileDyn} :
    KeepsBuild m₀ (m.modTile t f) := h.setTile

theorem KeepsBuild.setFn (h : KeepsBuild m₀ m) {f : Nat} {q : FnDyn} : KeepsBuild m₀ (m.setFn f q) := h.frame

theorem KeepsBuild.setCq (h : KeepsBuild m₀ m) {f n : Nat} {q : CmdQ} : KeepsBuild m₀ (m.setCq f n q) := h.frame

theorem KeepsBuild.setRq (h : KeepsBuild m₀ m) {f n : Nat} {q : ResQ} : KeepsBuild m₀ (m.setRq f n q) := h.frame

theorem KeepsBuild.due (h : KeepsBuild m₀ m) {e : Nat} : KeepsBuild m₀ (m.due e) := h.frame

theorem KeepsBuild.setDom (h : KeepsBuild m₀ m) {n : Nat} {on : Bool} : KeepsBuild m₀ (m.setDom n on) := h.w

theorem KeepsBuild.setMsi (h : KeepsBuild m₀ m) {fn : Nat} {x : Msi} : KeepsBuild m₀ (m.setMsi fn x) := h.frame

theorem KeepsBuild.message (h : KeepsBuild m₀ m) {fn v : Nat} : KeepsBuild m₀ (m.message fn v) :=
  .ite h.setMsi (h.when (·.setMsi))

theorem KeepsBuild.sendPending (h : KeepsBuild m₀ m) {fn : Nat} : KeepsBuild m₀ (m.sendPending fn) :=
  h.setMsi.foldl fun _ _ h => h.message

theorem KeepsBuild.signal (h : KeepsBuild m₀ m) {before : State} {p : Page} :
    KeepsBuild m₀ (Machine.signal before m p) := h.foldl fun _ _ h => h.when (·.message)

theorem KeepsBuild.flag (h : KeepsBuild m₀ m) {p : Page} {f : Fld} : KeepsBuild m₀ (m.flag p f) := h.w.signal

theorem KeepsBuild.flagBits (h : KeepsBuild m₀ m) {p : Page} {f : Fld} {b : Nat} :
    KeepsBuild m₀ (m.flagBits p f b) := h.w.signal

theorem KeepsBuild.hwLive (h : KeepsBuild m₀ m) {p : Page} {l : List (Fld × Nat)} : KeepsBuild m₀ (m.hwLive p l) := by
  unfold State.hwLive
  dsimp only
  refine h.foldl fun _ _ h => ?_
  split
  · exact h.w.w
  · exact h.w

theorem KeepsBuild.ignore (h : KeepsBuild m₀ m) {fn : Nat} {p : Page} {off : Nat} :
    KeepsBuild m₀ (m.ignore fn p off) := h.when (·.w) |>.w.incSat.signal

theorem KeepsBuild.malformed (h : KeepsBuild m₀ m) {fn : Nat} {p : Page} {off : Nat} {wr : Bool} :
    KeepsBuild m₀ (m.malformed fn p off wr) := h.when (·.w.w) |>.w.incSat.signal

theorem KeepsBuild.alert (h : KeepsBuild m₀ m) {en : Bool} : KeepsBuild m₀ (m.alert en) := h.when (·.flag)

theorem KeepsBuild.logFault (h : KeepsBuild m₀ m) {t s code : Nat} {value : Int} :
    KeepsBuild m₀ (m.logFault t s code value) := h.frame

theorem KeepsBuild.aerLog (h : KeepsBuild m₀ m) {fn k : Nat} : KeepsBuild m₀ (m.aerLog fn k) := h.setFn

theorem KeepsBuild.barTouch (h : KeepsBuild m₀ m) {fn : Nat} : KeepsBuild m₀ (m.barTouch fn) := h.when (·.aerLog)

theorem KeepsBuild.hold (h : KeepsBuild m₀ m) {i : Instr} : KeepsBuild m₀ (m.hold i) := h.frame

/-! The operations of `Machine/LaneOps.lean`. -/

theorem KeepsBuild.loopAt (h : KeepsBuild m₀ m) {t pos : Nat} {ch : Option Nat} :
    KeepsBuild m₀ (m.loopAt t pos ch) := h.ws.flag

theorem KeepsBuild.fireProd (h : KeepsBuild m₀ m) {t pos e hop : Nat} {soft : Bool} {who : List Nat} :
    KeepsBuild m₀ (m.fireProd t pos e hop soft who) := h.unless fun h => .ite h.loopAt h.frame

theorem KeepsBuild.laneEvent (h : KeepsBuild m₀ m) {t s : Nat} {ev : LaneEv} {e hop : Nat} :
    KeepsBuild m₀ (m.laneEvent t s ev e hop) := h.when (·.fireProd) |>.when (·.fireProd)

theorem KeepsBuild.ctxEvent (h : KeepsBuild m₀ m) {t n e hop : Nat} : KeepsBuild m₀ (m.ctxEvent t n e hop) :=
  h.when (·.fireProd)

theorem KeepsBuild.fireChan (h : KeepsBuild m₀ m) {ch e hop : Nat} {fromWl : Option Nat} {who : List Nat} :
    KeepsBuild m₀ (m.fireChan ch e hop fromWl who) := h.frame

theorem KeepsBuild.activation (h : KeepsBuild m₀ m) {t c e : Nat} {f : State → State}
    (hf : ∀ n, KeepsBuild m₀ n → KeepsBuild m₀ (f n)) : KeepsBuild m₀ (m.activation t c e f) :=
  .ite h.inc.w (hf _ h.modTile)

theorem KeepsBuild.setSw (h : KeepsBuild m₀ m) {t s : Nat} {w : Sw} {e : Nat} : KeepsBuild m₀ (m.setSw t s w e) :=
  h.w.modLane

theorem KeepsBuild.reconv (h : KeepsBuild m₀ m) {t s : Nat} : KeepsBuild m₀ (m.reconv t s) := h.modLane

theorem KeepsBuild.govRefused (h : KeepsBuild m₀ m) {m' : State} {fn t s lim : Nat} :
    KeepsBuild m₀ (m.govRefused m' fn t s lim) := h.unless (·.inc.frame)

theorem KeepsBuild.overSettle (h : KeepsBuild m₀ m) : KeepsBuild m₀ m.overSettle := h.when (·.w)

theorem KeepsBuild.refuse (h : KeepsBuild m₀ m) {t s : Nat} {w : Why} : KeepsBuild m₀ (m.refuse t s w) := h.flag.w.inc

theorem KeepsBuild.refuseTile (h : KeepsBuild m₀ m) {t : Nat} {w : Why} : KeepsBuild m₀ (m.refuseTile t w) :=
  h.flag.w.inc

theorem KeepsBuild.admitTry (h : KeepsBuild m₀ m) {m' : State} (h' : KeepsBuild m₀ m') {fn t s : Nat} :
    KeepsBuild m₀ (m.admitTry m' fn t s).1 := by
  unfold State.admitTry
  split
  · exact h.refuse
  · split
    · exact h.govRefused.refuse
    · exact h'.overSettle

theorem KeepsBuild.unlock (h : KeepsBuild m₀ m) {t s : Nat} : KeepsBuild m₀ (m.unlock t s) := h.modLane

/-! The operations of `Machine/TripOps.lean`. -/

theorem KeepsBuild.followTap (h : KeepsBuild m₀ m) {t s : Nat} : KeepsBuild m₀ (m.followTap t s) := by
  unfold State.followTap
  exact h.modLane

theorem KeepsBuild.putDac (h : KeepsBuild m₀ m) {t s : Nat} {lv out : Int} : KeepsBuild m₀ (m.putDac t s lv out) :=
  h.foldl fun _ _ h => h.modLane

theorem KeepsBuild.driveOut (h : KeepsBuild m₀ m) {t s : Nat} {g : Fld → Nat} {lv x : Int} :
    KeepsBuild m₀ (m.driveOut t s g lv x) := h.putDac.when (·.flag)

theorem KeepsBuild.driveTo (h : KeepsBuild m₀ m) {t s : Nat} {g : Fld → Nat} {lv : Int} :
    KeepsBuild m₀ (m.driveTo t s g lv) := h.unless (·.driveOut)

theorem KeepsBuild.dacDrive (h : KeepsBuild m₀ m) {t s : Nat} : KeepsBuild m₀ (m.dacDrive t s) :=
  h.unless (·.driveOut.when (·.flag))

theorem KeepsBuild.endTrain (h : KeepsBuild m₀ m) {t s e : Nat} : KeepsBuild m₀ (m.endTrain t s e) :=
  h.when (·.w.modLane.laneEvent)

theorem KeepsBuild.pulseCut (h : KeepsBuild m₀ m) {t s e sub : Nat} : KeepsBuild m₀ (m.pulseCut t s e sub) := by
  unfold State.pulseCut
  dsimp only
  split
  · exact h.when (·.endTrain.modLane.dacDrive.flag)
  · exact h

theorem KeepsBuild.wmTrip (h : KeepsBuild m₀ m) {t s n e sub : Nat} : KeepsBuild m₀ (m.wmTrip t s n e sub) :=
  h.flag.modLane.laneEvent.when (·.modLane) |>.when (·.pulseCut)

theorem KeepsBuild.wmMove (h : KeepsBuild m₀ m) {t s n : Nat} {w : WmState} {e sub : Nat} :
    KeepsBuild m₀ (m.wmMove t s n w e sub) := h.w.modLane.fork (·.wmTrip) (·.when (·.modLane))

theorem KeepsBuild.wmEval (h : KeepsBuild m₀ m) {t s n tick e sub : Nat} :
    KeepsBuild m₀ (m.wmEval t s n tick e sub) := by
  unfold State.wmEval
  dsimp only
  split
  · exact h.when (·.wmMove)
  · exact h

theorem KeepsBuild.wmReset (h : KeepsBuild m₀ m) {t s n e : Nat} : KeepsBuild m₀ (m.wmReset t s n e) :=
  h.w.w.modLane.wmEval

/-! The operations of `Machine/SwitchOps.lean`. -/

theorem KeepsBuild.abortChk (h : KeepsBuild m₀ m) {t s e : Nat} : KeepsBuild m₀ (m.abortChk t s e) := by
  unfold State.abortChk
  dsimp only
  split
  · exact h.w.w.flag.when (·.modSubst) |>.modLane.wmReset
  · exact h

theorem KeepsBuild.resetPage (h : KeepsBuild m₀ m) {p : Page} {skip : Option Nat} :
    KeepsBuild m₀ (m.resetPage p skip) := by
  unfold State.resetPage
  exact h.rstPage.foldl fun _ _ h => h.ws.flag

theorem KeepsBuild.resetLanePage (h : KeepsBuild m₀ m) {t s e : Nat} {skip : Option Nat} :
    KeepsBuild m₀ (m.resetLanePage t s e skip) := h.resetPage.ws.setLane.wmReset.wmReset

theorem KeepsBuild.arrive (h : KeepsBuild m₀ m) {t s e : Nat} : KeepsBuild m₀ (m.arrive t s e) := by
  unfold State.arrive
  dsimp only
  refine .overSettle (.when ?_ (·.resetLanePage))
  split
  · exact h.abortChk.endTrain.setSw.modLane.unlock
  · exact h.abortChk.endTrain.setSw.modLane

theorem KeepsBuild.discOne (h : KeepsBuild m₀ m) {t s e : Nat} {cause : DcCause} :
    KeepsBuild m₀ (m.discOne t s e cause) := by
  unfold State.discOne
  dsimp only
  refine .ite (h.when (·.w) |>.modLane) ?_
  split
  · exact h.when (·.w) |>.arrive
  · exact h.when (·.w) |>.arrive
  · exact h.when (·.w) |>.modLane
  · exact h.when (·.w) |>.modLane
  · exact h.when (·.w) |>.abortChk.endTrain.setSw.modLane
  · exact h.when (·.w) |>.abortChk.endTrain.setSw.modLane
  · exact h.when (·.w) |>.abortChk.setSw.modLane
  · exact h.when (·.w) |>.abortChk.setSw.modLane
  · exact h.when (·.w) |>.when (·.arrive)
  · exact h.when (·.w)
  · exact h.when (·.w)

theorem KeepsBuild.discUnit (h : KeepsBuild m₀ m) {t s e : Nat} {cause : DcCause} :
    KeepsBuild m₀ (m.discUnit t s e cause) := h.foldl fun _ _ h => h.discOne

theorem KeepsBuild.faultOpen (h : KeepsBuild m₀ m) {t s e : Nat} : KeepsBuild m₀ (m.faultOpen t s e) :=
  h.endTrain.setSw.modLane

theorem KeepsBuild.drvPark (h : KeepsBuild m₀ m) {t s : Nat} : KeepsBuild m₀ (m.drvPark t s) := by
  unfold State.drvPark
  exact h.modLane

theorem KeepsBuild.toPinStart (h : KeepsBuild m₀ m) {t s e : Nat} : KeepsBuild m₀ (m.toPinStart t s e) :=
  h.endTrain.drvPark.setSw.modLane.driveTo

theorem KeepsBuild.toSmuStart (h : KeepsBuild m₀ m) {t s e : Nat} : KeepsBuild m₀ (m.toSmuStart t s e) :=
  h.drvPark.setSw.modLane.driveTo

theorem KeepsBuild.ddsOff (h : KeepsBuild m₀ m) {t s : Nat} : KeepsBuild m₀ (m.ddsOff t s) := h.modLane.driveTo

/-! The operations of `Machine/Outcomes.lean`. -/

theorem KeepsBuild.complete (h : KeepsBuild m₀ m) {fn q rq : Nat} {p : Packet} :
    KeepsBuild m₀ (m.complete fn q rq p) := .ite h.flag h.setCq

theorem KeepsBuild.doneEvent (h : KeepsBuild m₀ m) {off : Nat} : KeepsBuild m₀ (m.doneEvent off) := h.when (·.fireChan)

theorem KeepsBuild.svcDone (h : KeepsBuild m₀ m) {r : SvcReq} {code : Nat} : KeepsBuild m₀ (m.svcDone r code) :=
  h.unless (·.frame.doneEvent)

theorem KeepsBuild.modCal (h : KeepsBuild m₀ m) {id : Nat} {f : CalRun → CalRun} : KeepsBuild m₀ (m.modCal id f) :=
  h.frame

theorem KeepsBuild.calOutcome (h : KeepsBuild m₀ m) {run t s code : Nat} :
    KeepsBuild m₀ (m.calOutcome run t s code) := by
  unfold State.calOutcome
  dsimp only
  split
  · exact h.unless (·.modCal.frame.when (·.flag))
  · exact h

theorem KeepsBuild.calUnwait (h : KeepsBuild m₀ m) {run t s : Nat} : KeepsBuild m₀ (m.calUnwait run t s) :=
  h.modTile.unless (·.frame.w)

theorem KeepsBuild.calLeave (h : KeepsBuild m₀ m) {t : Nat} : KeepsBuild m₀ (m.calLeave t) := by
  unfold State.calLeave
  dsimp only
  split
  · refine .ite (h.modTile.modLane.when (·.w)) ?_
    split
    · exact h.modTile.modLane.when (·.modSubst)
    · exact h.modTile.modLane
  · exact h

theorem KeepsBuild.calCut (h : KeepsBuild m₀ m) {t s code : Nat} : KeepsBuild m₀ (m.calCut t s code) := by
  unfold State.calCut
  split
  · exact h.when (·.calOutcome.calLeave.modLane)
  · exact h

theorem KeepsBuild.xferLog (h : KeepsBuild m₀ m) {t : Nat} {x : Xfer} {outcome reason e : Nat} :
    KeepsBuild m₀ (m.xferLog t x outcome reason e) := h.modSubst

theorem KeepsBuild.xferAbort (h : KeepsBuild m₀ m) {t reason status e : Nat} :
    KeepsBuild m₀ (m.xferAbort t reason status e) := by
  unfold State.xferAbort
  dsimp only
  split
  · exact h
  · refine .ite h.inc (.when ?_ (·.calCut))
    split
    · exact h.w.w.inc.xferLog.modSubst.svcDone
    · exact h.w.w.inc.xferLog.modSubst

/-! The operations of `Machine/RunOps.lean`. -/

theorem KeepsBuild.spill (h : KeepsBuild m₀ m) {id : Nat} : KeepsBuild m₀ (m.spill id) := h.setCtx

theorem KeepsBuild.payOwed (h : KeepsBuild m₀ m) {key : Nat} : KeepsBuild m₀ (m.payOwed key) := by
  unfold State.payOwed
  dsimp only
  split
  · exact h.modCtx
  · split
    · exact h.setRq
    · exact h

theorem KeepsBuild.reclaimFires (h : KeepsBuild m₀ m) {id : Nat} : KeepsBuild m₀ (m.reclaimFires id) := h.setCtx

theorem KeepsBuild.noteSlips (h : KeepsBuild m₀ m) {id : Nat} : KeepsBuild m₀ (m.noteSlips id) := by
  unfold State.noteSlips
  exact h.setCtx.modLane

theorem KeepsBuild.limitAction (h : KeepsBuild m₀ m) {id : Nat} {cfg : StepCfg} :
    KeepsBuild m₀ (m.limitAction id cfg) := by
  unfold State.limitAction
  dsimp only
  split
  · refine .ite ?_ h
    split
    · exact h.when (·.noteSlips) |>.modCtx.modLane
    · exact h.noteSlips.reclaimFires.modCtx.modLane
    · exact .ite h.ctxEvent h.setCtx
    · exact h
  · exact h

theorem KeepsBuild.readResult (h : KeepsBuild m₀ m) {id : Nat} : KeepsBuild m₀ (m.readResult id) := by
  unfold State.readResult
  dsimp only
  split
  · exact h
  · exact h.setLane.setCtx.when (·.limitAction)

theorem KeepsBuild.readAll (h : KeepsBuild m₀ m) {id k : Nat} : KeepsBuild m₀ (m.readAll id k) := by
  induction k generalizing m with
  | zero => exact h
  | succ k ih => exact ih h.readResult

theorem KeepsBuild.noteOffline (h : KeepsBuild m₀ m) {t : Nat} : KeepsBuild m₀ (m.noteOffline t) := h.when (·.setTile)

theorem KeepsBuild.freeEngine (h : KeepsBuild m₀ m) {t : Nat} {k : Option Nat} : KeepsBuild m₀ (m.freeEngine t k) := by
  unfold State.freeEngine
  split
  · exact h.ws.noteOffline
  · exact h

theorem KeepsBuild.engOp (h : KeepsBuild m₀ m) {t : Nat} {k : Option Nat} {most : Nat} :
    KeepsBuild m₀ (m.engOp t k most) := by
  unfold State.engOp
  dsimp only
  split
  · exact h.drawn.frame
  · exact h

theorem KeepsBuild.restoreDac (h : KeepsBuild m₀ m) {c : Ctx} : KeepsBuild m₀ (m.restoreDac c) :=
  h.hwLive.unless (·.hwLive)

theorem KeepsBuild.stopLane (h : KeepsBuild m₀ m) {t s e : Nat} : KeepsBuild m₀ (m.stopLane t s e) := by
  unfold State.stopLane
  exact h.endTrain.modLane

theorem KeepsBuild.closeStep (h : KeepsBuild m₀ m) {t s e : Nat} : KeepsBuild m₀ (m.closeStep t s e) := by
  unfold State.closeStep
  dsimp only
  split
  · refine .ite ?_ h
    split
    · exact h.setLane.modCtx
    · exact h.setLane
  · exact h

theorem KeepsBuild.closeEnded (h : KeepsBuild m₀ m) {t s e : Nat} : KeepsBuild m₀ (m.closeEnded t s e) := h.closeStep

theorem KeepsBuild.unlockAll (h : KeepsBuild m₀ m) {t : Nat} {ss : List Nat} {o : Owner} :
    KeepsBuild m₀ (m.unlockAll t ss o) := h.foldl (fun _ _ h => h.when (·.unlock)) |>.frame

theorem KeepsBuild.finishRun (h : KeepsBuild m₀ m) {id outcome reason refuse endTick : Nat} :
    KeepsBuild m₀ (m.finishRun id outcome reason refuse endTick) := by
  unfold State.finishRun
  exact h.foldl (fun _ _ h => h.ctxEvent) |>.freeEngine.setCtx.spill.modCtx

theorem KeepsBuild.lockEnds (h : KeepsBuild m₀ m) {t id : Nat} : KeepsBuild m₀ (m.lockEnds t id) :=
  h.foldl fun _ _ h => h.when (·.modLane)

theorem KeepsBuild.completeRun (h : KeepsBuild m₀ m) {id z : Nat} : KeepsBuild m₀ (m.completeRun id z) :=
  h.closeStep.readAll.noteSlips.stopLane.restoreDac.unlockAll.finishRun

theorem KeepsBuild.abortLate (h : KeepsBuild m₀ m) {id : Nat} : KeepsBuild m₀ (m.abortLate id) := h.inc.unless (·.inc)

theorem KeepsBuild.abortRun (h : KeepsBuild m₀ m) {id reason refuse e hop : Nat} :
    KeepsBuild m₀ (m.abortRun id reason refuse e hop) :=
  .ite h.abortLate <|
    .ite h.completeRun.abortLate
    (h.when (·.closeEnded) |>.when (·.readAll.noteSlips.reclaimFires.stopLane) |>.when (·.restoreDac) |>.ctxEvent.when
       (·.discUnit.lockEnds)
     |>.unlockAll.finishRun)

theorem KeepsBuild.pinCut (h : KeepsBuild m₀ m) {t e : Nat} : KeepsBuild m₀ (m.pinCut t e) :=
  h.unless (·.foldl fun _ _ h => h.unless (·.modLane))

theorem KeepsBuild.seqRelease (h : KeepsBuild m₀ m) {t : Nat} {undds : Bool} :
    KeepsBuild m₀ (m.seqRelease t undds) := by
  unfold State.seqRelease
  dsimp only
  refine h.foldl (fun _ _ h => .hwLive ?_) |>.unlockAll
  split
  · exact h.when (·.hwLive.ddsOff)
  · exact h.when (·.hwLive.ddsOff)
  · exact h.when (·.hwLive.ddsOff)
  · exact h.when (·.hwLive.ddsOff) |>.modLane

theorem KeepsBuild.seqFinish (h : KeepsBuild m₀ m) {t outcome reason refuse e hop : Nat} :
    KeepsBuild m₀ (m.seqFinish t outcome reason refuse e hop) := h.seqRelease.ws.modSeq.flag.fireProd

theorem KeepsBuild.abortSeq (h : KeepsBuild m₀ m) {t reason refuse e hop : Nat} :
    KeepsBuild m₀ (m.abortSeq t reason refuse e hop) := .ite h.pinCut.seqFinish (h.when (·.inc))

theorem KeepsBuild.abortOwner (h : KeepsBuild m₀ m) {t s rc rs e : Nat} :
    KeepsBuild m₀ (m.abortOwner t s rc rs e) := by
  unfold State.abortOwner
  split
  · exact h.abortRun
  · exact h.abortSeq
  · exact h.calCut
  · exact h.abortLate
  · exact h

theorem KeepsBuild.hostDisc (h : KeepsBuild m₀ m) {t s e : Nat} {cause : DcCause} :
    KeepsBuild m₀ (m.hostDisc t s e cause) := .ite (h.foldl (fun _ _ h => h.modLane)) h.abortOwner.discUnit

theorem KeepsBuild.actPend (h : KeepsBuild m₀ m) {t s e : Nat} : KeepsBuild m₀ (m.actPend t s e) := by
  unfold State.actPend
  split
  · exact h
  · extract_lets ld m₁ m₂
    have h₁ : KeepsBuild m₀ m₁ := h.foldl fun _ _ h => h.modLane
    have h₂ : KeepsBuild m₀ m₂ := by
      dsimp only [m₂]
      split
      iterate 6 exact h₁.abortOwner
      exact h₁
    exact .ite h h₂.discUnit

theorem KeepsBuild.reportFault (h : KeepsBuild m₀ m) {t s code : Nat} {value : Int} {e : Nat} :
    KeepsBuild m₀ (m.reportFault t s code value e) := h.w.flag.inc.laneEvent.logFault.alert

theorem KeepsBuild.xferFault (h : KeepsBuild m₀ m) {t s e : Nat} : KeepsBuild m₀ (m.xferFault t s e) :=
  h.when (·.modSubst) |>.when (·.xferAbort)

theorem KeepsBuild.reportUnit (h : KeepsBuild m₀ m) {t s code : Nat} {value : Int} {e : Nat} :
    KeepsBuild m₀ (m.reportUnit t s code value e) := h.foldl fun _ _ h => .ite h.reportFault h.reportFault.drawn

theorem KeepsBuild.applyAct (h : KeepsBuild m₀ m) {t s e : Nat} {fault : Bool} :
    KeepsBuild m₀ (m.applyAct t s e fault) := by
  unfold State.applyAct
  dsimp only
  split
  · exact h.hwLive
  · exact .ite (h.abortOwner.fork (·.modLane) (·.discUnit)) h.hostDisc
  · exact h

theorem KeepsBuild.respond (h : KeepsBuild m₀ m) {t s code : Nat} {value : Int} {e : Nat} :
    KeepsBuild m₀ (m.respond t s code value e) := by
  unfold State.respond
  dsimp only
  split
  · exact h.foldl (fun _ _ h => h.calCut.actPend) |>.w.modLane.reportUnit
  · exact h.foldl (fun _ _ h => h.calCut.actPend) |>.reportUnit.applyAct
  · exact h.foldl (fun _ _ h => h.calCut.actPend) |>.reportUnit.applyAct
  · exact h.foldl (fun _ _ h => h.calCut.actPend) |>.w.modLane.reportFault
  · exact h.foldl (fun _ _ h => h.calCut.actPend) |>.abortOwner.foldl (fun _ _ h => h.faultOpen) |>.reportUnit

theorem KeepsBuild.declare (h : KeepsBuild m₀ m) {t s code : Nat} {value : Int} {e : Nat} :
    KeepsBuild m₀ (m.declare t s code value e) := by
  unfold State.declare
  dsimp only
  split
  · exact h.xferFault.fork (·.modSubst) (·.respond)
  · exact h.xferFault.respond

theorem KeepsBuild.tfoldLanes (h : KeepsBuild m₀ m) {t : Nat} {ss : List Nat} {e : Nat} {x : Int} :
    KeepsBuild m₀ (m.tfoldLanes t ss e x) := h.foldl fun _ _ h => h.declare

theorem KeepsBuild.tfoldSettle (h : KeepsBuild m₀ m) {t s e : Nat} : KeepsBuild m₀ (m.tfoldSettle t s e) :=
  h.when (·.tfoldLanes)

theorem KeepsBuild.toSmuGo (h : KeepsBuild m₀ m) {t s e : Nat} : KeepsBuild m₀ (m.toSmuGo t s e) :=
  h.toSmuStart.tfoldSettle

/-! The operations of `Machine/RegOps.lean`. -/

theorem KeepsBuild.writeField (h : KeepsBuild m₀ m) {p : Page} {w : Word} {f : Fld} :
    KeepsBuild m₀ (m.writeField p w f) := by
  unfold State.writeField
  split
  · exact h.w
  · exact h.w
  · exact h.w
  · exact h.when (·.w)
  · exact h
  · exact h
  · exact h

theorem KeepsBuild.classWrite (h : KeepsBuild m₀ m) {fn : Nat} {p : Page} {off : Nat} {w : Word} :
    KeepsBuild m₀ (m.classWrite fn p off w) := by
  unfold State.classWrite
  dsimp only
  refine .when ?_ (·.ignore)
  split
  · exact h.foldl (fun _ _ h => h.writeField) |>.w
  · exact h.foldl fun _ _ h => h.writeField

/-! The operations of `Machine/LaneRegs.lean`. -/

theorem KeepsBuild.preconnect (h : KeepsBuild m₀ m) {t s e : Nat} {dflt : Bool} :
    KeepsBuild m₀ (m.preconnect t s e dflt) := h.when (·.hwLive) |>.latch.setSw.modLane.driveTo.tfoldSettle

theorem KeepsBuild.connectTry (h : KeepsBuild m₀ m) {fn t s : Nat} {own : Bool} :
    KeepsBuild m₀ (m.connectTry fn t s own).1 := by
  unfold State.connectTry
  dsimp only
  split
  · exact h.refuse
  · split
    · exact h.refuse
    · split
      · exact h.refuse
      · exact h.admitTry (h.foldl fun _ _ h => h.preconnect)

theorem KeepsBuild.connectOp (h : KeepsBuild m₀ m) {fn t s : Nat} : KeepsBuild m₀ (m.connectOp fn t s) := h.connectTry

theorem KeepsBuild.disconnectOp (h : KeepsBuild m₀ m) {t s : Nat} : KeepsBuild m₀ (m.disconnectOp t s) :=
  .ite h.refuse <| .ite h.refuse h.hostDisc

theorem KeepsBuild.pulseGo (h : KeepsBuild m₀ m) {t s e hop : Nat} : KeepsBuild m₀ (m.pulseGo t s e hop) := h.modLane

theorem KeepsBuild.pulseStop (h : KeepsBuild m₀ m) {t s : Nat} : KeepsBuild m₀ (m.pulseStop t s) := by
  unfold State.pulseStop
  split
  · exact .ite h.w.modLane h.endTrain
  · exact h

theorem KeepsBuild.fclrOp (h : KeepsBuild m₀ m) {t s : Nat} : KeepsBuild m₀ (m.fclrOp t s) := h.when (·.w.modLane)

theorem KeepsBuild.wmchkGo (h : KeepsBuild m₀ m) {t s n : Nat} : KeepsBuild m₀ (m.wmchkGo t s n) := h.w.modLane

theorem KeepsBuild.laneRstOp (h : KeepsBuild m₀ m) {t s : Nat} : KeepsBuild m₀ (m.laneRstOp t s) :=
  .ite h.refuse (h.unless (·.w.modLane.when (·.xferAbort) |>.when (·.calCut) |>.hostDisc))

theorem KeepsBuild.tripClearOp (h : KeepsBuild m₀ m) {t s n : Nat} : KeepsBuild m₀ (m.tripClearOp t s n) :=
  .ite (h.when (·.w)) h.w.modLane

theorem KeepsBuild.tripWrite (h : KeepsBuild m₀ m) {t s : Nat} {w : Word} : KeepsBuild m₀ (m.tripWrite t s w) := by
  unfold State.tripWrite
  exact h.when (·.tripClearOp) |>.when (·.tripClearOp) |>.classWrite

theorem KeepsBuild.laneAfter (h : KeepsBuild m₀ m) {t s off : Nat} : KeepsBuild m₀ (m.laneAfter t s off) :=
  h.when (·.toSmuGo)

theorem KeepsBuild.laneTry (h : KeepsBuild m₀ m) {fn t s off : Nat} {w : Word} {own : Bool} :
    KeepsBuild m₀ (m.laneTry fn t s off w own).1 := by
  unfold State.laneTry
  split
  · exact h.refuse
  · extract_lets p store
    have hstore : ∀ n, KeepsBuild m₀ n → KeepsBuild m₀ (store n) := by
      intro n h
      dsimp only [store]
      split
      · exact h.classWrite.when (·.w)
      · exact h.classWrite
    refine .fst_ite ?_ ?_
    · exact (hstore _ (.ite h.discUnit h.hostDisc)).foldl (fun _ _ h => h.when (·.modLane)) |>.overSettle
    · split
      · exact h.admitTry (hstore _ h)
      · exact (h.admitTry (hstore _ h)).laneAfter

theorem KeepsBuild.laneStore (h : KeepsBuild m₀ m) {fn t s off : Nat} {w : Word} :
    KeepsBuild m₀ (m.laneStore fn t s off w) := h.laneTry

theorem KeepsBuild.laneWrite (h : KeepsBuild m₀ m) {fn t s off : Nat} {w : Word} :
    KeepsBuild m₀ (m.laneWrite fn t s off w) := by
  unfold State.laneWrite
  dsimp only
  refine .ite h.refuse ?_
  split
  · exact .ite h.connectOp (h.when (·.disconnectOp))
  · split
    · exact h.refuse
    · exact h.classWrite.fork (·.w.pulseGo) (·.when fun h => .ite h.ignore h.pulseStop)
  · split
    · exact h.refuse
    · exact h.classWrite.when fun h => .ite h.ignore h.fclrOp
  · refine .ite ?_ h.classWrite
    split
    · exact h.refuse
    · exact h.classWrite.wmchkGo
  · exact h.when (·.laneRstOp)
  · exact h.tripWrite
  · exact h.laneStore

/-! The operations of `Machine/EngineOps.lean`. -/

theorem KeepsBuild.beginRange (h : KeepsBuild m₀ m) {t s e : Nat} : KeepsBuild m₀ (m.beginRange t s e) :=
  h.foldl fun _ _ h => h.modLane.wmEval.wmEval

theorem KeepsBuild.applyRange (h : KeepsBuild m₀ m) {t s ir e : Nat} : KeepsBuild m₀ (m.applyRange t s ir e) :=
  h.hwLive.latch.when (·.beginRange)

theorem KeepsBuild.raiseHold (h : KeepsBuild m₀ m) {t s : Nat} : KeepsBuild m₀ (m.raiseHold t s) := h.when (·.modLane)

theorem KeepsBuild.admitRange (h : KeepsBuild m₀ m) {t s ir e : Nat} : KeepsBuild m₀ (m.admitRange t s ir e).1 :=
  h.admitTry h.applyRange.raiseHold

theorem KeepsBuild.playRange (h : KeepsBuild m₀ m) {t s ir e : Nat} {strobe : Bool} :
    KeepsBuild m₀ (m.playRange t s ir e strobe).1 := by
  unfold State.playRange
  extract_lets d same
  refine .fst_ite h.refuse (.fst_ite h.modLane.fst_mk ?_)
  split
  · exact .fst_ite h.modLane.fst_mk h.admitRange
  · exact h.admitRange

theorem KeepsBuild.dry (h : KeepsBuild m₀ m) {t s e : Nat} : KeepsBuild m₀ (m.dry t s e) := by
  unfold State.dry
  dsimp only
  split
  · exact h.flag.inc.when (·.modLane)
  · exact h.flag.inc

theorem KeepsBuild.stepUpdate (h : KeepsBuild m₀ m) {id t s : Nat} {q : QEntry} {e : Nat} {refused : Bool} :
    KeepsBuild m₀ (m.stepUpdate id t s q e refused) := h.setLane.foldl (fun _ _ h => h.ctxEvent) |>.setCtx

theorem KeepsBuild.syncGroup (h : KeepsBuild m₀ m) {t s : Nat} : KeepsBuild m₀ (m.syncGroup t s) := by
  unfold State.syncGroup
  dsimp only
  split
  · exact h.when (·.hwLive.latch)
  · exact h

theorem KeepsBuild.playEntry (h : KeepsBuild m₀ m) {t s e : Nat} {strobe : Option Nat} :
    KeepsBuild m₀ (m.playEntry t s e strobe) := by
  unfold State.playEntry
  extract_lets p d
  split
  · exact h.dry
  · extract_lets q lvl m₁ m₂ r m₃ m₄
    have h₂ : KeepsBuild m₀ m₂ := h.hwLive.latch.modLane
    have h₄ : KeepsBuild m₀ m₄ := (KeepsBuild.fst_ite h₂.playRange h₂).when (·.laneEvent)
    split
    · exact .ite h₄.modCtx (h₄.when (·.hwLive.latch) |>.stepUpdate.syncGroup)
    · exact h₄

theorem KeepsBuild.openGrid (h : KeepsBuild m₀ m) {id u : Nat} : KeepsBuild m₀ (m.openGrid id u) := by
  unfold State.openGrid
  dsimp only
  split
  · exact h
  · exact (KeepsBuild.ite h.hwLive.latch <| .ite h.hwLive.latch h.hwLive.latch).modLane.setCtx

theorem KeepsBuild.closeGrid (h : KeepsBuild m₀ m) {id : Nat} : KeepsBuild m₀ (m.closeGrid id) := by
  unfold State.closeGrid
  exact h.setCtx.modLane

theorem KeepsBuild.fillQueue (h : KeepsBuild m₀ m) {id : Nat} : KeepsBuild m₀ (m.fillQueue id) := by
  unfold State.fillQueue
  dsimp only
  split
  · exact h
  · exact h.unless (·.engOp) |>.modLane.setCtx.fork (·.syncGroup) (·.unless (·.openGrid))

theorem KeepsBuild.withDescEst (h : KeepsBuild m₀ m) {t s : Nat} {g : Gen} : KeepsBuild m₀ (m.withDescEst t s g) :=
  h.foldl fun _ _ h => h.when (·.modLane)

theorem KeepsBuild.setEngine (h : KeepsBuild m₀ m) {id st : Nat} : KeepsBuild m₀ (m.setEngine id st) := by
  unfold State.setEngine
  dsimp only
  split
  · exact h.ws
  · exact h

theorem KeepsBuild.arm (h : KeepsBuild m₀ m) {id : Nat} : KeepsBuild m₀ (m.arm id) := by
  unfold State.arm
  dsimp only
  split
  · exact h.setCtx.setEngine
  · exact h

theorem KeepsBuild.resume (h : KeepsBuild m₀ m) {id u : Nat} : KeepsBuild m₀ (m.resume id u) := by
  unfold State.resume
  dsimp only
  split
  · exact h.setCtx.setEngine.modLane.openGrid
  · exact h.setCtx.setEngine.modLane.openGrid
  · exact h.setCtx
  · exact h

theorem KeepsBuild.afterWait (h : KeepsBuild m₀ m) {id e : Nat} : KeepsBuild m₀ (m.afterWait id e) := by
  unfold State.afterWait
  dsimp only
  split
  · exact h.resume.modLane
  · exact h.resume

theorem KeepsBuild.goDelivered (h : KeepsBuild m₀ m) {t ch hop e : Nat} :
    KeepsBuild m₀ (m.goDelivered t ch hop e) :=
  .ite (h.inc.unless (·.inc)) (h.foldl (fun _ _ h => h.abortRun) |>.foldl (fun _ _ h => h.resume))

theorem KeepsBuild.grant (h : KeepsBuild m₀ m) {q : LockReq} : KeepsBuild m₀ (m.grant q) :=
  h.frame.foldl fun _ _ h => h.modLane

theorem KeepsBuild.answer (h : KeepsBuild m₀ m) {fn status result : Nat} :
    KeepsBuild m₀ (m.answer fn status result) := h.setFn

/-! The operations of `Machine/Contexts.lean`. -/

theorem KeepsBuild.ctxOpenOp (h : KeepsBuild m₀ m) {fn : Nat} {p : CtxParams} : KeepsBuild m₀ (m.ctxOpenOp fn p) := by
  unfold State.ctxOpenOp
  dsimp only
  split
  · exact h.setCtx.answer
  · exact h.inc.unless (·.inc) |>.answer
  · exact h.answer

theorem KeepsBuild.ctxStartOp (h : KeepsBuild m₀ m) {fn id go : Nat} : KeepsBuild m₀ (m.ctxStartOp fn id go) :=
  .ite h.answer <| .ite h.answer <| .ite h.answer <| .ite h.answer h.setCtx.frame.answer

theorem KeepsBuild.ctxAbortOp (h : KeepsBuild m₀ m) {fn id : Nat} : KeepsBuild m₀ (m.ctxAbortOp fn id) :=
  .ite h.answer <| .ite h.answer h.abortRun.answer

theorem KeepsBuild.ctxCloseOp (h : KeepsBuild m₀ m) {fn id : Nat} : KeepsBuild m₀ (m.ctxCloseOp fn id) :=
  .ite h.answer <| .ite h.answer h.setRq.setCtx.answer

theorem KeepsBuild.ctxPrioOp (h : KeepsBuild m₀ m) {fn id prio : Nat} : KeepsBuild m₀ (m.ctxPrioOp fn id prio) :=
  .ite h.answer h.modCtx.answer

theorem KeepsBuild.lockGrantOp (h : KeepsBuild m₀ m) {t : Nat} : KeepsBuild m₀ (m.lockGrantOp t) := by
  unfold State.lockGrantOp
  dsimp only
  split
  · split
    · exact .ite h.grant.modLane.setCtx h.frame.ctxEvent.finishRun
    · exact h
  · exact h

theorem KeepsBuild.dispatchOp (h : KeepsBuild m₀ m) {t : Nat} : KeepsBuild m₀ (m.dispatchOp t) := by
  unfold State.dispatchOp
  dsimp only
  split
  · exact h.modTile.setCtx.setEngine.engOp
  · exact h

theorem KeepsBuild.waitEndOp (h : KeepsBuild m₀ m) {id : Nat} : KeepsBuild m₀ (m.waitEndOp id) := by
  unfold State.waitEndOp
  dsimp only
  split
  · split
    · exact h.when (·.due.afterWait)
    · exact h
  · exact h

theorem KeepsBuild.waitTimeoutOp (h : KeepsBuild m₀ m) {id : Nat} : KeepsBuild m₀ (m.waitTimeoutOp id) := by
  unfold State.waitTimeoutOp
  dsimp only
  split
  · split
    · exact h.when (·.due.fork (·.abortRun) (·.resume))
    · exact h
  · exact h

theorem KeepsBuild.runCompleteOp (h : KeepsBuild m₀ m) {id : Nat} : KeepsBuild m₀ (m.runCompleteOp id) := by
  unfold State.runCompleteOp
  dsimp only
  refine .ite ?_ h
  split
  · exact h.due.completeRun
  · exact h

/-! The operations of `Machine/ArcOps.lean`. -/

theorem KeepsBuild.poisonWord (h : KeepsBuild m₀ m) {w unit : Nat} : KeepsBuild m₀ (m.poisonWord w unit) :=
  h.unless (·.frame.inc.flag)

theorem KeepsBuild.eccAll (h : KeepsBuild m₀ m) {errs : EccErrs} {unit : Nat} {reads : Nat → Bool} :
    KeepsBuild m₀ (m.eccAll errs unit reads) := h.frame.foldl fun _ _ h => .ite h.poisonWord h.inc

theorem KeepsBuild.eccAt (h : KeepsBuild m₀ m) {a n : Nat} {errs : EccErrs} {unit : Nat} :
    KeepsBuild m₀ (m.eccAt a n errs unit) := h.eccAll

theorem KeepsBuild.useArc (h : KeepsBuild m₀ m) {fn n : Nat} : KeepsBuild m₀ (m.useArc fn n) := h.unless (·.frame)

theorem KeepsBuild.wantArc (h : KeepsBuild m₀ m) {fn : Nat} : KeepsBuild m₀ (m.wantArc fn) := h.frame

theorem KeepsBuild.postArc (h : KeepsBuild m₀ m) {fn n : Nat} : KeepsBuild m₀ (m.postArc fn n) :=
  h.useArc.unless (·.frame)

theorem KeepsBuild.arcPut (h : KeepsBuild m₀ m) {a : Nat} {bs : List Byte} : KeepsBuild m₀ (m.arcPut a bs) :=
  h.unless (·.frame)

theorem KeepsBuild.arcWrite (h : KeepsBuild m₀ m) {unit a : Nat} {bs : List Byte} :
    KeepsBuild m₀ (m.arcWrite unit a bs) := h.eccAll.arcPut

theorem KeepsBuild.arcClear (h : KeepsBuild m₀ m) {p n : Nat} : KeepsBuild m₀ (m.arcClear p n) := h.frame

theorem KeepsBuild.dropBusy (h : KeepsBuild m₀ m) {t c : Nat} : KeepsBuild m₀ (m.dropBusy t c) := h.inc.w

/-! The operations of `Machine/SeqOps.lean`. -/

theorem KeepsBuild.seqStartOp (h : KeepsBuild m₀ m) {t : Nat} : KeepsBuild m₀ (m.seqStartOp t) := by
  unfold State.seqStartOp
  dsimp only
  split
  · exact h.ws.setSeq.frame
  · exact h.w.when (·.w)

theorem KeepsBuild.enterPers (h : KeepsBuild m₀ m) {t s src b : Nat} : KeepsBuild m₀ (m.enterPers t s src b).1 := by
  unfold State.enterPers
  extract_lets p pin sel
  have hsel : ∀ n v, KeepsBuild m₀ n → KeepsBuild m₀ (sel n v) := fun _ _ h => h.hwLive.latch
  split
  · refine .fst_ite h ?_
    have hd : KeepsBuild m₀ (if (m.lane t s).dds then m.ddsOff t s else m) := h.when (·.ddsOff)
    exact .fst_ite (hsel _ _ hd).toPinStart.fst_mk hd
  · exact .fst_ite (hsel _ _ h).toSmuGo.fst_mk (.fst_ite h (.fst_ite h h))
  · exact .fst_ite (hsel _ _ h).toSmuGo.fst_mk (.fst_ite (hsel _ _ h.ddsOff) h)
  · exact h

theorem KeepsBuild.enterAll (h : KeepsBuild m₀ m) {t src b : Nat} {l : List Nat} :
    KeepsBuild m₀ (m.enterAll t src b l).1 := by
  induction l generalizing m with
  | nil => exact h
  | cons s l ih =>
    unfold State.enterAll
    split
    · next hx => exact h.enterPers.of_fst hx
    · next hx => exact ih (h.enterPers.of_fst hx)

theorem KeepsBuild.prefetchFrom (h : KeepsBuild m₀ m) {t n : Nat} : KeepsBuild m₀ (m.prefetchFrom t n) := by
  unfold State.prefetchFrom
  exact h.modSeq

theorem KeepsBuild.prefetchOne (h : KeepsBuild m₀ m) {t : Nat} : KeepsBuild m₀ (m.prefetchOne t) := by
  unfold State.prefetchOne
  dsimp only
  split
  · exact h
  · split
    · exact h.setSeq
    · exact h.setSeq
    · exact .ite h.setSeq h.setSeq

theorem KeepsBuild.fetchFed (h : KeepsBuild m₀ m) {t : Nat} {errs : EccErrs} : KeepsBuild m₀ (m.fetchFed t errs) := by
  unfold State.fetchFed
  dsimp only
  split
  · exact .ite h.prefetchOne <| .ite h.wantArc h.postArc.eccAt.prefetchOne
  · exact h.prefetchOne

theorem KeepsBuild.prefetch (h : KeepsBuild m₀ m) {t k : Nat} : KeepsBuild m₀ (m.prefetch t k) := by
  induction k generalizing m with
  | zero => exact h
  | succ k ih => exact ih h.fetchFed

theorem KeepsBuild.primeRead (h : KeepsBuild m₀ m) {t need : Nat} : KeepsBuild m₀ (m.primeRead t need).1 :=
  .fst_ite h.useArc.modSeq.wantArc.fst_mk h.useArc.modSeq.fst_mk

theorem KeepsBuild.underrun (h : KeepsBuild m₀ m) {t : Nat} {k : Nat × Nat × Nat} {e : Nat} :
    KeepsBuild m₀ (m.underrun t k e) := h.ws.inc.flag.modSeq.fireProd

theorem KeepsBuild.ddsLoad (h : KeepsBuild m₀ m) {t : Nat} : KeepsBuild m₀ (m.ddsLoad t) := by
  unfold State.ddsLoad
  exact h.foldl fun _ _ h => h.modLane

theorem KeepsBuild.startGran (h : KeepsBuild m₀ m) {t e : Nat} {k : Nat × Nat × Nat} :
    KeepsBuild m₀ (m.startGran t e k) := by
  unfold State.startGran
  dsimp only
  refine .ite (h.when (·.w) |>.abortSeq) ?_
  split
  · exact h.modSeq.unless (·.underrun)
  · exact h.modSeq

theorem KeepsBuild.startSeg (h : KeepsBuild m₀ m) {t n e : Nat} : KeepsBuild m₀ (m.startSeg t n e) :=
  h.when (·.fireProd) |>.foldl (fun _ _ h => h.latch.when (·.hwLive.latch) |>.modLane) |>.modSeq.when (·.ddsLoad)
    |>.startGran

theorem KeepsBuild.enterSeg (h : KeepsBuild m₀ m) {t n b : Nat} : KeepsBuild m₀ (m.enterSeg t n b) := by
  unfold State.enterSeg
  dsimp only
  split
  · next hx => exact (h.enterAll.of_fst hx).abortSeq
  · next hx => exact (h.enterAll.of_fst hx).w.modSeq.fork (·.modSeq) (·.startSeg)

theorem KeepsBuild.endAction (h : KeepsBuild m₀ m) {t : Nat} {e : Seg} {last : Bool} :
    KeepsBuild m₀ (m.endAction t e last).1 := by
  unfold State.endAction
  dsimp only
  split
  · exact h
  · split
    · exact h
    · split
      · exact h
      · exact h.w
      · exact h
      · exact h
      · exact h

theorem KeepsBuild.policy (h : KeepsBuild m₀ m) {t lk : Nat} {k : Nat × Nat × Nat} {nx : SeqNext} :
    KeepsBuild m₀ (m.policy t lk k nx).1 := by
  unfold State.policy
  split
  · exact h
  · exact h
  · exact h.prefetchFrom.modSeq.fst_mk

theorem KeepsBuild.lockIn (h : KeepsBuild m₀ m) {t : Nat} : KeepsBuild m₀ (m.lockIn t) := by
  unfold State.lockIn
  extract_lets q sg e last lk pred taken
  split
  next m₁ nx₁ h₁ =>
  have h₁ : KeepsBuild m₀ m₁ := by
    split at h₁
    · exact h.modSeq.fst_mk.of_fst h₁
    · exact h.endAction.of_fst h₁
  split
  next m₂ nx₂ h₂ =>
  refine .modSeq (.of_fst ?_ h₂)
  split
  · exact h₁
  · exact .fst_ite h₁.policy (.fst_ite (h₁.when (·.prefetchFrom.modSeq) |>.underrun.policy)
      (h₁.when (·.prefetchFrom.modSeq)).fst_mk)

theorem KeepsBuild.recordJump (h : KeepsBuild m₀ m) {t b : Nat} {late : Bool} :
    KeepsBuild m₀ (m.recordJump t b late) := by
  unfold State.recordJump
  exact h.ws.flag.modSeq

theorem KeepsBuild.seqAdvance (h : KeepsBuild m₀ m) {t b : Nat} {nx : SeqNext} :
    KeepsBuild m₀ (m.seqAdvance t b nx) := by
  unfold State.seqAdvance
  extract_lets q sg e out keep fresh m₁
  have hout : ∀ n, KeepsBuild m₀ n → KeepsBuild m₀ (out n) := fun _ h => h.when (·.fireProd)
  have h₁ : KeepsBuild m₀ m₁ := by
    dsimp only [m₁]
    split
    · exact h
    · exact h
    · exact h.when (·.w)
  split
  · exact h₁.modSeq.startGran
  · exact h₁.modSeq.startGran
  · exact (hout _ h₁).enterSeg
  · exact (hout _ h₁).recordJump.enterSeg
  · exact (hout _ h₁).enterSeg
  · exact (hout _ h₁).seqFinish
  · exact h₁.abortSeq
  · exact .ite (h₁.when (·.w) |>.abortSeq) h₁.modSeq

theorem KeepsBuild.seqBegin (h : KeepsBuild m₀ m) {t b : Nat} : KeepsBuild m₀ (m.seqBegin t b) :=
  h.fireProd.modSeq.enterSeg

theorem KeepsBuild.boundaryOp (h : KeepsBuild m₀ m) {t : Nat} {segEnd : Bool} :
    KeepsBuild m₀ (m.boundaryOp t segEnd) := by
  unfold State.boundaryOp
  dsimp only
  refine .ite h <| .ite (h.when (·.due.fork (·.abortSeq) (·.seqBegin))) ?_
  split
  · exact h.when (·.due.startSeg)
  · split
    · exact h.when (·.due.fork (·.abortSeq) (·.seqAdvance))
    · exact h

theorem KeepsBuild.holdResumeOp (h : KeepsBuild m₀ m) {t : Nat} : KeepsBuild m₀ (m.holdResumeOp t) := by
  unfold State.holdResumeOp
  dsimp only
  split
  · refine .ite h.due.w.modSeq.abortSeq ?_
    split
    · exact h.due.w.modSeq.prefetchFrom.modSeq.seqAdvance
    · exact h.due.w.modSeq.seqAdvance
  · exact h

theorem KeepsBuild.jumpRequest (h : KeepsBuild m₀ m) {t n : Nat} : KeepsBuild m₀ (m.jumpRequest t n) := by
  unfold State.jumpRequest
  exact h.when (·.inc) |>.modSeq

theorem KeepsBuild.seqJreqOp (h : KeepsBuild m₀ m) {t j : Nat} : KeepsBuild m₀ (m.seqJreqOp t j) :=
  .ite h.inc h.hwLive.jumpRequest

theorem KeepsBuild.seqGoOp (h : KeepsBuild m₀ m) {t e hop : Nat} : KeepsBuild m₀ (m.seqGoOp t e hop) :=
  .ite h.w.modSeq h.dropBusy

theorem KeepsBuild.seqAbortIn (h : KeepsBuild m₀ m) {t e hop : Nat} : KeepsBuild m₀ (m.seqAbortIn t e hop) :=
  .ite h.dropBusy h.abortSeq

theorem KeepsBuild.vectorLane (h : KeepsBuild m₀ m) {t s w c : Nat} {uv : Int} :
    KeepsBuild m₀ (m.vectorLane t s w c uv).1 := by
  unfold State.vectorLane
  dsimp only
  split
  · exact h
  · split
    · exact h.setLane.unless (·.incBy.flag) |>.unless (·.inc)
    · exact h.setLane.unless (·.incBy.flag)

theorem KeepsBuild.vectorLanes (h : KeepsBuild m₀ m) {t w c : Nat} {pins : List Int} {l : List Nat} :
    KeepsBuild m₀ (m.vectorLanes t w c pins l).1 := by
  induction l generalizing m with
  | nil => exact h
  | cons s l ih => exact ih h.vectorLane

theorem KeepsBuild.seqFails (h : KeepsBuild m₀ m) {t e sub fail : Nat} : KeepsBuild m₀ (m.seqFails t e sub fail) :=
  h.unless (·.flag.fireProd.modSeq)

/-! The operations of `Machine/AcqOps.lean`. -/

theorem KeepsBuild.acqReady (h : KeepsBuild m₀ m) {t e : Nat} : KeepsBuild m₀ (m.acqReady t e) := by
  unfold State.acqReady
  exact h.ws.modAcq

theorem KeepsBuild.acqArmOp (h : KeepsBuild m₀ m) {t : Nat} : KeepsBuild m₀ (m.acqArmOp t) := by
  unfold State.acqArmOp
  dsimp only
  split
  · exact h.ws.setAcq.fork (·.acqReady) (·.when (·.fireProd))
  · exact h.w

theorem KeepsBuild.acqArmInOp (h : KeepsBuild m₀ m) {t e : Nat} : KeepsBuild m₀ (m.acqArmInOp t e) :=
  .ite h.acqReady h.dropBusy

theorem KeepsBuild.capturePost (h : KeepsBuild m₀ m) {t : Nat} {f : Frame} : KeepsBuild m₀ (m.capturePost t f) := by
  unfold State.capturePost
  dsimp only
  split
  · exact h
  · exact h.modAcq.unless
      (·.when (·.inc) |>.fork (·.inc.modAcq) (·.modAcq.fork (·.modAcq) fun h => .ite h.inc.modAcq h.modAcq))

theorem KeepsBuild.captureFrame (h : KeepsBuild m₀ m) {t : Nat} {f : Frame} : KeepsBuild m₀ (m.captureFrame t f) := by
  unfold State.captureFrame
  dsimp only
  split
  · exact h.modAcq.when (·.w)
  · exact h.unless fun h => .ite h.modAcq h.capturePost

theorem KeepsBuild.acqMissed (h : KeepsBuild m₀ m) {t : Nat} : KeepsBuild m₀ (m.acqMissed t) := h.inc.modAcq

theorem KeepsBuild.deliveryMissed (h : KeepsBuild m₀ m) {t e : Nat} : KeepsBuild m₀ (m.deliveryMissed t e) :=
  h.unless (·.acqMissed)

theorem KeepsBuild.noteTrig (h : KeepsBuild m₀ m) {t e : Nat} : KeepsBuild m₀ (m.noteTrig t e) := h.modAcq

theorem KeepsBuild.openRecord (h : KeepsBuild m₀ m) {t e trig sub source hop frac : Nat} {firer : Bool} :
    KeepsBuild m₀ (m.openRecord t e trig sub source hop frac firer) :=
  .ite h.acqMissed (h.w.setAcq.when (·.postArc.arcWrite) |>.fireProd.foldl (fun _ _ h => h.captureFrame))

theorem KeepsBuild.acqTrigger (h : KeepsBuild m₀ m) {t e c trig sub source hop frac : Nat} :
    KeepsBuild m₀ (m.acqTrigger t e c trig sub source hop frac) :=
  .ite h.acqMissed (h.when (fun h => .ite h.openRecord h.fireProd.modAcq))

theorem KeepsBuild.acqSoftTrig (h : KeepsBuild m₀ m) {t : Nat} : KeepsBuild m₀ (m.acqSoftTrig t) :=
  h.when (·.acqTrigger)

theorem KeepsBuild.acqTrigInOp (h : KeepsBuild m₀ m) {t e hop : Nat} : KeepsBuild m₀ (m.acqTrigInOp t e hop) :=
  .ite h.dropBusy <| .ite h.deliveryMissed.noteTrig (h.when (·.noteTrig.acqTrigger))

theorem KeepsBuild.acqFireInOp (h : KeepsBuild m₀ m) {t e hop : Nat} {own : Bool} :
    KeepsBuild m₀ (m.acqFireInOp t e hop own) :=
  .ite h.dropBusy <| .ite h.deliveryMissed.noteTrig (h.unless (·.noteTrig.openRecord))

theorem KeepsBuild.acqLevel (h : KeepsBuild m₀ m) {t e w : Nat} : KeepsBuild m₀ (m.acqLevel t e w) :=
  h.unless (·.setAcq.when (·.w) |>.when (·.acqTrigger))

theorem KeepsBuild.acqSample (h : KeepsBuild m₀ m) {t s : Nat} {isI : Bool} {raw : Int} {fs : Nat} {ranging compl stale : Bool} {e : Nat} :
    KeepsBuild m₀ (m.acqSample t s isI raw fs ranging compl stale e) := by
  unfold State.acqSample
  exact h.when (·.setAcq)

theorem KeepsBuild.drain (h : KeepsBuild m₀ m) {t n e : Nat} : KeepsBuild m₀ (m.drain t n e) := by
  unfold State.drain
  exact h.useArc.when (·.wantArc) |>.modAcq

theorem KeepsBuild.acqFrameOp (h : KeepsBuild m₀ m) {t drained : Nat} : KeepsBuild m₀ (m.acqFrameOp t drained) :=
  h.unless (·.due.drain.modAcq.unless (·.captureFrame) |>.acqLevel)

theorem KeepsBuild.compareFrame (h : KeepsBuild m₀ m) {t c per ts fail strobed e sub drained : Nat} :
    KeepsBuild m₀ (m.compareFrame t c per ts fail strobed e sub drained) :=
  h.unless (·.drain.when (·.captureFrame) |>.when (·.acqTrigger))

theorem KeepsBuild.rateCheck (h : KeepsBuild m₀ m) {t drained : Nat} : KeepsBuild m₀ (m.rateCheck t drained) := by
  unfold State.rateCheck
  dsimp only
  split
  · exact h.unless (·.due.drain.when (·.fireProd) |>.modAcq)
  · exact h

theorem KeepsBuild.abortAcq (h : KeepsBuild m₀ m) {t reason e hop : Nat} :
    KeepsBuild m₀ (m.abortAcq t reason e hop) := .ite h.drawn.ws.setAcq.frame.flag.fireProd (h.when (·.inc))

theorem KeepsBuild.acqAbortIn (h : KeepsBuild m₀ m) {t e hop : Nat} : KeepsBuild m₀ (m.acqAbortIn t e hop) :=
  .ite h.dropBusy h.abortAcq

theorem KeepsBuild.recordEndOp (h : KeepsBuild m₀ m) {t : Nat} : KeepsBuild m₀ (m.recordEndOp t) := by
  unfold State.recordEndOp
  dsimp only
  split
  · exact h.when (·.due.setAcq.fork (·.ws) (·.w))
  · exact h

theorem KeepsBuild.rearmOp (h : KeepsBuild m₀ m) {t : Nat} : KeepsBuild m₀ (m.rearmOp t) := h.when (·.due.acqReady)

theorem KeepsBuild.recordCommitOp (h : KeepsBuild m₀ m) {t : Nat} : KeepsBuild m₀ (m.recordCommitOp t) := by
  unfold State.recordCommitOp
  dsimp only
  split
  · exact h.unless
      (·.unless (·.due) |>.useArc.fork (·.setAcq.wantArc)
         (·.arcWrite.arcPut.setAcq.unless (·.inc) |>.unless (·.w) |>.fireProd.when (·.flag.fireProd)))
  · exact h

/-! The operations of `Machine/Sequencer.lean`. -/

theorem KeepsBuild.seqAbortHost (h : KeepsBuild m₀ m) {t : Nat} : KeepsBuild m₀ (m.seqAbortHost t) := h.abortSeq

theorem KeepsBuild.seqGrantLanes (h : KeepsBuild m₀ m) {t : Nat} {srcs l : List Nat} :
    KeepsBuild m₀ (m.seqGrantLanes t srcs l).1 := by
  induction l generalizing m with
  | nil => exact h
  | cons s l ih =>
    unfold State.seqGrantLanes
    split
    · exact h
    · dsimp only
      split
      · exact h.govRefused
      · exact ih h.modLane.overSettle

theorem KeepsBuild.seqLockGrantOp (h : KeepsBuild m₀ m) {t : Nat} : KeepsBuild m₀ (m.seqLockGrantOp t) := by
  unfold State.seqLockGrantOp
  split
  · dsimp only
    split
    · next hx =>
      refine (KeepsBuild.foldl (h.grant.seqGrantLanes.of_fst hx) fun _ _ h => ?_).abortSeq
      split
      · exact h.modLane
      · exact h.modLane
      · exact h
    · next hx => exact (h.grant.seqGrantLanes.of_fst hx).foldl (fun _ _ h => h.hwLive) |>.w.modSeq
  · exact h

theorem KeepsBuild.headersOp (h : KeepsBuild m₀ m) {t : Nat} : KeepsBuild m₀ (m.headersOp t) := by
  unfold State.headersOp
  dsimp only
  refine .ite h ?_
  split
  · exact .ite h.abortSeq h.w.abortSeq
  · exact .ite h.abortSeq h.modSeq

theorem KeepsBuild.headersRead (h : KeepsBuild m₀ m) {t : Nat} {errs : EccErrs} :
    KeepsBuild m₀ (m.headersRead t errs) := by
  unfold State.headersRead
  refine .ite ?_ h
  split
  · next hx => exact (h.primeRead.of_fst hx).eccAll.headersOp
  · next hx => exact h.primeRead.of_fst hx

theorem KeepsBuild.stageAll (h : KeepsBuild m₀ m) {t : Nat} : KeepsBuild m₀ (m.stageAll t) :=
  h.foldl fun _ _ h => .ite h.modSeq (h.foldl (fun _ _ h => h.modSeq))

theorem KeepsBuild.stagingOp (h : KeepsBuild m₀ m) {t : Nat} : KeepsBuild m₀ (m.stagingOp t) := by
  unfold State.stagingOp
  dsimp only
  refine .ite h ?_
  split
  · exact h.when (·.w) |>.abortSeq
  · split
    · exact h.unless (·.stageAll.prefetchFrom.modSeq) |>.prefetch.w.abortSeq
    · exact h.unless (·.stageAll.prefetchFrom.modSeq) |>.prefetch.unless fun h => .ite h.w h.w.modSeq

theorem KeepsBuild.stagingRead (h : KeepsBuild m₀ m) {t : Nat} {errs : EccErrs} :
    KeepsBuild m₀ (m.stagingRead t errs) := by
  unfold State.stagingRead
  refine .ite ?_ h
  split
  · next hx => exact (h.primeRead.of_fst hx).eccAll.stagingOp
  · next hx => exact h.primeRead.of_fst hx

theorem KeepsBuild.lockInOp (h : KeepsBuild m₀ m) {t : Nat} : KeepsBuild m₀ (m.lockInOp t) := h.when (·.due.lockIn)

theorem KeepsBuild.seqJumpWrite (h : KeepsBuild m₀ m) {t target : Nat} : KeepsBuild m₀ (m.seqJumpWrite t target) :=
  .ite h.flag (h.ws.fork (·.inc) (·.jumpRequest))

theorem KeepsBuild.vectorOp (h : KeepsBuild m₀ m) {t : Nat} {pins : List Int} {drained : Nat} :
    KeepsBuild m₀ (m.vectorOp t pins drained) := h.unless (·.due.vectorLanes.seqFails.compareFrame.modSeq)

theorem KeepsBuild.listStepOp (h : KeepsBuild m₀ m) {t : Nat} : KeepsBuild m₀ (m.listStepOp t) := by
  unfold State.listStepOp
  exact h.when (·.due.setSeq.ddsLoad)

theorem KeepsBuild.refillOp (h : KeepsBuild m₀ m) {t : Nat} {errs : EccErrs} : KeepsBuild m₀ (m.refillOp t errs) := by
  unfold State.refillOp
  dsimp only
  refine .ite h ?_
  split
  · exact h.fetchFed.when fun h => .ite (h.when (·.w) |>.abortSeq) h.modSeq
  · exact h.fetchFed

/-! The operations of `Machine/Acquisition.lean`. -/

theorem KeepsBuild.acqAbortHost (h : KeepsBuild m₀ m) {t : Nat} : KeepsBuild m₀ (m.acqAbortHost t) := h.abortAcq

/-! The operations of `Machine/Archive.lean`. -/

theorem KeepsBuild.windowOp (h : KeepsBuild m₀ m) : KeepsBuild m₀ m.windowOp := h.when (·.due.frame)

theorem KeepsBuild.scrubOp (h : KeepsBuild m₀ m) {word : Nat} {e : EccErr} : KeepsBuild m₀ (m.scrubOp word e) :=
  h.when (·.eccAll)

theorem KeepsBuild.bar2ReadOp (h : KeepsBuild m₀ m) {fn off len : Nat} {errs : EccErrs} :
    KeepsBuild m₀ (m.bar2ReadOp fn off len errs) :=
  .ite h.answer <| .ite h.wantArc (h.when (·.inc) |>.postArc.eccAt.when (·.aerLog) |>.answer)

theorem KeepsBuild.bar2WriteOp (h : KeepsBuild m₀ m) {fn off : Nat} {bytes : List Byte} {ep : Bool} {errs : EccErrs} :
    KeepsBuild m₀ (m.bar2WriteOp fn off bytes ep errs) :=
  h.when (·.aerLog) |>.unless (·.when (·.inc) |>.postArc.eccAll.arcPut.when (·.foldl fun _ _ h => h.frame))

theorem KeepsBuild.fetchIn (h : KeepsBuild m₀ m) {id i : Nat} {ws : List Word} :
    KeepsBuild m₀ (m.fetchIn id i ws) := h.modCtx

theorem KeepsBuild.prefetchOp (h : KeepsBuild m₀ m) {id : Nat} {r : HostRead} {errs : EccErrs} :
    KeepsBuild m₀ (m.prefetchOp id r errs) := by
  unfold State.prefetchOp
  dsimp only
  refine .ite h <| .ite (h.when (·.postArc.eccAt) |>.fork (·.wantArc) (fun h => .ite h.abortRun h.fetchIn)) <| .ite h ?_
  split
  · exact h.aerLog.abortRun
  · exact h.fetchIn

/-! The operations of `Machine/SampleOps.lean`. -/

theorem KeepsBuild.wmSettle (h : KeepsBuild m₀ m) {t s e : Nat} : KeepsBuild m₀ (m.wmSettle t s e) :=
  h.foldl fun _ _ h => h.when (·.modLane) |>.fork (·.wmReset) (·.wmEval)

theorem KeepsBuild.latchForce (h : KeepsBuild m₀ m) {t s e : Nat} : KeepsBuild m₀ (m.latchForce t s e) := by
  unfold State.latchForce
  dsimp only
  refine .ite h <| .ite (h.latch.when (·.beginRange)) ?_
  split
  · exact h.latch.when (·.beginRange) |>.when (·.foldl fun _ _ h => h.endTrain.setSw.modLane)
  · exact h.latch.when (·.beginRange) |>.when (·.foldl fun _ _ h => h.preconnect)
  · exact h.latch.when (·.beginRange)

theorem KeepsBuild.latchPers (h : KeepsBuild m₀ m) {t s e : Nat} : KeepsBuild m₀ (m.latchPers t s e) := by
  unfold State.latchPers
  dsimp only
  split
  · exact h.latch.unless (·.modLane) |>.when (·.modLane)
  · exact h.latch.unless (·.modLane) |>.when (·.modLane)
  · split
    · exact h.latch.unless (·.modLane) |>.when (·.toPinStart)
    · exact h.latch.unless (·.modLane) |>.unless (·.modLane)
    · exact h.latch.unless (·.modLane) |>.unless fun h => .ite h.ddsOff h.modLane
  · exact h.latch.unless (·.modLane)

theorem KeepsBuild.applyCorr (h : KeepsBuild m₀ m) {t s : Nat} : KeepsBuild m₀ (m.applyCorr t s) := by
  unfold State.applyCorr
  dsimp only
  split
  · exact h.modLane.reconv
  · exact h

theorem KeepsBuild.takeBack (h : KeepsBuild m₀ m) {t s : Nat} : KeepsBuild m₀ (m.takeBack t s) :=
  h.modLane.fork (·.putDac) (·.when (·.putDac))

theorem KeepsBuild.holdStep (h : KeepsBuild m₀ m) {t s : Nat} : KeepsBuild m₀ (m.holdStep t s) :=
  h.unless fun h => .ite h.modLane h.takeBack

theorem KeepsBuild.closeAp (h : KeepsBuild m₀ m) {t s e : Nat} : KeepsBuild m₀ (m.closeAp t s e) :=
  h.when (·.unless (·.w) |>.modLane)

theorem KeepsBuild.latchAdc (h : KeepsBuild m₀ m) {t s e : Nat} : KeepsBuild m₀ (m.latchAdc t s e) :=
  h.when (·.closeAp) |>.latch.unless (·.latch) |>.when (·.modLane) |>.unless (·.latchForce.latchPers)
    |>.applyCorr.holdStep.modLane.wmSettle.tfoldSettle

theorem KeepsBuild.latchDac (h : KeepsBuild m₀ m) {t s e : Nat} : KeepsBuild m₀ (m.latchDac t s e) :=
  h.when (·.latchForce.latchPers) |>.applyCorr.holdStep.modLane.wmSettle.tfoldSettle

theorem KeepsBuild.latchOp (h : KeepsBuild m₀ m) {t s : Nat} : KeepsBuild m₀ (m.latchOp t s) :=
  h.unless fun h => .ite h.due.latchDac (h.when (·.due.latchAdc.when (·.latchDac)))

theorem KeepsBuild.ddsAdvance (h : KeepsBuild m₀ m) {t s : Nat} : KeepsBuild m₀ (m.ddsAdvance t s) :=
  h.unless fun h => .ite h.ddsOff h.modLane

theorem KeepsBuild.badCheck (h : KeepsBuild m₀ m) {t s e : Nat} : KeepsBuild m₀ (m.badCheck t s e) := by
  unfold State.badCheck
  dsimp only
  split
  · exact h.when (·.abortRun)
  · exact h

theorem KeepsBuild.seqAdmit (h : KeepsBuild m₀ m) {t s : Nat} {w : Word} : KeepsBuild m₀ (m.seqAdmit t s w).1 := by
  unfold State.seqAdmit
  exact .fst_ite h (h.admitTry h.modLane)

theorem KeepsBuild.seqSample (h : KeepsBuild m₀ m) {t s e : Nat} : KeepsBuild m₀ (m.seqSample t s e) := by
  unfold State.seqSample
  dsimp only
  refine .ite ?_ h
  split
  · next hx => exact (h.seqAdmit.of_fst hx).modLane.playEntry
  · next hx => exact h.seqAdmit.of_fst hx

theorem KeepsBuild.queueSample (h : KeepsBuild m₀ m) {t s e : Nat} : KeepsBuild m₀ (m.queueSample t s e) :=
  h.unless fun h => .ite h.dry h.playEntry

theorem KeepsBuild.directSample (h : KeepsBuild m₀ m) {t s : Nat} : KeepsBuild m₀ (m.directSample t s) :=
  h.when (·.modLane)

theorem KeepsBuild.dacOp (h : KeepsBuild m₀ m) {t s : Nat} : KeepsBuild m₀ (m.dacOp t s) := by
  unfold State.dacOp
  extract_lets e m₁ p seq m₂ m₃ m₄ m₅
  have h₂ : KeepsBuild m₀ m₂ := h.when (·.latchDac) |>.due.closeStep
  have h₃ : KeepsBuild m₀ m₃ := by
    refine .ite h₂ (.ite h₂.seqSample ?_)
    split
    · exact h₂.directSample
    · exact h₂.queueSample
    · exact h₂
  have h₄ : KeepsBuild m₀ m₄ := by
    dsimp only [m₄]
    split
    · exact h₃.when (·.modLane.admitRange)
    · exact h₃
  exact .ite h h₄.modLane.ddsAdvance.dacDrive.badCheck

theorem KeepsBuild.strobeLane (h : KeepsBuild m₀ m) {t s e hop : Nat} : KeepsBuild m₀ (m.strobeLane t s e hop) :=
  .ite h.dropBusy <|
    .ite h.dry (h.unless (·.closeStep.badCheck.unless (·.unless fun h => .ite h.dry h.playEntry.dacDrive)))

theorem KeepsBuild.lateStrobe (h : KeepsBuild m₀ m) {t s g e : Nat} : KeepsBuild m₀ (m.lateStrobe t s g e) := by
  unfold State.lateStrobe
  dsimp only
  split
  · split
    · exact h.unless fun h => .ite h.afterWait h.setCtx
    · exact h
  · exact h

theorem KeepsBuild.strobeOp (h : KeepsBuild m₀ m) {g e hop : Nat} : KeepsBuild m₀ (m.strobeOp g e hop) :=
  h.foldl fun _ _ h => h.foldl fun _ _ h => h.unless (·.lateStrobe.when (·.strobeLane))

theorem KeepsBuild.complStep (h : KeepsBuild m₀ m) {t s e : Nat} {on isI : Bool} :
    KeepsBuild m₀ (m.complStep t s e on isI) :=
  .ite (.ite h.w.flag.laneEvent.modLane h.modLane) (h.when (·.w.flag.inc.laneEvent.modLane))

theorem KeepsBuild.watchStep (h : KeepsBuild m₀ m) {t s e : Nat} {x : AdcIn} :
    KeepsBuild m₀ (m.watchStep t s e x) := by
  unfold State.watchStep
  exact h.modLane

theorem KeepsBuild.autoMove (h : KeepsBuild m₀ m) {t s ir e : Nat} : KeepsBuild m₀ (m.autoMove t s ir e) :=
  h.modLane.fork (·.modLane) (·.admitRange)

theorem KeepsBuild.autoStep (h : KeepsBuild m₀ m) {t s e : Nat} {x : AdcIn} : KeepsBuild m₀ (m.autoStep t s e x) :=
  .ite h.modLane (h.modLane.fork (·.autoMove) (·.when (·.autoMove)))

theorem KeepsBuild.railStep (h : KeepsBuild m₀ m) {t s : Nat} {x : AdcIn} : KeepsBuild m₀ (m.railStep t s x) :=
  .ite h.w.modLane (h.when (·.w) |>.modLane)

theorem KeepsBuild.swapStep (h : KeepsBuild m₀ m) {t s e : Nat} {x : AdcIn} : KeepsBuild m₀ (m.swapStep t s e x) :=
  h.when (·.modLane)

theorem KeepsBuild.closePm (h : KeepsBuild m₀ m) {t s e : Nat} : KeepsBuild m₀ (m.closePm t s e) :=
  h.foldl fun _ _ h => h.unless (·.w) |>.laneEvent.modLane

theorem KeepsBuild.gather (h : KeepsBuild m₀ m) {t s e : Nat} {x : AdcIn} {on : Bool} :
    KeepsBuild m₀ (m.gather t s e x on) := h.setLane.acqSample

theorem KeepsBuild.adcOp (h : KeepsBuild m₀ m) {t s : Nat} {x : AdcIn} : KeepsBuild m₀ (m.adcOp t s x) := by
  unfold State.adcOp
  dsimp only
  refine .ite h
    (.modLane (.when (.swapStep (.railStep (.watchStep (.gather (.autoStep (.modLane (.complStep ?_)))))))
        (·.followTap)))
  split
  · exact h.when (·.latchAdc) |>.due.closeAp.closePm.closeStep.when (·.modLane.admitRange)
  · exact h.when (·.latchAdc) |>.due.closeAp.closePm.closeStep

/-! The operations of `Machine/Sampling.lean`. -/

theorem KeepsBuild.apertureOp (h : KeepsBuild m₀ m) {t s : Nat} : KeepsBuild m₀ (m.apertureOp t s) :=
  h.when (·.due.closeAp.closeStep)

theorem KeepsBuild.elementOp (h : KeepsBuild m₀ m) {t s : Nat} : KeepsBuild m₀ (m.elementOp t s) := by
  unfold State.elementOp
  split
  · exact h.when (·.due.modLane)
  · exact h

theorem KeepsBuild.rangeEndOp (h : KeepsBuild m₀ m) {t s : Nat} : KeepsBuild m₀ (m.rangeEndOp t s) := by
  unfold State.rangeEndOp
  dsimp only
  split
  · exact h.due.modLane.wmEval.wmEval
  · exact h

theorem KeepsBuild.railDownOp (h : KeepsBuild m₀ m) {t s : Nat} : KeepsBuild m₀ (m.railDownOp t s) :=
  h.when (·.w.modLane)

theorem KeepsBuild.openLoadOp (h : KeepsBuild m₀ m) {t s : Nat} : KeepsBuild m₀ (m.openLoadOp t s) := by
  unfold State.openLoadOp
  dsimp only
  split
  · exact h.when (·.due.modLane.flag.laneEvent.applyAct)
  · exact h

theorem KeepsBuild.complLongOp (h : KeepsBuild m₀ m) {t s : Nat} : KeepsBuild m₀ (m.complLongOp t s) :=
  h.when (·.due.modLane.flag.laneEvent.applyAct)

theorem KeepsBuild.pulseCmd (h : KeepsBuild m₀ m) {fn t s c : Nat} : KeepsBuild m₀ (m.pulseCmd fn t s c) := h.laneWrite

theorem KeepsBuild.pulseGoIn (h : KeepsBuild m₀ m) {t s e hop : Nat} : KeepsBuild m₀ (m.pulseGoIn t s e hop) :=
  .ite h.pulseGo h.dropBusy

theorem KeepsBuild.pulseStartOp (h : KeepsBuild m₀ m) {t s : Nat} : KeepsBuild m₀ (m.pulseStartOp t s) := by
  unfold State.pulseStartOp
  dsimp only
  split
  · exact h.unless (·.due.driveOut.modLane.laneEvent)
  · exact h

theorem KeepsBuild.pulseEndOp (h : KeepsBuild m₀ m) {t s : Nat} : KeepsBuild m₀ (m.pulseEndOp t s) := by
  unfold State.pulseEndOp
  dsimp only
  split
  · exact h.unless (·.due.fork (·.endTrain.dacDrive) (·.modLane.dacDrive))
  · exact h

theorem KeepsBuild.pulseMeasOp (h : KeepsBuild m₀ m) {t s : Nat} : KeepsBuild m₀ (m.pulseMeasOp t s) := by
  unfold State.pulseMeasOp
  dsimp only
  split
  · exact h.due.closePm
  · exact h

theorem KeepsBuild.zeroCrossOp (h : KeepsBuild m₀ m) {t s : Nat} : KeepsBuild m₀ (m.zeroCrossOp t s) := h.when (·.dacOp)

theorem KeepsBuild.transEnd (h : KeepsBuild m₀ m) {t s e : Nat} : KeepsBuild m₀ (m.transEnd t s e) :=
  h.modLane.actPend.overSettle

theorem KeepsBuild.toPinOp (h : KeepsBuild m₀ m) {t s : Nat} : KeepsBuild m₀ (m.toPinOp t s) := by
  unfold State.toPinOp
  dsimp only
  refine .ite h ?_
  split
  · exact h.due.setLane
  · exact h.due.setLane
  · exact h.due.setSw.wmSettle.transEnd

theorem KeepsBuild.toSmuOp (h : KeepsBuild m₀ m) {t s : Nat} : KeepsBuild m₀ (m.toSmuOp t s) := by
  unfold State.toSmuOp
  dsimp only
  refine .ite h ?_
  split
  · exact h.due.setLane
  · exact h.due.setLane
  · exact h.due.hwLive.latch.setSw.modLane.driveTo.transEnd

/-! The operations of `Machine/XferOps.lean`. -/

theorem KeepsBuild.substSet (h : KeepsBuild m₀ m) {t st slot : Nat} : KeepsBuild m₀ (m.substSet t st slot) := h.ws

theorem KeepsBuild.setQueue (h : KeepsBuild m₀ m) {t : Nat} {q : List SvcReq} : KeepsBuild m₀ (m.setQueue t q) :=
  h.modSubst.w

theorem KeepsBuild.setRetired (h : KeepsBuild m₀ m) {t s : Nat} : KeepsBuild m₀ (m.setRetired t s) := h.frame.w

theorem KeepsBuild.svcTry (h : KeepsBuild m₀ m) {op t s waitMs doneEv : Nat} :
    KeepsBuild m₀ (m.svcTry op t s waitMs doneEv).1 := by
  unfold State.svcTry
  dsimp only
  split
  · exact h.frame
  · split
    · exact h.frame.when (·.setRetired) |>.when (·.setRetired) |>.svcDone
    · exact h.frame.when (·.setRetired) |>.setQueue

theorem KeepsBuild.testLeaves (h : KeepsBuild m₀ m) {t : Nat} {r : SvcReq} : KeepsBuild m₀ (m.testLeaves t r) :=
  h.modSubst.when (·.w)

theorem KeepsBuild.svcAbortTry (h : KeepsBuild m₀ m) {ticket : Nat} : KeepsBuild m₀ (m.svcAbortTry ticket).1 := by
  unfold State.svcAbortTry
  dsimp only
  split
  · exact h.frame
  · refine .frame ?_
    split
    · exact h.setQueue.svcDone
    · split
      · exact h.testLeaves.svcDone
      · exact h.xferAbort

theorem KeepsBuild.substCheck (h : KeepsBuild m₀ m) {t e : Nat} : KeepsBuild m₀ (m.substCheck t e) := h.modSubst.modLane

theorem KeepsBuild.xferAfter (h : KeepsBuild m₀ m) {t s : Nat} {back : Bool} {req : Option SvcReq} {forCal : Bool} {e : Nat} :
    KeepsBuild m₀ (m.xferAfter t s back req forCal e) := by
  unfold State.xferAfter
  dsimp only
  split
  · exact h.when (·.substCheck.modSubst) |>.when (·.modSubst)
  · exact h.when (·.substCheck.modSubst) |>.when (·.modSubst) |>.fork (·.modSubst)
      fun h => .ite h.setRetired.svcDone h.svcDone

theorem KeepsBuild.xferBegin (h : KeepsBuild m₀ m) {t s : Nat} {back : Bool} {req : Option SvcReq} {forCal : Bool} :
    KeepsBuild m₀ (m.xferBegin t s back req forCal) :=
  .ite h.substSet.w.xferAfter (h.substSet.w.when (·.modLane) |>.modSubst)

theorem KeepsBuild.xferStart (h : KeepsBuild m₀ m) {t : Nat} {x : Xfer} : KeepsBuild m₀ (m.xferStart t x) :=
  h.due.modSubst.hwLive.latch.modLane.when (·.followTap)

theorem KeepsBuild.xferUnlock (h : KeepsBuild m₀ m) {t : Nat} {x : Xfer} : KeepsBuild m₀ (m.xferUnlock t x) :=
  h.modLane.when (·.modLane)

theorem KeepsBuild.xferTry (h : KeepsBuild m₀ m) {t s : Nat} {back : Bool} {req : Option SvcReq} {forCal : Bool} :
    KeepsBuild m₀ (m.xferTry t s back req forCal).1 := by
  unfold State.xferTry
  dsimp only
  split
  · exact h
  · split
    · exact h.govRefused
    · exact h.xferBegin

theorem KeepsBuild.svcLeave (h : KeepsBuild m₀ m) {t : Nat} {r : SvcReq} : KeepsBuild m₀ (m.svcLeave t r) := h.setQueue

theorem KeepsBuild.svcTake (h : KeepsBuild m₀ m) {t : Nat} {r : SvcReq} : KeepsBuild m₀ (m.svcTake t r) := by
  unfold State.svcTake
  dsimp only
  refine .ite (.ite h.svcLeave.svcDone ?_) (.ite (h.when (·.svcLeave.w.modSubst)) (.ite h.svcLeave.svcDone
    (.ite (.ite h.svcLeave.setRetired.svcDone h.svcLeave.svcDone) (.ite h ?_))))
  all_goals
    split
    · next hx => exact h.svcLeave.xferTry.of_fst hx
    · exact h
    · next hx => exact (h.svcLeave.xferTry.of_fst hx).svcDone

theorem KeepsBuild.transferStartOp (h : KeepsBuild m₀ m) {t : Nat} : KeepsBuild m₀ (m.transferStartOp t) := by
  unfold State.transferStartOp
  dsimp only
  split
  · exact h.unless (·.xferStart)
  · refine .ite h (.ite ?_ ?_)
    · split
      · next hx => exact h.xferTry.of_fst hx
      · exact h
    · split
      · split
        · next hx => exact h.xferTry.of_fst hx
        · exact h
        · next hx => exact (h.xferTry.of_fst hx).modSubst.svcDone
      · refine .ite h ?_
        split
        · exact h.svcTake
        · exact h

theorem KeepsBuild.xferTo (h : KeepsBuild m₀ m) {t : Nat} {x : Xfer} : KeepsBuild m₀ (m.xferTo t x) := h.modSubst

theorem KeepsBuild.matchOp (h : KeepsBuild m₀ m) {t : Nat} {meanUv : Int} : KeepsBuild m₀ (m.matchOp t meanUv) := by
  unfold State.matchOp
  dsimp only
  split
  · exact h.due.fork (·.xferTo.modSubst) (·.xferAbort)
  · exact h

theorem KeepsBuild.shareOp (h : KeepsBuild m₀ m) {t : Nat} : KeepsBuild m₀ (m.shareOp t) := by
  unfold State.shareOp
  dsimp only
  split
  · exact h.unless (·.due.w.w.xferTo.modSubst.modLane.reconv)
  · exact h

theorem KeepsBuild.shareStepOp (h : KeepsBuild m₀ m) {t : Nat} : KeepsBuild m₀ (m.shareStepOp t) := by
  unfold State.shareStepOp
  split
  · exact h.when (·.due.xferTo)
  · exact h

theorem KeepsBuild.xferSwapOp (h : KeepsBuild m₀ m) {t : Nat} : KeepsBuild m₀ (m.xferSwapOp t) := by
  unfold State.xferSwapOp
  split
  · exact h.when (·.due.xferTo)
  · exact h

theorem KeepsBuild.xferDecide (h : KeepsBuild m₀ m) {t : Nat} {x : Xfer} {e : Nat} :
    KeepsBuild m₀ (m.xferDecide t x e) := h.due.w.w.w.xferTo.modSubst.reconv.reconv

theorem KeepsBuild.xferCompleteOp (h : KeepsBuild m₀ m) {t : Nat} : KeepsBuild m₀ (m.xferCompleteOp t) := by
  unfold State.xferCompleteOp
  split
  · exact h.xferDecide
  · split
    · exact h.when (·.xferDecide)
    · exact h

theorem KeepsBuild.oldSenseOp (h : KeepsBuild m₀ m) {t : Nat} : KeepsBuild m₀ (m.oldSenseOp t) := by
  unfold State.oldSenseOp
  dsimp only
  split
  · exact h.due.inc.xferLog.modSubst.xferUnlock.when (·.w) |>.xferAfter.actPend.overSettle
  · exact h

theorem KeepsBuild.leaveOp (h : KeepsBuild m₀ m) {t : Nat} : KeepsBuild m₀ (m.leaveOp t) := by
  unfold State.leaveOp
  dsimp only
  split
  · exact h.due.w.modSubst.fork (·.w) (·.substSet.substCheck) |>.xferUnlock.foldl (fun _ _ h => h.respond)
      |>.actPend.overSettle
  · exact h

theorem KeepsBuild.testEndOp (h : KeepsBuild m₀ m) {t : Nat} {pass : Bool} : KeepsBuild m₀ (m.testEndOp t pass) := by
  unfold State.testEndOp
  dsimp only
  split
  · exact h.unless fun h => .ite h.testLeaves.modSubst.svcDone <| .ite h.setSubst h.setSubst.svcDone
  · exact h

theorem KeepsBuild.svcTimeoutOp (h : KeepsBuild m₀ m) {t : Nat} : KeepsBuild m₀ (m.svcTimeoutOp t) := by
  unfold State.svcTimeoutOp
  dsimp only
  split
  · exact h.due.svcLeave.when (·.testLeaves) |>.svcDone
  · exact h

/-! The operations of `Machine/CalOps.lean`. -/

theorem KeepsBuild.showCat (h : KeepsBuild m₀ m) : KeepsBuild m₀ m.showCat := h.ws

theorem KeepsBuild.commitCat (h : KeepsBuild m₀ m) {b : Bank} : KeepsBuild m₀ (m.commitCat b) := h.frame.showCat

theorem KeepsBuild.showExtrap (h : KeepsBuild m₀ m) {t s : Nat} {out : Bool} :
    KeepsBuild m₀ (m.showExtrap t s out) := h.w.when (·.flag) |>.w

theorem KeepsBuild.interpolate (h : KeepsBuild m₀ m) {t s : Nat} : KeepsBuild m₀ (m.interpolate t s) := by
  unfold State.interpolate
  dsimp only
  split
  · exact h
  · exact h.setLane.showExtrap

theorem KeepsBuild.interpOp (h : KeepsBuild m₀ m) {t s : Nat} : KeepsBuild m₀ (m.interpOp t s) :=
  h.due.modLane.interpolate

theorem KeepsBuild.calTry (h : KeepsBuild m₀ m) {fn : Nat} {p : CalParams} {cmd : Option (Nat × Nat × Nat)} {seqNo : Nat} {silent : Bool} :
    KeepsBuild m₀ (m.calTry fn p cmd seqNo silent).1 := by
  unfold State.calTry
  dsimp only
  split
  · exact h.frame
  · exact h

theorem KeepsBuild.calRunDone (h : KeepsBuild m₀ m) {c : CalRun} {aborted : Bool} :
    KeepsBuild m₀ (m.calRunDone c aborted) := by
  unfold State.calRunDone
  dsimp only
  split
  · exact h.modCal.flag.doneEvent.unless (·.complete)
  · exact h.modCal.flag.doneEvent

theorem KeepsBuild.abortCal (h : KeepsBuild m₀ m) {c : CalRun} : KeepsBuild m₀ (m.abortCal c) := by
  unfold State.abortCal
  dsimp only
  split
  · exact h.foldl (fun _ _ h => h.calOutcome.calUnwait.when (·.when (·.xferAbort) |>.when (·.calLeave) |>.actPend))
      |>.calRunDone
  · exact h.foldl fun _ _ h => h.calOutcome.calUnwait.when (·.when (·.xferAbort) |>.when (·.calLeave) |>.actPend)

theorem KeepsBuild.abortCalTry (h : KeepsBuild m₀ m) {c : Option CalRun} : KeepsBuild m₀ (m.abortCalTry c).1 := by
  unfold State.abortCalTry
  split
  · exact h
  · split
    · exact h.inc
    · exact h.abortCal

theorem KeepsBuild.invalidateTry (h : KeepsBuild m₀ m) {scope set t s : Nat} :
    KeepsBuild m₀ (m.invalidateTry scope set t s).1 := by
  unfold State.invalidateTry
  dsimp only
  split
  · exact h
  · split
    · exact h
    · split
      · exact h
      · split
        · exact h
        · exact h.commitCat

theorem KeepsBuild.calWaits (h : KeepsBuild m₀ m) {run t s : Nat} : KeepsBuild m₀ (m.calWaits run t s) :=
  h.w.unless (·.modTile) |>.when (·.frame)

theorem KeepsBuild.calStart (h : KeepsBuild m₀ m) {id : Nat} : KeepsBuild m₀ (m.calStart id) := h.modCal

theorem KeepsBuild.calBegin (h : KeepsBuild m₀ m) {c : CalRun} {t s : Nat} {path : CalPath} {set : Nat} :
    KeepsBuild m₀ (m.calBegin c t s path set) := by
  unfold State.calBegin
  exact h.calUnwait.calStart.when (·.xferTry) |>.unless (·.modLane) |>.when (·.w) |>.modTile

theorem KeepsBuild.autoBegin (h : KeepsBuild m₀ m) {t refv : Nat} : KeepsBuild m₀ (m.autoBegin t refv) := h.modTile

theorem KeepsBuild.calScan (h : KeepsBuild m₀ m) {t : Nat} {skip : List Nat} {l : List (CalRun × Nat)} :
    KeepsBuild m₀ (m.calScan t skip l) := by
  induction l generalizing m skip with
  | nil => exact h
  | cons x l ih =>
    unfold State.calScan
    dsimp only
    refine .ite (ih h.calOutcome.calUnwait) (.ite (ih h) (.ite (ih h.calStart.autoBegin) ?_))
    split
    · exact ih h.calOutcome.calUnwait
    · exact ih h.calWaits
    · split
      · exact ih h.calOutcome.calUnwait
      · exact h.calBegin

/-! The operations of `Machine/PowerOps.lean`. -/

theorem KeepsBuild.overCheck (h : KeepsBuild m₀ m) : KeepsBuild m₀ m.overCheck := .ite (h.unless (·.w.flag.alert)) h.w

theorem KeepsBuild.reAllow (h : KeepsBuild m₀ m) : KeepsBuild m₀ m.reAllow := h.frame.overCheck

theorem KeepsBuild.downAllow (h : KeepsBuild m₀ m) : KeepsBuild m₀ m.downAllow := h.frame.overCheck

theorem KeepsBuild.budgetOp (h : KeepsBuild m₀ m) {mv : Nat} : KeepsBuild m₀ (m.budgetOp mv) := h.ws.frame.overCheck

theorem KeepsBuild.domRefused (h : KeepsBuild m₀ m) {n : Nat} : KeepsBuild m₀ (m.domRefused n) := h.inc.frame

theorem KeepsBuild.dmaEnd (h : KeepsBuild m₀ m) {d : Dma} {status : Nat} {res : List Nat} :
    KeepsBuild m₀ (m.dmaEnd d status res) := h.frame.setFn.unless (·.complete)

theorem KeepsBuild.dmaUndef (h : KeepsBuild m₀ m) {d : Dma} : KeepsBuild m₀ (m.dmaUndef d) := h.unless (·.frame.drawn)

theorem KeepsBuild.archOff (h : KeepsBuild m₀ m) : KeepsBuild m₀ m.archOff :=
  h.foldl (fun _ _ h => h.when (·.abortAcq) |>.when (·.abortSeq)) |>.foldl (fun _ _ h => h.dmaUndef.dmaEnd)
    |>.frame.setDom

theorem KeepsBuild.archUp (h : KeepsBuild m₀ m) : KeepsBuild m₀ m.archUp := h.frame.setDom.downAllow

theorem KeepsBuild.loadProfile (h : KeepsBuild m₀ m) {p : Page} : KeepsBuild m₀ (m.loadProfile p) :=
  h.foldl fun _ _ h => h.w

theorem KeepsBuild.tileClear (h : KeepsBuild m₀ m) {t : Nat} : KeepsBuild m₀ (m.tileClear t) := by
  unfold State.tileClear
  exact h.foldl (fun _ _ h => h.resetPage) |>.foldl (fun _ _ h => h.w) |>.frame.setTile

theorem KeepsBuild.turnEngines (h : KeepsBuild m₀ m) {t old new : Nat} : KeepsBuild m₀ (m.turnEngines t old new) :=
  h.foldl fun _ _ h => h.when (·.w)

theorem KeepsBuild.ucodeNext (h : KeepsBuild m₀ m) : KeepsBuild m₀ m.ucodeNext := by
  unfold State.ucodeNext
  dsimp only
  split
  · exact h.modTile.turnEngines.noteOffline
  · exact h.frame

theorem KeepsBuild.ucodeLeave (h : KeepsBuild m₀ m) {t : Nat} : KeepsBuild m₀ (m.ucodeLeave t) :=
  h.modTile.turnEngines.frame.ucodeNext

theorem KeepsBuild.tileStop (h : KeepsBuild m₀ m) {t e : Nat} : KeepsBuild m₀ (m.tileStop t e) := by
  unfold State.tileStop
  extract_lets m₁ m₂ m₃ m₄ m₅ m₆ m₇ m₈ m₉ m₁₀
  have h₄ : KeepsBuild m₀ m₄ := by
    have h₃ : KeepsBuild m₀ m₃ := h.modTile.when (·.ucodeLeave) |>.xferAbort
    dsimp only [m₄]
    split
    · exact h₃.calCut
    · exact h₃
  have h₆ : KeepsBuild m₀ m₆ := by
    have h₅ : KeepsBuild m₀ m₅ := h₄.foldl fun _ _ h => h.svcDone
    dsimp only [m₆]
    split
    · exact h₅.svcDone
    · exact h₅
  exact h₆.setQueue.modSubst.foldl (fun _ _ h => h.when (·.abortRun)) |>.when (·.abortSeq) |>.when (·.abortAcq)
    |>.foldl fun _ _ h => h.discOne

theorem KeepsBuild.tileAnswer (h : KeepsBuild m₀ m) {t mask : Nat} : KeepsBuild m₀ (m.tileAnswer t mask) :=
  h.when (·.frame)

theorem KeepsBuild.startChecks (h : KeepsBuild m₀ m) {t e : Nat} : KeepsBuild m₀ (m.startChecks t e) :=
  h.foldl (fun _ _ h => h.modLane) |>.modTile

theorem KeepsBuild.tileStart (h : KeepsBuild m₀ m) {t e : Nat} : KeepsBuild m₀ (m.tileStart t e) :=
  h.setDom.w.loadProfile.loadProfile.w.fork (·.substSet.w) (·.substSet) |>.foldl (fun _ _ h => h.modLane)
    |>.modTile.fork (·.autoBegin) (·.startChecks)

theorem KeepsBuild.tileReady (h : KeepsBuild m₀ m) {t : Nat} : KeepsBuild m₀ (m.tileReady t) :=
  .ite (h.unless (·.startChecks)) (h.when (·.setTile.tileAnswer))

theorem KeepsBuild.tileGone (h : KeepsBuild m₀ m) {t e : Nat} : KeepsBuild m₀ (m.tileGone t e) :=
  h.when (·.tileClear.fork (·.tileStart) (·.setDom.substSet.overSettle.tileAnswer))

theorem KeepsBuild.restoreCat (h : KeepsBuild m₀ m) : KeepsBuild m₀ m.restoreCat :=
  .ite h.frame.showCat h.frame.showCat.w

theorem KeepsBuild.sealMap (h : KeepsBuild m₀ m) : KeepsBuild m₀ m.sealMap := by
  unfold State.sealMap
  exact .ite (h.loadProfile.foldl (fun _ _ h => h.w) |>.w) h.ws

theorem KeepsBuild.showDevice (h : KeepsBuild m₀ m) {cause : Nat} : KeepsBuild m₀ (m.showDevice cause) := h.ws.frame

theorem KeepsBuild.showQueues (h : KeepsBuild m₀ m) : KeepsBuild m₀ m.showQueues := h.foldl fun _ _ h => .ite h.w h.ws

theorem KeepsBuild.showWalul (h : KeepsBuild m₀ m) : KeepsBuild m₀ m.showWalul :=
  h.loadProfile.w.unless (·.ws.when (·.w))

theorem KeepsBuild.bootUp (h : KeepsBuild m₀ m) {r : RstReq} : KeepsBuild m₀ (m.bootUp r) := by
  unfold State.bootUp
  dsimp only
  split
  · exact h.showDevice.w.w
  · exact h.showDevice.frame.w.when (·.sealMap) |>.when (·.w.w)
        |>.loadProfile.loadProfile.w.showWalul.showQueues.restoreCat.w.foldl (fun _ _ h => h.tileStart)
      |>.reAllow

theorem KeepsBuild.coldBase (h : KeepsBuild m₀ m) {r : RstReq} : KeepsBuild m₀ (m.coldBase r) := h.frame.ws

theorem KeepsBuild.warmBase (h : KeepsBuild m₀ m) : KeepsBuild m₀ m.warmBase := h.frame.ws.w

theorem KeepsBuild.doReset (h : KeepsBuild m₀ m) {r : RstReq} : KeepsBuild m₀ (m.doReset r) :=
  .ite h.coldBase.bootUp (h.frame.warmBase.bootUp.when (·.flag))

theorem KeepsBuild.orderReset (h : KeepsBuild m₀ m) {r : RstReq} : KeepsBuild m₀ (m.orderReset r) :=
  h.unless (·.frame.w.foldl fun _ _ h => h.when (·.xferAbort.foldl fun _ _ h => h.modLane.discOne))

theorem KeepsBuild.pfailOp (h : KeepsBuild m₀ m) {cause : Nat} {trace : List Nat} :
    KeepsBuild m₀ (m.pfailOp cause trace) :=
  h.unless (·.frame.foldl fun _ _ h => h.when (·.setQueue.modSubst.xferAbort.foldl fun _ _ h => h.modLane.discOne))

theorem KeepsBuild.pfSafe (h : KeepsBuild m₀ m) {e : Nat} : KeepsBuild m₀ (m.pfSafe e) := by
  unfold State.pfSafe
  dsimp only
  split
  · exact h.unless (·.frame.ws)
  · exact h

theorem KeepsBuild.settle (h : KeepsBuild m₀ m) {t e : Nat} : KeepsBuild m₀ (m.settle t e) := by
  unfold State.settle
  refine .ite (h.when (·.pfSafe)) ?_
  split
  · exact h.when (·.doReset)
  · exact h.tileGone

/-! The operations of `Machine/Lanes.lean`. -/

theorem KeepsBuild.faultTaken (h : KeepsBuild m₀ m) {t s code : Nat} {value : Int} {e : Nat} :
    KeepsBuild m₀ (m.faultTaken t s code value e) := h.declare.when (·.discUnit.settle)

theorem KeepsBuild.preconnectEndOp (h : KeepsBuild m₀ m) {t s : Nat} : KeepsBuild m₀ (m.preconnectEndOp t s) :=
  h.when (·.due.foldl fun _ _ h => h.setSw.modLane)

theorem KeepsBuild.forceCloseOp (h : KeepsBuild m₀ m) {t s : Nat} : KeepsBuild m₀ (m.forceCloseOp t s) :=
  h.when (·.due.foldl (fun _ _ h => h.modLane) |>.when (·.driveOut))

theorem KeepsBuild.swapOp (h : KeepsBuild m₀ m) {t s : Nat} : KeepsBuild m₀ (m.swapOp t s) := h.when (·.faultTaken)

theorem KeepsBuild.connectedOp (h : KeepsBuild m₀ m) {t s : Nat} : KeepsBuild m₀ (m.connectedOp t s) :=
  h.when (·.due.foldl (fun _ _ h => h.setSw) |>.driveTo)

theorem KeepsBuild.rampOp (h : KeepsBuild m₀ m) {t s : Nat} : KeepsBuild m₀ (m.rampOp t s) :=
  h.when (·.due.foldl fun _ _ h => h.modLane)

theorem KeepsBuild.openStepOp (h : KeepsBuild m₀ m) {t s : Nat} : KeepsBuild m₀ (m.openStepOp t s) :=
  h.unless fun h => .ite (h.due.foldl (fun _ _ h => h.modLane)) (h.due.foldl (fun _ _ h => h.arrive) |>.settle)

theorem KeepsBuild.gangWrite (h : KeepsBuild m₀ m) {fn t g : Nat} {w : Word} :
    KeepsBuild m₀ (m.gangWrite fn t g w) := .ite h.classWrite h.refuseTile

theorem KeepsBuild.boostWrite (h : KeepsBuild m₀ m) {fn t : Nat} {w : Word} : KeepsBuild m₀ (m.boostWrite fn t w) :=
  h.unless fun h => .ite h.classWrite h.refuseTile

theorem KeepsBuild.boostFaultOp (h : KeepsBuild m₀ m) {t : Nat} {value : Int} :
    KeepsBuild m₀ (m.boostFaultOp t value) := h.when (·.flag.faultTaken)

theorem KeepsBuild.bfltOp (h : KeepsBuild m₀ m) {t lowNs : Nat} : KeepsBuild m₀ (m.bfltOp t lowNs) :=
  h.when (·.boostFaultOp.drawn)

theorem KeepsBuild.boostOverOp (h : KeepsBuild m₀ m) {t : Nat} {bsvMv bsiMv : Int} :
    KeepsBuild m₀ (m.boostOverOp t bsvMv bsiMv) := h.when (·.boostFaultOp)

/-! The operations of `Machine/Monitors.lean`. -/

theorem KeepsBuild.wmInput (h : KeepsBuild m₀ m) {t s n : Nat} {x : Int} {sub : Nat} :
    KeepsBuild m₀ (m.wmInput t s n x sub) := h.modLane.wmEval

theorem KeepsBuild.tripOp (h : KeepsBuild m₀ m) {t s n : Nat} {x : Int} {sub : Nat} :
    KeepsBuild m₀ (m.tripOp t s n x sub) := h.when (·.wmInput)

theorem KeepsBuild.rawInside (h : KeepsBuild m₀ m) {t s n : Nat} {x : Int} : KeepsBuild m₀ (m.rawInside t s n x) :=
  h.when (·.when (·.w) |>.wmInput)

theorem KeepsBuild.filteredOp (h : KeepsBuild m₀ m) {t s n : Nat} : KeepsBuild m₀ (m.filteredOp t s n) := by
  unfold State.filteredOp
  dsimp only
  split
  · exact h.unless (·.due.w.fork (·.flag.inc.laneEvent) (·.when (·.flag.laneEvent)))
  · exact h

theorem KeepsBuild.autoRetire (h : KeepsBuild m₀ m) {t s : Nat} : KeepsBuild m₀ (m.autoRetire t s) := by
  unfold State.autoRetire
  dsimp only
  refine .ite ?_ h
  split
  · exact h.logFault.drawn.alert
  · exact h.logFault.drawn.alert.setRetired
  · exact h.logFault.drawn.alert.setQueue

theorem KeepsBuild.chkAfter (h : KeepsBuild m₀ m) {t s n e : Nat} {pass : Bool} :
    KeepsBuild m₀ (m.chkAfter t s n e pass) :=
  h.when (·.setSubst) |>.when (·.setTile) |>.when (·.autoRetire) |>.when (·.modLane) |>.tileReady

theorem KeepsBuild.wmchkDoneOp (h : KeepsBuild m₀ m) {t s : Nat} {r : List ChkStep} :
    KeepsBuild m₀ (m.wmchkDoneOp t s r) := by
  unfold State.wmchkDoneOp
  dsimp only
  split
  · exact h.due.ws.flag.modLane.wmReset.chkAfter
  · exact h

/-! The operations of `Machine/Faults.lean`. -/

theorem KeepsBuild.foldOp (h : KeepsBuild m₀ m) {t s : Nat} : KeepsBuild m₀ (m.foldOp t s) := by
  unfold State.foldOp
  dsimp only
  split
  · exact h.when (·.due.declare)
  · exact h

theorem KeepsBuild.unfold (h : KeepsBuild m₀ m) {t s : Nat} : KeepsBuild m₀ (m.unfold t s) := h.unless (·.w.latch)

theorem KeepsBuild.restoreOp (h : KeepsBuild m₀ m) {t s : Nat} : KeepsBuild m₀ (m.restoreOp t s) :=
  h.when (·.due.w.setLane.unfold.tfoldSettle.overSettle)

theorem KeepsBuild.fclrWrite (h : KeepsBuild m₀ m) {fn t s : Nat} : KeepsBuild m₀ (m.fclrWrite fn t s) := by
  unfold State.fclrWrite
  exact h.laneWrite

theorem KeepsBuild.overdriveOp (h : KeepsBuild m₀ m) {t s : Nat} {uv : Int} :
    KeepsBuild m₀ (m.overdriveOp t s uv) := h.when (·.faultTaken)

theorem KeepsBuild.probeOp (h : KeepsBuild m₀ m) {t s : Nat} : KeepsBuild m₀ (m.probeOp t s) :=
  .ite h.setLane (h.unless (·.due.setLane))

theorem KeepsBuild.openJudge (h : KeepsBuild m₀ m) {t s e : Nat} {on off : Int} :
    KeepsBuild m₀ (m.openJudge t s e on off) := h.setLane.fork (·.declare) (·.when (·.declare))

theorem KeepsBuild.openEvalOp (h : KeepsBuild m₀ m) {t s : Nat} {restOn restOff : List Int} :
    KeepsBuild m₀ (m.openEvalOp t s restOn restOff) := by
  unfold State.openEvalOp
  dsimp only
  split
  · exact h.when (·.due.openJudge)
  · exact h

theorem KeepsBuild.refinLostOp (h : KeepsBuild m₀ m) : KeepsBuild m₀ m.refinLostOp :=
  h.unless fun h => .ite h.frame (h.ws.flag.frame.alert.w.foldl (fun _ _ h => .ite h.modSeq (h.when (·.abortSeq))))

theorem KeepsBuild.refinBackOp (h : KeepsBuild m₀ m) : KeepsBuild m₀ m.refinBackOp := h.when (·.frame)

theorem KeepsBuild.refinLockOp (h : KeepsBuild m₀ m) : KeepsBuild m₀ m.refinLockOp := h.when (·.ws.flag.frame)

theorem KeepsBuild.tfoldOn (h : KeepsBuild m₀ m) {t e : Nat} {x : Int} : KeepsBuild m₀ (m.tfoldOn t e x) :=
  h.w.tfoldLanes

theorem KeepsBuild.tshutOn (h : KeepsBuild m₀ m) {t e : Nat} {x : Int} : KeepsBuild m₀ (m.tshutOn t e x) :=
  h.unless (·.logFault.alert.modTile.tileStop.settle)

theorem KeepsBuild.tileTempOp (h : KeepsBuild m₀ m) {t e : Nat} {x : Int} : KeepsBuild m₀ (m.tileTempOp t e x) :=
  .ite h.modTile (h.w.setTile.when (·.flag.alert) |>.when (·.tfoldOn) |>.when (·.tshutOn))

theorem KeepsBuild.tempOp (h : KeepsBuild m₀ m) {tiles : List Int} {ctl arc : Int} :
    KeepsBuild m₀ (m.tempOp tiles ctl arc) :=
  h.unless
    (·.due.foldl (fun _ _ h => h.tileTempOp) |>.ws.frame.when (·.flag.alert) |>.when (·.flag.alert) |>.when
         (·.when (·.archOff) |>.w)
       |>.when (·.drawn.pfailOp.settle))

theorem KeepsBuild.tfoldOffOp (h : KeepsBuild m₀ m) {t : Nat} : KeepsBuild m₀ (m.tfoldOffOp t) := by
  unfold State.tfoldOffOp
  split
  · exact h.when (·.due.w.foldl fun _ _ h => h.when (·.modLane.unfold))
  · exact h

theorem KeepsBuild.budgetEvalOp (h : KeepsBuild m₀ m) {mv : Nat} : KeepsBuild m₀ (m.budgetEvalOp mv) :=
  h.when (·.due.budgetOp)

/-! The operations of `Machine/Walul.lean`. -/

theorem KeepsBuild.wlPortSet (h : KeepsBuild m₀ m) {n st cause : Nat} : KeepsBuild m₀ (m.wlPortSet n st cause) :=
  h.ws.unless (·.frame)

theorem KeepsBuild.wlCutCheck (h : KeepsBuild m₀ m) : KeepsBuild m₀ m.wlCutCheck := h.unless (·.w)

theorem KeepsBuild.wlCount (h : KeepsBuild m₀ m) {p : WlPeer} : KeepsBuild m₀ (m.wlCount p) := h.when (·.w)

theorem KeepsBuild.wlReach (h : KeepsBuild m₀ m) {n : Nat} {p : WlPeer} : KeepsBuild m₀ (m.wlReach n p) :=
  h.frame.wlCount.unless fun h => .ite h.frame.ws h.wlCutCheck

theorem KeepsBuild.trainOp (h : KeepsBuild m₀ m) {n width : Nat} {p : WlPeer} :
    KeepsBuild m₀ (m.trainOp n width p) :=
  h.unless fun h => .ite h.wlReach <| .ite h.wlPortSet <| .ite h.wlPortSet.ws.frame.wlReach h.wlPortSet.flag.frame

theorem KeepsBuild.wlLeave (h : KeepsBuild m₀ m) {n : Nat} {cause : LossCause} :
    KeepsBuild m₀ (m.wlLeave n cause) := h.wlPortSet.flag.inc.wlCutCheck

theorem KeepsBuild.lossOp (h : KeepsBuild m₀ m) {n : Nat} {cause : LossCause} {queued cnt : Nat} {reach0 : Bool} :
    KeepsBuild m₀ (m.lossOp n cause queued cnt reach0) :=
  h.unless (·.unless (·.wlLeave) |>.incBy.frame.fork (·.w) (·.wlCutCheck))

theorem KeepsBuild.wlSend (h : KeepsBuild m₀ m) {n : Nat} {f : WlFrame} : KeepsBuild m₀ (m.wlSend n f) := by
  unfold State.wlSend
  dsimp only
  split
  · exact h.frame
  · exact h
  · exact h.inc

theorem KeepsBuild.wlWait (h : KeepsBuild m₀ m) {tick k hop origin : Nat} :
    KeepsBuild m₀ (m.wlWait tick k hop origin) := h.frame

theorem KeepsBuild.wlTransmit (h : KeepsBuild m₀ m) {ch k c hop : Nat} {relay : Bool} :
    KeepsBuild m₀ (m.wlTransmit ch k c hop relay) := h.unless fun h => .ite h.ws.flag (h.wlSend.wlSend.when (·.wlWait))

theorem KeepsBuild.frameOp (h : KeepsBuild m₀ m) {n : Nat} {f : WlFrame} {crcOk : Bool} :
    KeepsBuild m₀ (m.frameOp n f crcOk) :=
  h.unless
    fun h =>
      .ite (h.frame.inc.when (·.wlLeave)) (h.frame.unless (·.frame.unless (·.wlSend) |>.fork (·.flag.inc) (·.wlWait)))

theorem KeepsBuild.deliverOp (h : KeepsBuild m₀ m) : KeepsBuild m₀ m.deliverOp := by
  unfold State.deliverOp
  dsimp only
  split
  · exact h.due.frame.fork (·.fireChan) id
  · exact h

theorem KeepsBuild.paceStep (h : KeepsBuild m₀ m) {x n : Nat} : KeepsBuild m₀ (m.paceStep x n) := .ite h.frame h.frame

theorem KeepsBuild.alignEnd (h : KeepsBuild m₀ m) {code : Nat} : KeepsBuild m₀ (m.alignEnd code) := h.frame.ws.flag

theorem KeepsBuild.alignGo (h : KeepsBuild m₀ m) {x : AlignMeas} : KeepsBuild m₀ (m.alignGo x) := h.ws.frame

theorem KeepsBuild.alignTry (h : KeepsBuild m₀ m) {x : AlignMeas} : KeepsBuild m₀ (m.alignTry x) := by
  unfold State.alignTry
  split
  · exact h.alignGo
  · exact h.alignEnd

theorem KeepsBuild.alignOp (h : KeepsBuild m₀ m) {fn : Nat} {x : AlignMeas} : KeepsBuild m₀ (m.alignOp fn x) :=
  h.unless fun h => .ite h.ignore h.alignTry

theorem KeepsBuild.alignWrite (h : KeepsBuild m₀ m) {fn c : Nat} : KeepsBuild m₀ (m.alignWrite fn c) :=
  h.unless fun h => .ite h.ignore (h.unless (fun h => .ite h.alignEnd h.frame.w))

theorem KeepsBuild.alignAutoOp (h : KeepsBuild m₀ m) {x : AlignMeas} : KeepsBuild m₀ (m.alignAutoOp x) :=
  h.unless fun h => .ite h.alignTry (h.when (·.alignGo))

theorem KeepsBuild.loadOp (h : KeepsBuild m₀ m) {x count : Nat} {trim : Int} {q : LoadMeas} :
    KeepsBuild m₀ (m.loadOp x count trim q) :=
  h.unless fun h => .ite (h.when (·.due.frame.alignEnd)) (h.when (·.due.frame.paceStep.ws.flag))

theorem KeepsBuild.trackOp (h : KeepsBuild m₀ m) {errPs : Int} {refin0 : Bool} :
    KeepsBuild m₀ (m.trackOp errPs refin0) := h.unless (·.drawn.w.frame.when (·.frame.w) |>.w)

/-! The operations of `Machine/Baton.lean`. -/

theorem KeepsBuild.launch (h : KeepsBuild m₀ m) {f : Flight} : KeepsBuild m₀ (m.launch f) := h.frame

theorem KeepsBuild.prodStage (h : KeepsBuild m₀ m) {f : Flight} {t pos : Nat} :
    KeepsBuild m₀ (m.prodStage f t pos) :=
  h.unless fun h => (KeepsBuild.ite h.flagBits h.flagBits).unless (·.incBy) |>.foldl fun _ _ h => h.launch

theorem KeepsBuild.deliver (h : KeepsBuild m₀ m) {t c pos e hop : Nat} {who : List Nat} :
    KeepsBuild m₀ (m.deliver t c pos e hop who) :=
  .ite h.pulseGoIn <|
    .ite h.goDelivered <|
    .ite h.seqGoOp <|
    .ite h.seqAbortIn <|
    .ite h.seqJreqOp <|
    .ite h.acqArmInOp <| .ite h.acqFireInOp <| .ite h.acqTrigInOp <| .ite h.acqAbortIn (h.when (·.frame.flag))

theorem KeepsBuild.toutStage (h : KeepsBuild m₀ m) {t c e : Nat} {evs : List (Nat × Nat)} {who : List Nat} :
    KeepsBuild m₀ (m.toutStage t c e evs who) := by
  unfold State.toutStage
  dsimp only
  refine .ite h ?_
  split
  · exact h.when (·.loopAt)
  · exact h.when (·.loopAt) |>.fireChan

theorem KeepsBuild.consStage (h : KeepsBuild m₀ m) {t c e : Nat} : KeepsBuild m₀ (m.consStage t c e) := by
  unfold State.consStage
  exact h.frame.unless (·.when (·.incBy.w) |>.fork (·.toutStage) (·.activation fun _ h => h.deliver))

theorem KeepsBuild.chanStage (h : KeepsBuild m₀ m) {f : Flight} {ch : Nat} : KeepsBuild m₀ (m.chanStage f ch) :=
  h.flagBits.unless (·.foldl fun _ _ h => h.incBy) |>.foldl (fun _ _ h => h.when (·.launch)) |>.foldl
        (fun _ _ h => h.when (·.launch))
      |>.when (·.launch)
    |>.foldl fun _ _ h => h.when (·.wlTransmit)

theorem KeepsBuild.drive (h : KeepsBuild m₀ m) {n e : Nat} : KeepsBuild m₀ (m.drive n e) := h.frame

theorem KeepsBuild.batonOp (h : KeepsBuild m₀ m) : KeepsBuild m₀ m.batonOp := by
  unfold State.batonOp
  dsimp only
  split
  · exact h
  · split
    · exact h.due.frame.prodStage
    · exact h.due.consStage
    · exact h.due.frame.chanStage
    · exact h.due.frame.strobeOp
    · exact h.due.frame.drive
    · exact h.due.frame.when (·.fireChan)

theorem KeepsBuild.batFireOp (h : KeepsBuild m₀ m) {t v : Nat} : KeepsBuild m₀ (m.batFireOp t v) := h.when (·.fireProd)

theorem KeepsBuild.trkRef (h : KeepsBuild m₀ m) {fn off : Nat} : KeepsBuild m₀ (m.trkRef fn off) := h.w.flag

theorem KeepsBuild.trkFireOp (h : KeepsBuild m₀ m) {fn v : Nat} : KeepsBuild m₀ (m.trkFireOp fn v) :=
  h.unless fun h => .ite h.fireChan h.trkRef

theorem KeepsBuild.batRoute (h : KeepsBuild m₀ m) {fn t off : Nat} {w : Word} :
    KeepsBuild m₀ (m.batRoute fn t off w) := h.unless fun h => .ite h.w.flag h.classWrite

theorem KeepsBuild.trkRoute (h : KeepsBuild m₀ m) {fn off : Nat} {w : Word} : KeepsBuild m₀ (m.trkRoute fn off w) :=
  .ite h.classWrite <| .ite h.trkRef (h.unless (fun h => .ite h.trkRef h.classWrite))

theorem KeepsBuild.routeOp (h : KeepsBuild m₀ m) {fn : Nat} {p : Page} {off : Nat} {w : Word} :
    KeepsBuild m₀ (m.routeOp fn p off w) := by
  unfold State.routeOp
  split
  · exact h.batRoute
  · exact h.trkRoute
  · exact h.laneWrite
  · exact h

theorem KeepsBuild.trigInOp (h : KeepsBuild m₀ m) {n sub : Nat} : KeepsBuild m₀ (m.trigInOp n sub) :=
  h.unless (·.drawn.frame.launch)

theorem KeepsBuild.trigEndOp (h : KeepsBuild m₀ m) {n : Nat} : KeepsBuild m₀ (m.trigEndOp n) := by
  unfold State.trigEndOp
  dsimp only
  split
  · exact h.due.frame
  · exact h

/-! The operations of `Machine/Calibration.lean`. -/

theorem KeepsBuild.catReqOp (h : KeepsBuild m₀ m) {fn : Nat} {p : CalParams} : KeepsBuild m₀ (m.catReqOp fn p) :=
  h.calTry.frame.answer

theorem KeepsBuild.calReqOp (h : KeepsBuild m₀ m) {fn q tag rq : Nat} {silent : Bool} {p : CalParams} :
    KeepsBuild m₀ (m.calReqOp fn q tag rq silent p) := by
  unfold State.calReqOp
  dsimp only
  refine .answer (.unless ?_ (·.complete))
  split
  · exact h
  · exact h.calTry

theorem KeepsBuild.taken (h : KeepsBuild m₀ m) {fn q : Nat} : KeepsBuild m₀ (m.taken fn q) := h.inc

theorem KeepsBuild.invalidateOp (h : KeepsBuild m₀ m) {fn scope set t s : Nat} :
    KeepsBuild m₀ (m.invalidateOp fn scope set t s) := h.invalidateTry.frame.answer

theorem KeepsBuild.catAbortOp (h : KeepsBuild m₀ m) {fn run : Nat} : KeepsBuild m₀ (m.catAbortOp fn run) :=
  h.abortCalTry.frame.answer

theorem KeepsBuild.calAbortOp (h : KeepsBuild m₀ m) {fn tag : Nat} : KeepsBuild m₀ (m.calAbortOp fn tag).1 :=
  h.abortCalTry

theorem KeepsBuild.calTurnOp (h : KeepsBuild m₀ m) {t : Nat} : KeepsBuild m₀ (m.calTurnOp t) := h.when (·.calScan)

theorem KeepsBuild.pendingTimeoutOp (h : KeepsBuild m₀ m) {t s : Nat} : KeepsBuild m₀ (m.pendingTimeoutOp t s) := by
  unfold State.pendingTimeoutOp
  split
  · exact h.due.calOutcome.calUnwait
  · exact h

theorem KeepsBuild.calKeep (h : KeepsBuild m₀ m) {t : Nat} {c : CalTurn} {run : CalRun} {code : Nat} {k : CalDone} {x : CalMeas} :
    KeepsBuild m₀ (m.calKeep t c run code k x) := h.when (·.modCal)

theorem KeepsBuild.refvFails (h : KeepsBuild m₀ m) {t id : Nat} : KeepsBuild m₀ (m.refvFails t id) := h.modCal.frame

theorem KeepsBuild.calVerdict (h : KeepsBuild m₀ m) {t : Nat} {c : CalTurn} {code : Nat} :
    KeepsBuild m₀ (m.calVerdict t c code) := h.unless fun h => .ite h.modSubst (h.modSubst.when (·.modSubst))

theorem KeepsBuild.calEndOp (h : KeepsBuild m₀ m) {t : Nat} {x : CalMeas} : KeepsBuild m₀ (m.calEndOp t x) := by
  unfold State.calEndOp
  dsimp only
  split
  · exact h
  · split
    · exact h
    · exact h.unless
        (·.when (·.modCal) |>.when (·.refvFails) |>.calKeep.calOutcome.when (·.flag) |>.calLeave.calVerdict.when
           (·.autoRetire)
         |>.actPend)

theorem KeepsBuild.catCommitOp (h : KeepsBuild m₀ m) {run : Nat} : KeepsBuild m₀ (m.catCommitOp run) := by
  unfold State.catCommitOp
  dsimp only
  split
  · exact h.unless (·.commitCat.calRunDone)
  · exact h

theorem KeepsBuild.autoRecalOp (h : KeepsBuild m₀ m) {t : Nat} : KeepsBuild m₀ (m.autoRecalOp t) :=
  h.unless fun h => .ite h.due.setTile (h.unless (fun h => .ite h.autoBegin h.due.autoBegin))

theorem KeepsBuild.refDoneOp (h : KeepsBuild m₀ m) {t : Nat} : KeepsBuild m₀ (m.refDoneOp t) := h.frame

theorem KeepsBuild.autoEndOp (h : KeepsBuild m₀ m) {t refvUv : Nat} {ref1 ref2 : Int} {line1 line2 : List Nat} :
    KeepsBuild m₀ (m.autoEndOp t refvUv ref1 ref2 line1 line2) :=
  h.unless (·.w.fork (·.setTile) (·.flag.flag.fork (·.setTile.tileReady) (·.setTile.refDoneOp.tileReady)))

theorem KeepsBuild.autoSwapOp (h : KeepsBuild m₀ m) {t : Nat} : KeepsBuild m₀ (m.autoSwapOp t) := by
  unfold State.autoSwapOp
  dsimp only
  split
  · exact h
  · exact h.due.setTile.w.commitCat.refDoneOp.tileReady

/-! The operations of `Machine/Engine.lean`. -/

theorem KeepsBuild.badDescriptor (h : KeepsBuild m₀ m) {id : Nat} : KeepsBuild m₀ (m.badDescriptor id) := h.modCtx

theorem KeepsBuild.badIndex (h : KeepsBuild m₀ m) {id i : Nat} : KeepsBuild m₀ (m.badIndex id i) := h.modCtx

theorem KeepsBuild.decode (h : KeepsBuild m₀ m) {id op most : Nat} {closes : List Word → Bool}
    {act : State → List Word → Option State} (hact : ∀ n ws, KeepsBuild m₀ n → (act n ws).elim True (KeepsBuild m₀)) :
    KeepsBuild m₀ (m.decode id op most closes act) := by
  have hbad : ∀ c : Bool, KeepsBuild m₀ (if c then m.arm id else m.badDescriptor id) := fun _ => .ite h.arm h.badDescriptor
  unfold State.decode
  dsimp only
  refine .ite h (.ite (.ite (hbad _) (hbad _).badIndex) ?_)
  split
  · exact h
  · next ws _ =>
    refine .ite (hbad _) (.ite h (.ite h.arm ?_))
    have ha := hact (m.engOp (m.ctx id).tile (m.ctx id).engine most) ws h.engOp
    cases hn : act (m.engOp (m.ctx id).tile (m.ctx id).engine most) ws with
    | none => exact h
    | some n =>
      rw [hn] at ha
      exact ha

theorem KeepsBuild.nextDesc (h : KeepsBuild m₀ m) {id : Nat} : KeepsBuild m₀ (m.nextDesc id) := h.modCtx

theorem KeepsBuild.nopOp (h : KeepsBuild m₀ m) {id : Nat} : KeepsBuild m₀ (m.nopOp id) := h.decode fun _ _ h => h.nextDesc

theorem KeepsBuild.ownVclamp (h : KeepsBuild m₀ m) {t s : Nat} {w : Word} : KeepsBuild m₀ (m.ownVclamp t s w).1 := by
  unfold State.ownVclamp
  split
  · exact h.refuse
  · split
    · exact h.refuse
    · exact h.hwLive

theorem KeepsBuild.ownChain (h : KeepsBuild m₀ m) {id : Nat} {l : List (Nat × Word)} : KeepsBuild m₀ (m.ownChain id l) := by
  induction l generalizing m with
  | nil => exact h.modCtx.nextDesc
  | cons x l ih =>
    unfold State.ownChain
    extract_lets c m' r
    have hr : KeepsBuild m₀ r.1 := .fst_ite h.engOp.ownVclamp h.engOp.laneTry
    split
    · exact hr.abortRun
    · exact ih hr

theorem KeepsBuild.dropHold (h : KeepsBuild m₀ m) {id : Nat} : KeepsBuild m₀ (m.dropHold id) :=
  h.foldl (fun _ _ h => h.when (·.modLane)) |>.overSettle

theorem KeepsBuild.configWrites (h : KeepsBuild m₀ m) {id : Nat} {ws : List Word} :
    KeepsBuild m₀ (m.configWrites id ws) := h.dropHold.ownChain

theorem KeepsBuild.configOp (h : KeepsBuild m₀ m) {id : Nat} : KeepsBuild m₀ (m.configOp id) := by
  refine h.decode fun n ws h => ?_
  dsimp only
  split
  · trivial
  · split
    · exact h.due.closeGrid.abortRun
    · split
      · split
        · next hx => exact (h.due.closeGrid.connectTry.of_fst hx).abortRun
        · next hx => exact (h.due.closeGrid.connectTry.of_fst hx).modCtx
      · split
        · trivial
        · exact h.due.closeGrid.configWrites

theorem KeepsBuild.startGen (h : KeepsBuild m₀ m) {id : Nat} {g : Gen} {len : Nat} :
    KeepsBuild m₀ (m.startGen id g len) := by
  unfold State.startGen
  dsimp only
  refine .ite h.abortRun (.ite h.abortRun ?_)
  split
  · next hx => exact (h.admitTry h.withDescEst |>.of_fst hx).abortRun
  · next hx => exact (h.admitTry h.withDescEst |>.of_fst hx).setCtx.fillQueue.when (·.arm)

theorem KeepsBuild.stepOp (h : KeepsBuild m₀ m) {id kind : Nat} {build : Ctx → List Word → Option (Gen × Nat × Option Nat)} :
    KeepsBuild m₀ (m.stepOp id kind build) := by
  unfold State.stepOp
  dsimp only
  split
  · exact h.when (·.fillQueue.when (·.arm))
  · refine h.decode fun n ws h => ?_
    cases build (n.ctx id) ws with
    | none => trivial
    | some x =>
      dsimp only [Option.bind_some]
      split
      · exact KeepsBuild.ite h.arm h.badDescriptor.badIndex
      · split
        · exact h.arm
        · split
          · split
            · exact h.due.closeGrid.startGen
            · trivial
          · exact h.startGen

theorem KeepsBuild.linOp (h : KeepsBuild m₀ m) {id : Nat} : KeepsBuild m₀ (m.linOp id) := h.stepOp

theorem KeepsBuild.listOp (h : KeepsBuild m₀ m) {id : Nat} : KeepsBuild m₀ (m.listOp id) := h.stepOp

theorem KeepsBuild.measOp (h : KeepsBuild m₀ m) {id : Nat} : KeepsBuild m₀ (m.measOp id) := h.stepOp

theorem KeepsBuild.limitOp (h : KeepsBuild m₀ m) {id : Nat} : KeepsBuild m₀ (m.limitOp id) := h.decode fun _ _ h => h.modCtx.nextDesc

theorem KeepsBuild.waitOp (h : KeepsBuild m₀ m) {id : Nat} : KeepsBuild m₀ (m.waitOp id) := by
  refine h.decode fun n ws h => ?_
  dsimp only
  split
  · trivial
  · split
    · exact h.due.closeGrid.modCtx.nextDesc.modCtx
    · split
      · split
        · trivial
        · exact h.due.closeGrid.modCtx.modCtx
      · exact h.due.closeGrid.modCtx.nextDesc.freeEngine.modCtx

theorem KeepsBuild.fireOp (h : KeepsBuild m₀ m) {id : Nat} : KeepsBuild m₀ (m.fireOp id) := h.decode fun _ _ h => h.modCtx.nextDesc

theorem KeepsBuild.jumpOp (h : KeepsBuild m₀ m) {id : Nat} : KeepsBuild m₀ (m.jumpOp id) := by
  refine h.decode fun n ws h => ?_
  dsimp only
  split
  · exact h.setCtx
  · exact h.setCtx
  · split
    · trivial
    · split
      · split
        · trivial
        · exact h.due.closeGrid.modCtx
      · exact h.due.closeGrid.modCtx

theorem KeepsBuild.openFinal (h : KeepsBuild m₀ m) {id : Nat} {strobe : Bool} :
    KeepsBuild m₀ (m.openFinal id strobe) := by
  unfold State.openFinal
  exact h.hwLive.latch.modLane

theorem KeepsBuild.endOp (h : KeepsBuild m₀ m) {id : Nat} : KeepsBuild m₀ (m.endOp id) := by
  refine h.decode fun n ws h => ?_
  dsimp only
  split
  · exact h.setCtx
  · split
    · trivial
    · split
      · next hx => exact (h.admitTry h.withDescEst |>.of_fst hx).abortRun
      · next hx => exact (h.admitTry h.withDescEst |>.of_fst hx).modLane.setCtx.unless (·.openFinal)
  · split
    · trivial
    · exact h.due.closeGrid.discUnit.modCtx

theorem KeepsBuild.apertureReadOp (h : KeepsBuild m₀ m) {id : Nat} : KeepsBuild m₀ (m.apertureReadOp id) :=
  h.when (·.readResult.spill.engOp)

/-! The operations of `Machine/Service.lean`. -/

theorem KeepsBuild.svcAsk (h : KeepsBuild m₀ m) {fn op t s waitMs doneEv : Nat} :
    KeepsBuild m₀ (m.svcAsk fn op t s waitMs doneEv) := h.svcTry.answer

theorem KeepsBuild.svcAbortAsk (h : KeepsBuild m₀ m) {fn ticket : Nat} : KeepsBuild m₀ (m.svcAbortAsk fn ticket) :=
  h.svcAbortTry.answer

theorem KeepsBuild.oldSenseEnd (h : KeepsBuild m₀ m) {t : Nat} : KeepsBuild m₀ (m.oldSenseEnd t) :=
  h.when (·.oldSenseOp.settle)

theorem KeepsBuild.leaveDone (h : KeepsBuild m₀ m) {t : Nat} : KeepsBuild m₀ (m.leaveDone t) :=
  h.when (·.leaveOp.settle)

theorem KeepsBuild.tileRefuse (h : KeepsBuild m₀ m) {fn st : Nat} : KeepsBuild m₀ (m.tileRefuse fn st) := h.frame.answer

theorem KeepsBuild.tileAccept (h : KeepsBuild m₀ m) {fn t : Nat} : KeepsBuild m₀ (m.tileAccept fn t) := h.frame.answer

theorem KeepsBuild.tileDownOp (h : KeepsBuild m₀ m) {fn t : Nat} {rst : Bool} :
    KeepsBuild m₀ (m.tileDownOp fn t rst) :=
  .ite h.tileRefuse <|
    .ite h.tileRefuse <| .ite h.tileRefuse <| .ite h.frame.answer h.tileAccept.modTile.tileStop.settle

theorem KeepsBuild.tileUpOp (h : KeepsBuild m₀ m) {fn t : Nat} : KeepsBuild m₀ (m.tileUpOp fn t) :=
  .ite h.tileRefuse <|
    .ite h.tileRefuse <| .ite h.tileRefuse <| .ite h.domRefused.tileRefuse h.tileAccept.tileStart.downAllow

theorem KeepsBuild.domAnswer (h : KeepsBuild m₀ m) {fn st : Nat} : KeepsBuild m₀ (m.domAnswer fn st) := h.frame.answer

theorem KeepsBuild.archDownOp (h : KeepsBuild m₀ m) {fn : Nat} : KeepsBuild m₀ (m.archDownOp fn) :=
  .ite h.archOff.domAnswer h.domAnswer

theorem KeepsBuild.archUpOp (h : KeepsBuild m₀ m) {fn : Nat} : KeepsBuild m₀ (m.archUpOp fn) :=
  .ite h.domAnswer <| .ite h.domAnswer <| .ite h.domRefused.domAnswer h.archUp.w.domAnswer

theorem KeepsBuild.ucodeStageOp (h : KeepsBuild m₀ m) {fn off : Nat} {last : Bool} {bytes : List Byte} {sigOk : Bool} {ver : Nat} :
    KeepsBuild m₀ (m.ucodeStageOp fn off last bytes sigOk ver) :=
  .ite h.frame.answer <| .ite h.frame.answer <| .ite h.frame.answer h.frame.answer

theorem KeepsBuild.ucodeApplyOp (h : KeepsBuild m₀ m) {fn mask drainMs : Nat} :
    KeepsBuild m₀ (m.ucodeApplyOp fn mask drainMs) :=
  .ite h.frame.answer <| .ite h.frame.answer <| .ite h.frame.answer h.frame.ucodeNext.answer

theorem KeepsBuild.ucodeLoadOp (h : KeepsBuild m₀ m) {t : Nat} : KeepsBuild m₀ (m.ucodeLoadOp t) := by
  unfold State.ucodeLoadOp
  dsimp only
  split
  · exact h.when (·.w.frame.ucodeLeave)
  · exact h

theorem KeepsBuild.drainOutOp (h : KeepsBuild m₀ m) {t : Nat} : KeepsBuild m₀ (m.drainOutOp t) :=
  h.when (·.due.frame.ucodeLeave)

theorem KeepsBuild.ucodeCommitOp (h : KeepsBuild m₀ m) {fn : Nat} : KeepsBuild m₀ (m.ucodeCommitOp fn) := by
  unfold State.ucodeCommitOp
  dsimp only
  split
  · exact h.frame.answer
  · exact h.frame.answer

theorem KeepsBuild.fwStageOp (h : KeepsBuild m₀ m) {fn off : Nat} {last : Bool} {bytes : List Byte} {sigOk : Bool} :
    KeepsBuild m₀ (m.fwStageOp fn off last bytes sigOk) :=
  .ite h.frame.answer <| .ite h.frame.answer <| .ite h.frame.answer h.frame.answer

theorem KeepsBuild.warmReset (h : KeepsBuild m₀ m) {cause : Nat} : KeepsBuild m₀ (m.warmReset cause) :=
  h.orderReset.settle

theorem KeepsBuild.watchdogOp (h : KeepsBuild m₀ m) : KeepsBuild m₀ m.watchdogOp := h.when (·.warmReset)

/-! The operations of `Machine/Power.lean`. -/

theorem KeepsBuild.coldStart (h : KeepsBuild m₀ m) {cause : Nat} {st : Straps} {fwA fwB : Bool} :
    KeepsBuild m₀ (m.coldStart cause st fwA fwB) := h.doReset

theorem KeepsBuild.pfNew (h : KeepsBuild m₀ m) {was : Bool} : KeepsBuild m₀ (m.pfNew was) := h.when (·.flag)

theorem KeepsBuild.vinOp (h : KeepsBuild m₀ m) {mv : Nat} {st : Straps} {fwA fwB : Bool} :
    KeepsBuild m₀ (m.vinOp mv st fwA fwB) := h.unless (·.frame.w.coldStart.pfNew)

theorem KeepsBuild.perstOp (h : KeepsBuild m₀ m) {st : Straps} {fwA fwB : Bool} :
    KeepsBuild m₀ (m.perstOp st fwA fwB) :=
  h.frame.unless fun h => .ite (h.when (·.coldStart.pfNew)) h.orderReset.settle

theorem KeepsBuild.perstOffOp (h : KeepsBuild m₀ m) : KeepsBuild m₀ m.perstOffOp := h.frame

theorem KeepsBuild.warmOp (h : KeepsBuild m₀ m) {fn : Nat} : KeepsBuild m₀ (m.warmOp fn) := h.when (·.warmReset)

theorem KeepsBuild.hotOp (h : KeepsBuild m₀ m) : KeepsBuild m₀ m.hotOp := h.drawn.when (·.aerLog) |>.warmReset

theorem KeepsBuild.chkAssume (h : KeepsBuild m₀ m) {t s : Nat} : KeepsBuild m₀ (m.chkAssume t s) := by
  unfold State.chkAssume
  dsimp only
  split
  · exact h.drawn.ws.flag.modLane.wmReset.chkAfter
  · exact h

theorem KeepsBuild.tileAtReady (h : KeepsBuild m₀ m) {failed t : Nat} : KeepsBuild m₀ (m.tileAtReady failed t) :=
  h.unless
    fun h =>
      .ite h.logFault.drawn.tileClear.setDom.substSet.overSettle
        (h.when (·.startChecks) |>.foldl (fun _ _ h => h.chkAssume.chkAssume) |>.modTile)

theorem KeepsBuild.devReadyOp (h : KeepsBuild m₀ m) {failed : Nat} : KeepsBuild m₀ (m.devReadyOp failed) :=
  h.unless (·.frame.foldl (fun _ _ h => h.tileAtReady) |>.ws)

theorem KeepsBuild.powerFailOp (h : KeepsBuild m₀ m) {slope : Bool} {trace : List Nat} :
    KeepsBuild m₀ (m.powerFailOp slope trace) := h.unless (·.pfailOp.settle)

theorem KeepsBuild.recordOp (h : KeepsBuild m₀ m) : KeepsBuild m₀ m.recordOp := by
  unfold State.recordOp
  dsimp only
  split
  · exact h.unless (·.frame)
  · exact h

theorem KeepsBuild.aonOffOp (h : KeepsBuild m₀ m) : KeepsBuild m₀ m.aonOffOp := h.unless (·.frame)

theorem KeepsBuild.restartOp (h : KeepsBuild m₀ m) {st : Straps} {fwA fwB : Bool} :
    KeepsBuild m₀ (m.restartOp st fwA fwB) := h.when (·.coldStart.pfNew)

/-! The operations of `Machine/Queues.lean`. -/

theorem KeepsBuild.setWords (h : KeepsBuild m₀ m) {fn q : Nat} {ws : List QWord} :
    KeepsBuild m₀ (m.setWords fn q ws) := h.setCq.w

theorem KeepsBuild.discard (h : KeepsBuild m₀ m) {fn q : Nat} {hop : QWord} {status detail : Nat} :
    KeepsBuild m₀ (m.discard fn q hop status detail) := h.inc.unless (·.complete)

theorem KeepsBuild.overflow (h : KeepsBuild m₀ m) {fn q : Nat} {w : QWord} : KeepsBuild m₀ (m.overflow fn q w) :=
  h.setWords.flag.setCq.discard

theorem KeepsBuild.dropWord (h : KeepsBuild m₀ m) {fn q : Nat} {w : QWord} : KeepsBuild m₀ (m.dropWord fn q w) :=
  .ite h.setCq h.overflow

theorem KeepsBuild.arriveWords (h : KeepsBuild m₀ m) {fn q : Nat} {l : List QWord} : KeepsBuild m₀ (m.arriveWords fn q l) := by
  induction l generalizing m with
  | nil => exact h
  | cons w l ih => exact .ite (ih h.dropWord) (.ite (ih h.setWords.setCq) (.ite h.setCq (ih h.overflow)))

theorem KeepsBuild.unstall (h : KeepsBuild m₀ m) {fn q : Nat} : KeepsBuild m₀ (m.unstall fn q) :=
  h.setCq.arriveWords.unless (·.setCq)

theorem KeepsBuild.cqWriteOp (h : KeepsBuild m₀ m) {fn q off : Nat} {words : List QData} {whole ep : Bool} :
    KeepsBuild m₀ (m.cqWriteOp fn q off words whole ep) :=
  h.when (·.aerLog) |>.fork (·.flag) fun h => .ite h.flag h.arriveWords

theorem KeepsBuild.staleOp (h : KeepsBuild m₀ m) {fn q : Nat} : KeepsBuild m₀ (m.staleOp fn q) := by
  unfold State.staleOp
  dsimp only
  split
  · exact h
  · exact h.due.setWords.flag.discard.unstall

theorem KeepsBuild.stallOutOp (h : KeepsBuild m₀ m) {fn q : Nat} : KeepsBuild m₀ (m.stallOutOp fn q) :=
  h.unless (·.due.setCq.foldl fun _ _ h => h.dropWord)

theorem KeepsBuild.flushOp (h : KeepsBuild m₀ m) {fn q : Nat} : KeepsBuild m₀ (m.flushOp fn q) :=
  h.incBy.setWords.setCq.unstall

theorem KeepsBuild.dmaOp (h : KeepsBuild m₀ m) {fn q tag rq : Nat} {silent wr : Bool} {iova off len : Nat} :
    KeepsBuild m₀ (m.dmaOp fn q tag rq silent wr iova off len) := by
  unfold State.dmaOp
  dsimp only
  split
  · exact h.frame.setFn.answer
  · exact h.complete.answer

theorem KeepsBuild.dmaAbortOp (h : KeepsBuild m₀ m) {fn tag : Nat} : KeepsBuild m₀ (m.dmaAbortOp fn tag).1 := by
  unfold State.dmaAbortOp
  split
  · exact h.dmaEnd
  · split
    · exact h.inc
    · exact h

theorem KeepsBuild.dmaMoved (h : KeepsBuild m₀ m) {d : Dma} {n : Nat} {bad : Option Nat} :
    KeepsBuild m₀ (m.dmaMoved d n bad) := by
  unfold State.dmaMoved
  dsimp only
  refine .ite h.frame.frame ?_
  split
  · exact h.frame.dmaEnd
  · exact h.frame.dmaEnd

theorem KeepsBuild.dmaRead (h : KeepsBuild m₀ m) {d : Dma} {errs : EccErrs} : KeepsBuild m₀ (m.dmaRead d errs) :=
  h.postArc.eccAt.frame.dmaMoved

theorem KeepsBuild.dmaWrite (h : KeepsBuild m₀ m) {d : Dma} {ws : List Word} {err : Bool} {ep : List Nat} :
    KeepsBuild m₀ (m.dmaWrite d ws err ep) :=
  h.postArc.arcWrite.foldl (fun _ _ h => h.frame) |>.fork (·.aerLog.dmaEnd) (·.dmaMoved)

theorem KeepsBuild.dmaCompleteOp (h : KeepsBuild m₀ m) {fn tag : Nat} {ws : List Word} {err : Bool} {ep : List Nat} {errs : EccErrs} :
    KeepsBuild m₀ (m.dmaCompleteOp fn tag ws err ep errs) := by
  unfold State.dmaCompleteOp
  split
  · exact h.unless fun h => .ite h.wantArc (h.unless (fun h => .ite h.dmaRead (h.when (·.dmaWrite))))
  · exact h

theorem KeepsBuild.cmdDone (h : KeepsBuild m₀ m) {fn q : Nat} {hop : QData} {status : Nat} {res : List Nat} :
    KeepsBuild m₀ (m.cmdDone fn q hop status res) := h.unless (·.complete)

theorem KeepsBuild.ctxCmd (h : KeepsBuild m₀ m) {fn q : Nat} {hop : QData} {a b : Nat} :
    KeepsBuild m₀ (m.ctxCmd fn q hop a b) := by
  unfold State.ctxCmd
  dsimp only
  refine (KeepsBuild.ite h.answer ?_).cmdDone
  split
  · exact h.ctxOpenOp
  · exact h.ctxStartOp
  · exact h.ctxAbortOp
  · exact h.ctxCloseOp
  · exact h.ctxPrioOp

theorem KeepsBuild.cmdRun (h : KeepsBuild m₀ m) {fn q : Nat} {hop : QData} {ps : List Nat} :
    KeepsBuild m₀ (m.cmdRun fn q hop ps) := by
  unfold State.cmdRun
  dsimp only
  split
  · exact h.cmdDone
  · exact h.calReqOp
  · refine .cmdDone ?_
    split
    · exact h
    · exact h.calAbortOp
  · exact h.dmaOp
  · exact h.dmaOp
  · refine .cmdDone ?_
    split
    · exact h
    · exact h.dmaAbortOp
  · exact h.ctxCmd

theorem KeepsBuild.dropNext (h : KeepsBuild m₀ m) {fn q : Nat} : KeepsBuild m₀ (m.dropNext fn q) := by
  unfold State.dropNext
  dsimp only
  split
  · exact h.setWords
  · exact h.setWords.setCq

theorem KeepsBuild.cmdTake (h : KeepsBuild m₀ m) {fn q : Nat} {ws : List QWord} :
    KeepsBuild m₀ (m.cmdTake fn q ws) := by
  unfold State.cmdTake
  dsimp only
  refine .ite h.flag.discard ?_
  split
  · exact h.discard
  · exact .ite (h.flag.discard.when (·.dropNext)) <| .ite h.inc.flag h.taken.cmdRun

theorem KeepsBuild.commandTakeOp (h : KeepsBuild m₀ m) {fn q : Nat} : KeepsBuild m₀ (m.commandTakeOp fn q) := by
  unfold State.commandTakeOp
  dsimp only
  split
  · exact h.unless (·.setFn.setWords.cmdTake.unstall)
  · exact h

theorem KeepsBuild.fenceOp (h : KeepsBuild m₀ m) {fn q tag rq : Nat} : KeepsBuild m₀ (m.fenceOp fn q tag rq) :=
  h.when (·.taken.complete.answer)

theorem KeepsBuild.showFull (h : KeepsBuild m₀ m) {fn r : Nat} : KeepsBuild m₀ (m.showFull fn r) := h.w

theorem KeepsBuild.ringSignal (h : KeepsBuild m₀ m) {fn r : Nat} : KeepsBuild m₀ (m.ringSignal fn r) := h.setRq.message

theorem KeepsBuild.ringPut (h : KeepsBuild m₀ m) {fn r : Nat} {p : Packet} : KeepsBuild m₀ (m.ringPut fn r p) :=
  h.drawn.frame.w.inc.incBy.showFull.setRq.when (·.ringSignal)

theorem KeepsBuild.ringSend (h : KeepsBuild m₀ m) {fn r : Nat} {p : Packet} : KeepsBuild m₀ (m.ringSend fn r p) :=
  h.unless (·.ringPut)

theorem KeepsBuild.packetOp (h : KeepsBuild m₀ m) {id : Nat} : KeepsBuild m₀ (m.packetOp id) := by
  unfold State.packetOp
  dsimp only
  split
  · exact h.when (·.setCtx.payOwed.ringSend)
  · exact h

theorem KeepsBuild.resultWriteOp (h : KeepsBuild m₀ m) {fn r : Nat} : KeepsBuild m₀ (m.resultWriteOp fn r) := by
  unfold State.resultWriteOp
  dsimp only
  refine .ite h ?_
  split
  · exact h.setRq.payOwed.ringSend
  · split
    · exact h.setCq.ringSend
    · exact h

theorem KeepsBuild.doorbellOp (h : KeepsBuild m₀ m) {fn r v : Nat} : KeepsBuild m₀ (m.doorbellOp fn r v) :=
  h.unless fun h => .ite h.w.showFull h.flag

theorem KeepsBuild.moderationOp (h : KeepsBuild m₀ m) {fn r : Nat} : KeepsBuild m₀ (m.moderationOp fn r) :=
  h.unless (·.due.ringSignal)

theorem KeepsBuild.ringEnable (h : KeepsBuild m₀ m) {fn r : Nat} {on : Bool} :
    KeepsBuild m₀ (m.ringEnable fn r on) := .ite h.ws.setRq (h.setRq.foldl (fun _ _ h => h.setCq) |>.frame)

theorem KeepsBuild.msixWrite (h : KeepsBuild m₀ m) {fn v k : Nat} {w : Word} :
    KeepsBuild m₀ (m.msixWrite fn v k w) := h.unless (·.setMsi.sendPending)

/-! The operations of `Machine/SiteReset.lean`. -/

theorem KeepsBuild.flrRuns (h : KeepsBuild m₀ m) {fn e : Nat} : KeepsBuild m₀ (m.flrRuns fn e) :=
  h.foldl (fun _ _ h => h.abortRun.drawn.modCtx) |>.frame

theorem KeepsBuild.flrOps (h : KeepsBuild m₀ m) {fn e : Nat} : KeepsBuild m₀ (m.flrOps fn e) :=
  h.foldl (fun _ _ h => h.when (·.abortSeq) |>.when (·.abortAcq)) |>.foldl (fun _ _ h => h.abortCal) |>.foldl
      (fun _ _ h => h.dmaUndef)
    |>.frame

theorem KeepsBuild.flrLane (h : KeepsBuild m₀ m) {e : Nat} {k : Nat × Nat} : KeepsBuild m₀ (m.flrLane e k) := by
  unfold State.flrLane
  exact h.unless (·.when (·.calCut) |>.unless (·.abortOwner) |>.discOne)

theorem KeepsBuild.flrDrop (h : KeepsBuild m₀ m) {fn : Nat} : KeepsBuild m₀ (m.flrDrop fn) :=
  h.foldl (fun _ _ h => h.setCq) |>.foldl fun _ _ h => h.setRq

theorem KeepsBuild.flrOp (h : KeepsBuild m₀ m) {fn : Nat} : KeepsBuild m₀ (m.flrOp fn) :=
  h.unless (·.setFn.flrRuns.flrOps.flrDrop.foldl fun _ _ h => h.flrLane)

theorem KeepsBuild.resetKeep (h : KeepsBuild m₀ m) {p : Page} {keep : List Fld} {skip : Option Nat} :
    KeepsBuild m₀ (m.resetKeep p keep skip) := h.resetPage.ws

theorem KeepsBuild.flrBat (h : KeepsBuild m₀ m) {t : Nat} : KeepsBuild m₀ (m.flrBat t) :=
  h.foldl (fun _ _ h => h.rstFld) |>.loadProfile

theorem KeepsBuild.flrTile (h : KeepsBuild m₀ m) {fn t : Nat} : KeepsBuild m₀ (m.flrTile fn t) :=
  h.unless (·.resetKeep.foldl (fun _ _ h => h.when (·.modLane)) |>.resetKeep.resetKeep.frame.flrBat)

theorem KeepsBuild.flrLaneReset (h : KeepsBuild m₀ m) {fn e : Nat} {k : Nat × Nat} :
    KeepsBuild m₀ (m.flrLaneReset fn e k) := by
  unfold State.flrLaneReset
  dsimp only
  refine .ite h (.resetLanePage ?_)
  split
  · exact h.ws
  · exact h

theorem KeepsBuild.flrTrunk (h : KeepsBuild m₀ m) {fn : Nat} : KeepsBuild m₀ (m.flrTrunk fn) :=
  h.foldl (fun _ _ h => h.rstFld) |>.foldl (fun _ _ h => h.w) |>.foldl (fun _ _ h => h.w) |>.when (·.ws)

theorem KeepsBuild.flrFunction (h : KeepsBuild m₀ m) {fn : Nat} : KeepsBuild m₀ (m.flrFunction fn) := h.rstPage.frame.ws

theorem KeepsBuild.flrDoneOp (h : KeepsBuild m₀ m) {fn : Nat} : KeepsBuild m₀ (m.flrDoneOp fn) := by
  unfold State.flrDoneOp
  dsimp only
  split
  · exact h.unless
      (·.due.foldl (fun _ _ h => h.flrLaneReset) |>.foldl (fun _ _ h => h.flrTile) |>.flrTrunk.arcClear.flrFunction)
  · exact h

/-! The operations of `Machine/Mailbox.lean`. -/

theorem KeepsBuild.mbxOutcome (h : KeepsBuild m₀ m) {fn : Nat} {p : Page} {item res : Nat} :
    KeepsBuild m₀ (m.mbxOutcome fn p item res) := h.ws

theorem KeepsBuild.snapOp (h : KeepsBuild m₀ m) {fn : Nat} {p : Page} : KeepsBuild m₀ (m.snapOp fn p) := by
  unfold State.snapOp
  exact h.when (·.frame) |>.when (·.w) |>.ws.mbxOutcome.w

theorem KeepsBuild.catCmd (h : KeepsBuild m₀ m) {fn : Nat} {d : Nat → Nat} : KeepsBuild m₀ (m.catCmd fn d) := by
  unfold State.catCmd
  dsimp only
  split
  · exact h.invalidateOp
  · exact h.catAbortOp
  · exact h.frame.answer

theorem KeepsBuild.svcCmd (h : KeepsBuild m₀ m) {fn : Nat} {d : Nat → Nat} : KeepsBuild m₀ (m.svcCmd fn d) :=
  .ite h.svcAsk <| .ite h.svcAbortAsk h.frame.answer

theorem KeepsBuild.tileCmd (h : KeepsBuild m₀ m) {fn : Nat} {d : Nat → Nat} : KeepsBuild m₀ (m.tileCmd fn d) := by
  unfold State.tileCmd
  split
  · exact h.tileDownOp
  · exact h.tileUpOp
  · exact h.tileDownOp
  · exact h.tileRefuse

theorem KeepsBuild.domCmd (h : KeepsBuild m₀ m) {fn : Nat} {d : Nat → Nat} : KeepsBuild m₀ (m.domCmd fn d) := by
  unfold State.domCmd
  split
  · exact h.archDownOp
  · exact h.archUpOp
  · exact h.domAnswer

theorem KeepsBuild.applyRequest (h : KeepsBuild m₀ m) {fn item : Nat} {d : Nat → Nat} {sigOk : Bool} {ver : Nat} :
    KeepsBuild m₀ (m.applyRequest fn item d sigOk ver) := by
  unfold State.applyRequest
  split
  · exact h.catReqOp
  · exact h.catCmd
  · exact h.svcCmd
  · exact h.tileCmd
  · exact h.domCmd
  · exact h.ucodeStageOp
  · exact h.ucodeApplyOp
  · exact h.ucodeCommitOp
  · exact h.fwStageOp

theorem KeepsBuild.ddsCommit (h : KeepsBuild m₀ m) {t s code : Nat} : KeepsBuild m₀ (m.ddsCommit t s code).1 :=
  .fst_ite h.refuse (.fst_ite h.refuse (.fst_ite h.refuse h.modLane.fst_mk))

theorem KeepsBuild.itemApply (h : KeepsBuild m₀ m) {fn : Nat} {p : Page} {item : Nat} {d : Nat → Nat} {sigOk : Bool} {ver : Nat} :
    KeepsBuild m₀ (m.itemApply fn p item d sigOk ver).1 := by
  unfold State.itemApply
  dsimp only
  split
  · exact h
  · split
    · exact h
    · split
      · exact h.ddsCommit
      · exact h.applyRequest

theorem KeepsBuild.commitOp (h : KeepsBuild m₀ m) {fn : Nat} {p : Page} {sigOk : Bool} {ver : Nat} :
    KeepsBuild m₀ (m.commitOp fn p sigOk ver) := h.itemApply.mbxOutcome.flag

theorem KeepsBuild.mbxStore (h : KeepsBuild m₀ m) {fn : Nat} {p : Page} {off : Nat} {fs : List (Fld × Nat)} :
    KeepsBuild m₀ (m.mbxStore fn p off fs) := .ite h.ignore h.ws

theorem KeepsBuild.mbxSelOp (h : KeepsBuild m₀ m) {fn : Nat} {p : Page} {item : Nat} :
    KeepsBuild m₀ (m.mbxSelOp fn p item) := h.mbxStore

theorem KeepsBuild.mbxCommitOp (h : KeepsBuild m₀ m) {fn : Nat} {p : Page} {item : Nat} :
    KeepsBuild m₀ (m.mbxCommitOp fn p item) := h.mbxStore

theorem KeepsBuild.mbxCmdOp (h : KeepsBuild m₀ m) {fn : Nat} {p : Page} {w : Word} :
    KeepsBuild m₀ (m.mbxCmdOp fn p w) := .ite h.mbxCommitOp h.mbxStore

/-! The operations of `Machine/Registers.lean`. -/

theorem KeepsBuild.pageCtrlOp (h : KeepsBuild m₀ m) {p : Page} {en : Bool} : KeepsBuild m₀ (m.pageCtrlOp p en) := by
  unfold State.pageCtrlOp
  dsimp only
  split
  · exact .ite h.refuse h.w
  · exact h.w.when (·.abortSeq)
  · exact h.w.when (·.abortAcq)
  · exact h.w

theorem KeepsBuild.headerWrite (h : KeepsBuild m₀ m) {fn : Nat} {p : Page} {off : Nat} {w : Word} :
    KeepsBuild m₀ (m.headerWrite fn p off w) :=
  .ite h.pageCtrlOp <| .ite h.mbxSelOp <| .ite h.mbxCmdOp <| .ite h.mbxStore h.classWrite.signal

theorem KeepsBuild.trkWrite (h : KeepsBuild m₀ m) {fn off : Nat} {w : Word} : KeepsBuild m₀ (m.trkWrite fn off w) :=
  .ite h.trkFireOp <| .ite h.classWrite <| .ite h.classWrite <| .ite h.classWrite h.classWrite

theorem KeepsBuild.catWrite (h : KeepsBuild m₀ m) {fn off : Nat} {w : Word} : KeepsBuild m₀ (m.catWrite fn off w) :=
  h.unless (·.unless (·.classWrite))

theorem KeepsBuild.cqCtl (h : KeepsBuild m₀ m) {fn q : Nat} {w : Word} : KeepsBuild m₀ (m.cqCtl fn q w) :=
  h.w.when (·.flushOp)

theorem KeepsBuild.rqCtl (h : KeepsBuild m₀ m) {fn r off : Nat} {w : Word} : KeepsBuild m₀ (m.rqCtl fn r off w) :=
  h.unless (·.ws.when (·.w)) |>.w.when (·.ringEnable) |>.when (·.ignore)

theorem KeepsBuild.qWrite (h : KeepsBuild m₀ m) {fn off : Nat} {w : Word} : KeepsBuild m₀ (m.qWrite fn off w) :=
  .ite (.ite h.classWrite h.w.ignore) <|
    .ite h.cqCtl <| .ite (.ite h.rqCtl <| .ite h.ignore h.classWrite) h.classWrite

theorem KeepsBuild.seqWrite (h : KeepsBuild m₀ m) {fn t off : Nat} {w : Word} :
    KeepsBuild m₀ (m.seqWrite fn t off w) :=
  .ite (h.when (·.seqStartOp) |>.when (·.seqAbortHost)) <| .ite h.seqJumpWrite h.classWrite

theorem KeepsBuild.acqWrite (h : KeepsBuild m₀ m) {fn t off : Nat} {w : Word} :
    KeepsBuild m₀ (m.acqWrite fn t off w) :=
  .ite (h.when (·.acqArmOp) |>.when (·.acqSoftTrig) |>.when (·.acqAbortHost)) h.classWrite

theorem KeepsBuild.tileWrite (h : KeepsBuild m₀ m) {fn t off : Nat} {w : Word} :
    KeepsBuild m₀ (m.tileWrite fn t off w) := .ite h.gangWrite <| .ite h.boostWrite h.classWrite

theorem KeepsBuild.regOp (h : KeepsBuild m₀ m) {fn : Nat} {p : Page} {off : Nat} {w : Word} :
    KeepsBuild m₀ (m.regOp fn p off w) := by
  unfold State.regOp
  refine .ite h <| .ite h.headerWrite <| .ite h.routeOp ?_
  split
  · exact .ite (h.when (·.warmOp)) h.classWrite
  · exact h.trkWrite
  · exact .ite h.alignWrite h.classWrite
  · exact h.catWrite
  · exact h.qWrite
  · exact h.tileWrite
  · exact h.laneWrite
  · exact h.seqWrite
  · exact h.acqWrite
  · exact .ite h.batFireOp h.classWrite
  · exact h.classWrite

theorem KeepsBuild.segOp (h : KeepsBuild m₀ m) {fn t word : Nat} {w : Word} : KeepsBuild m₀ (m.segOp fn t word w) :=
  .ite h.frame h.ignore

end

/-! The dispatch. -/

/-- Every state that the outcome `o` leads to keeps the queue and the build of `m`. -/
def OutKeepsBuild (m : State) (o : Out) : Prop := ∀ m', o = .next m' → KeepsBuild m m'

section
variable {m m' : State} {o o' : Out}

theorem OutKeepsBuild.done (h : KeepsBuild m m') : OutKeepsBuild m (.next m') := by
  rintro _ ⟨⟩
  exact h

theorem OutKeepsBuild.fault {f : Fault} : OutKeepsBuild m (.fault f) := by
  rintro _ ⟨⟩

theorem OutKeepsBuild.ite {c : Prop} [Decidable c] (h : OutKeepsBuild m o) (h' : OutKeepsBuild m o') :
    OutKeepsBuild m (if c then o else o') := by
  split
  · exact h
  · exact h'

theorem OutKeepsBuild.onlyIf {c : Bool} (h : KeepsBuild m m') : OutKeepsBuild m (onlyIf c m m') :=
  .done (.ite h (.refl m))

theorem OutKeepsBuild.byHost {i : Instr} {fn : Nat} {c : Bool} (h : KeepsBuild m m') : OutKeepsBuild m (byHost i fn c m m') :=
  .done (.ite (KeepsBuild.refl m).hold (.ite h (KeepsBuild.refl m).barTouch))

theorem OutKeepsBuild.byConfig {i : Instr} {fn : Nat} (h : KeepsBuild m m') : OutKeepsBuild m (byConfig i fn m m') :=
  .done (.ite (KeepsBuild.refl m).hold (.ite h (.refl m)))

theorem OutKeepsBuild.execRegisterWrite {a : Acc} {w : Word} : OutKeepsBuild m (execRegisterWrite a w m) := by
  have h := KeepsBuild.refl m
  refine .ite (.done h) ?_
  split
  · exact .byHost h.regOp
  · exact .byHost h.segOp
  · exact .byHost h.cqWriteOp
  · exact .byHost h.doorbellOp
  · exact .byHost h.msixWrite
  · exact .done h
  · exact .done h
  · exact .done h

theorem OutKeepsBuild.execMalformedAccess {a : Acc} {isWrite : Bool} : OutKeepsBuild m (execMalformedAccess a isWrite m) := by
  unfold Machine.execMalformedAccess
  split
  · exact .byHost (KeepsBuild.refl m).malformed
  · exact .done (.refl m)

theorem OutKeepsBuild.execPageCtrlWrite {a : Acc} {en : Bool} : OutKeepsBuild m (execPageCtrlWrite a en m) := by
  unfold Machine.execPageCtrlWrite
  split
  · exact .byHost (KeepsBuild.refl m).pageCtrlOp
  · exact .done (.refl m)

theorem OutKeepsBuild.execMbxSelWrite {a : Acc} {item : Nat} : OutKeepsBuild m (execMbxSelWrite a item m) := by
  unfold Machine.execMbxSelWrite
  split
  · exact .byHost (KeepsBuild.refl m).mbxSelOp
  · exact .done (.refl m)

theorem OutKeepsBuild.execMbxSnapshot {a : Acc} : OutKeepsBuild m (execMbxSnapshot a m) := by
  unfold Machine.execMbxSnapshot
  split
  · exact .onlyIf (KeepsBuild.refl m).snapOp
  · exact .done (.refl m)

theorem OutKeepsBuild.execCommit {a : Acc} {item : Nat} : OutKeepsBuild m (execCommit a item m) := by
  unfold Machine.execCommit
  split
  · exact .byHost (KeepsBuild.refl m).mbxCommitOp
  · exact .done (.refl m)

theorem OutKeepsBuild.execMbxCommitApply {a : Acc} {sigOk : Bool} {ver : Nat} : OutKeepsBuild m (execMbxCommitApply a sigOk ver m) := by
  unfold Machine.execMbxCommitApply
  split
  · exact .onlyIf (KeepsBuild.refl m).commitOp
  · exact .done (.refl m)

theorem OutKeepsBuild.execRouteWrite {a : Acc} {w : Word} : OutKeepsBuild m (execRouteWrite a w m) := by
  unfold Machine.execRouteWrite
  split
  · exact .byHost (KeepsBuild.refl m).routeOp
  · exact .done (.refl m)

end

/-- No command touches the queue, the variant or the profile, or lets the counter of free values fall: arm by arm. -/
theorem exec_keepsBuild (c : Instr) (m : State) : OutKeepsBuild m (exec c m) :=
  have h := KeepsBuild.refl m
  match c with
  | .registerWrite .. => .execRegisterWrite
  | .malformedAccess .. => .execMalformedAccess
  | .pageCtrlWrite .. => .execPageCtrlWrite
  | .mbxSelWrite .. => .execMbxSelWrite
  | .mbxSnapshot .. => .execMbxSnapshot
  | .commit .. => .execCommit
  | .mbxCommitApply .. => .execMbxCommitApply
  | .connect .. => .byHost h.connectOp
  | .disconnect .. => .byHost h.disconnectOp
  | .laneForceWrite .. => .byHost h.laneWrite
  | .latchTick .. => .done h.latchOp
  | .dacSample .. => .done h.dacOp
  | .loadStrobe .. => .done h.strobeOp
  | .adcSample .. => .done h.adcOp
  | .apertureEnd .. => .done h.apertureOp
  | .oldElementOpen .. => .done h.elementOp
  | .rangingWindowEnd .. => .done h.rangeEndOp
  | .railMoveDown .. => .onlyIf h.railDownOp
  | .openLoad .. => .onlyIf h.openLoadOp
  | .complLong .. => .onlyIf h.complLongOp
  | .pulseStartCmd .. => .byHost h.pulseCmd
  | .pulseStopCmd .. => .byHost h.pulseCmd
  | .lanePulseGo .. => .onlyIf (h.activation (fun _ h => h.pulseGoIn))
  | .pulseStart .. => .onlyIf h.pulseStartOp
  | .pulseEnd .. => .onlyIf h.pulseEndOp
  | .pulseMeas .. => .onlyIf h.pulseMeasOp
  | .preconnectEnd .. => .done h.preconnectEndOp
  | .forceSwitchClose .. => .done h.forceCloseOp
  | .swap .. => .done h.swapOp
  | .connected .. => .done h.connectedOp
  | .disconnectRampStep .. => .done h.rampOp
  | .disconnectSwitchOpen .. => .done h.openStepOp
  | .lanePersWrite .. => .byHost h.laneWrite
  | .ddsZeroCrossExit .. => .done h.zeroCrossOp
  | .toPinStep .. => .done h.toPinOp
  | .toSmuStep .. => .done h.toSmuOp
  | .tileGangWrite .. => .byHost h.gangWrite
  | .tileBoostWrite .. => .byHost h.boostWrite
  | .boostFault .. => .done h.bfltOp
  | .boostSenseOverdrive .. => .ite .fault (.done h.boostOverOp)
  | .laneRst .. => .byHost h.laneWrite
  | .trip .. => .done h.tripOp
  | .tripClampRelease .. => .done h.rawInside
  | .tripClear .. => .byHost h.laneWrite
  | .wmFilteredChange .. => .done h.filteredOp
  | .wmchkRun .. => .byHost h.laneWrite
  | .wmchkDone .. => .done h.wmchkDoneOp
  | .foldback .. => .onlyIf h.foldOp
  | .foldbackRestore .. => .onlyIf h.restoreOp
  | .fclr .. => .byHost h.fclrWrite
  | .overdrive .. => .ite .fault (.done h.overdriveOp)
  | .probePhase .. => .onlyIf h.probeOp
  | .openCheckEval .. => .onlyIf h.openEvalOp
  | .vinReversed .. => .ite .fault (.done h)
  | .refinLost .. => .done h.refinLostOp
  | .refinRestored => .done h.refinBackOp
  | .refinLocked => .done h.refinLockOp
  | .tempReading .. => .done h.tempOp
  | .tfoldRelease .. => .done h.tfoldOffOp
  | .budgetEval .. => .done h.budgetEvalOp
  | .ctxOpen .. => .onlyIf h.ctxOpenOp
  | .ctxStart .. => .onlyIf h.ctxStartOp
  | .ctxAbort .. => .onlyIf h.ctxAbortOp
  | .ctxClose .. => .onlyIf h.ctxCloseOp
  | .ctxPrio .. => .onlyIf h.ctxPrioOp
  | .lockGrant .. => .done h.lockGrantOp
  | .dispatch .. => .onlyIf h.dispatchOp
  | .descPrefetch .. => .done h.prefetchOp
  | .nop .. => .done h.nopOp
  | .config .. => .done h.configOp
  | .lin .. => .done h.linOp
  | .list .. => .done h.listOp
  | .meas .. => .done h.measOp
  | .limit .. => .done h.limitOp
  | .wait .. => .done h.waitOp
  | .fire .. => .done h.fireOp
  | .jump .. => .done h.jumpOp
  | .endList .. => .done h.endOp
  | .apertureResultRead .. => .done h.apertureReadOp
  | .resultPacket .. => .done h.packetOp
  | .ctxGo .. => .onlyIf (h.activation (fun _ h => h.goDelivered))
  | .waitEnd .. => .done h.waitEndOp
  | .waitTimeout .. => .done h.waitTimeoutOp
  | .runComplete .. => .done h.runCompleteOp
  | .seqStart .. => .byHost h.seqStartOp
  | .seqAbort .. => .byHost h.seqAbortHost
  | .seqLockGrant .. => .onlyIf h.seqLockGrantOp
  | .stagingComplete .. => .done h.stagingRead
  | .seqGo .. => .onlyIf (h.activation (fun _ h => h.seqGoOp))
  | .lockInPoint .. => .done h.lockInOp
  | .granuleBoundary .. => .done h.boundaryOp
  | .segmentBoundary .. => .done h.boundaryOp
  | .seqJumpReq .. => .byHost h.seqJumpWrite
  | .seqJreq .. => .onlyIf (h.activation (fun _ h => h.seqJreqOp))
  | .vectorCycle .. => .done h.vectorOp
  | .ddsListStep .. => .done h.listStepOp
  | .granuleRefill .. => .done h.refillOp
  | .holdResume .. => .done h.holdResumeOp
  | .acqArm .. => .byHost h.acqArmOp
  | .acqTrig .. => .byHost h.acqSoftTrig
  | .acqAbort .. => .byHost h.acqAbortHost
  | .acqArmIn .. => .onlyIf (h.activation (fun _ h => h.acqArmInOp))
  | .acqTrigIn .. => .onlyIf (h.activation (fun _ h => h.acqTrigInOp))
  | .acqFireIn .. => .onlyIf (h.activation (fun _ h => h.acqFireInOp))
  | .acqFrame .. => .onlyIf h.acqFrameOp
  | .recordEnd .. => .onlyIf h.recordEndOp
  | .rearmDone .. => .onlyIf h.rearmOp
  | .rateReduction .. => .onlyIf h.rateCheck
  | .recordCommit .. => .onlyIf h.recordCommitOp
  | .accountingWindow => .done h.windowOp
  | .patrolScrub .. => .done h.scrubOp
  | .bar2Read .. => .byHost h.bar2ReadOp
  | .bar2Write .. => .byHost h.bar2WriteOp
  | .batonDelivery => .done h.batonOp
  | .batFire .. => .byHost h.batFireOp
  | .batTrkFire .. => .byHost h.trkFireOp
  | .routeWrite .. => .execRouteWrite
  | .trigInput .. => .done h.trigInOp
  | .trigoutEnd .. => .done h.trigEndOp
  | .catReq .. => .byHost h.catReqOp
  | .calReq .. => .onlyIf h.taken.calReqOp
  | .invalidate .. => .byHost h.invalidateOp
  | .catAbort .. => .byHost h.catAbortOp
  | .calAbort .. => .onlyIf h.calAbortOp.answer
  | .calLaneTurn .. => .onlyIf h.calTurnOp
  | .pendingTimeout .. => .done h.pendingTimeoutOp
  | .calLaneEnd .. => .done h.calEndOp
  | .catCommit .. => .done h.catCommitOp
  | .interpolation .. => .onlyIf h.interpOp
  | .autoRecal .. => .done h.autoRecalOp
  | .autoSwap .. => .done h.autoSwapOp
  | .handOut .. => .byHost h.svcAsk
  | .handBack .. => .byHost h.svcAsk
  | .test .. => .byHost h.svcAsk
  | .retire .. => .byHost h.svcAsk
  | .unretire .. => .byHost h.svcAsk
  | .svcAbort .. => .byHost h.svcAbortAsk
  | .svcWaitTimeout .. => .done h.svcTimeoutOp
  | .transferStart .. => .done h.transferStartOp
  | .transferMatch .. => .done h.matchOp
  | .share .. => .done h.shareOp
  | .shareStep .. => .done h.shareStepOp
  | .transferSwap .. => .done h.xferSwapOp
  | .transferComplete .. => .done h.xferCompleteOp
  | .oldSenseOpen .. => .done h.oldSenseEnd
  | .transferAbort .. => .done h.xferAbort
  | .leaveEnd .. => .done h.leaveDone
  | .tileSvcDown .. => .byHost h.tileDownOp
  | .tileSvcUp .. => .byHost h.tileUpOp
  | .tileSvcReset .. => .byHost h.tileDownOp
  | .archDown .. => .byHost h.archDownOp
  | .archUp .. => .byHost h.archUpOp
  | .ucodeStage .. => .byHost h.ucodeStageOp
  | .ucodeApply .. => .byHost h.ucodeApplyOp
  | .ucodeLoad .. => .done h.ucodeLoadOp
  | .drainTimeout .. => .done h.drainOutOp
  | .ucodeCommit .. => .byHost h.ucodeCommitOp
  | .fwStage .. => .byHost h.fwStageOp
  | .watchdog => .done h.watchdogOp
  | .linkTraining .. => .done h.trainOp
  | .linkLoss .. => .done h.lossOp
  | .walulFrame .. => .done h.frameOp
  | .walulDelivery => .done h.deliverOp
  | .align .. => .byHost h.alignOp
  | .alignAuto .. => .done h.alignAutoOp
  | .alignLoad .. => .done h.loadOp
  | .vinValid .. => .ite .fault (.done h.vinOp)
  | .perst .. => .done h.perstOp
  | .warm .. => .byHost h.warmOp
  | .hotReset => .onlyIf h.hotOp
  | .devReady .. => .done h.devReadyOp
  | .powerFail .. => .done h.powerFailOp
  | .pfailRecord => .done h.recordOp
  | .aonOff => .done h.aonOffOp
  | .pfailRestart .. => .done h.restartOp
  | .cqWrite .. => .byHost h.cqWriteOp
  | .commandTake .. => .onlyIf h.commandTakeOp
  | .fence .. => .onlyIf h.fenceOp
  | .staleTail .. => .onlyIf h.staleOp
  | .compatStallTimeout .. => .onlyIf h.stallOutOp
  | .flush .. => .byHost h.flushOp
  | .arcDmaRd .. => .onlyIf h.taken.dmaOp
  | .arcDmaWr .. => .onlyIf h.taken.dmaOp
  | .dmaAbort .. => .onlyIf h.dmaAbortOp.answer
  | .dmaComplete .. => .done h.dmaCompleteOp
  | .resultWrite .. => .onlyIf h.resultWriteOp
  | .resultDoorbell .. => .byHost h.doorbellOp
  | .moderationTimer .. => .onlyIf h.moderationOp
  | .flr .. => .done (.ite h.hold h.flrOp)
  | .flrComplete .. => .done h.flrDoneOp
  | .perstRelease => .done h.perstOffOp
  | .powerStateChange .. => .byConfig h.setFn.sendPending
  | .busMasterEnable .. => .byConfig h.setFn.setMsi.sendPending
  | .phaseTracking .. => .done h.trackOp
  | .frontEndTestEnd .. => .done h.testEndOp
  | .autoRecalEnd .. => .done h.autoEndOp
  | .blockHeadersRead .. => .done h.headersRead

end Sys2Proof.Machine

namespace Sys2Proof
open Machine

/-- Settles O4: arm by arm of the dispatch, each operation keeps the queue, the variant and the profile and never lowers the counter
of free values. -/
theorem noCommandTouchesQueueOrBuild : Obligations.NoCommandTouchesQueueOrBuild := by
  intro c m m' hc
  have h := exec_keepsBuild c m m' hc
  exact ⟨h.pending, h.variant, h.profile, h.freeCtr⟩
end Sys2Proof
end

section
/-! PROOF. The Archive's accesses through BAR2, its accounting window and its patrol scrub (O27). -/

namespace Sys2Proof.Machine

/-! Bandwidth: the accounting window and the bytes that count in it (R246, R247). -/

/-- The accounting of the present window is never behind the present tick. -/
theorem State.window_le_acctNow_win (m : State) : m.pace / 8000 * 8000 ≤ m.acctNow.win := by
  unfold State.acctNow
  dsimp only
  split
  · assumption
  · exact Nat.le_refl _

/-- An accounting that is not behind the present tick is the one in force. -/
theorem State.acctNow_set (m : State) (a : Acct) (h : m.pace / 8000 * 8000 ≤ a.win) :
    ({ m with cur := { m.cur with acct := a } } : State).acctNow = a := if_pos h

/-- Where an accounting is behind the present tick, a new window has begun, with nothing used but what was owed. -/
theorem State.acctNow_of_lt_window {m : State} (h : m.cur.acct.win < m.pace / 8000 * 8000) :
    m.acctNow.win = m.pace / 8000 * 8000 ∧ (m.cur.acct.debt = [] → m.acctNow.use = []) := by
  have hnow : ¬ m.pace / 8000 * 8000 ≤ m.cur.acct.win := Nat.not_le.mpr h
  simp +contextual [State.acctNow, hnow]

@[simp] theorem State.acctNow_arcPut (m : State) (a : Nat) (bs : List Byte) : (m.arcPut a bs).acctNow = m.acctNow := by
  unfold State.arcPut
  dsimp only
  split <;> rfl

@[simp] theorem State.arcUsed_arcPut (m : State) (a fn : Nat) (bs : List Byte) : (m.arcPut a bs).arcUsed fn = m.arcUsed fn := by
  simp only [State.arcUsed, State.acctNow_arcPut]

/-- Bytes that move for a function change the accounting alone. -/
theorem State.useArc_frame (m : State) (fn n : Nat) :
    m.useArc fn n = { m with cur := { m.cur with acct := (m.useArc fn n).cur.acct } } := by
  unfold State.useArc
  dsimp only
  split <;> rfl

theorem State.arcUsed_useArc (m : State) (fn n : Nat) : (m.useArc fn n).arcUsed fn = m.arcUsed fn + n := by
  unfold State.useArc
  dsimp only
  split
  · omega
  · rw [State.arcUsed, State.acctNow_set, tabGet_tabSet_same, State.arcUsed]
    exact m.window_le_acctNow_win

theorem State.debt_useArc (m : State) (fn n : Nat) : (m.useArc fn n).acctNow.debt = m.acctNow.debt := by
  unfold State.useArc
  dsimp only
  split
  · rfl
  · rw [State.acctNow_set]
    exact m.window_le_acctNow_win

/-- A write that is accepted changes the accounting alone. -/
theorem State.postArc_frame (m : State) (fn n : Nat) :
    m.postArc fn n = { m with cur := { m.cur with acct := (m.postArc fn n).cur.acct } } := by
  unfold State.postArc
  dsimp only
  split
  · exact m.useArc_frame fn _
  · rw [m.useArc_frame fn]

/-- Of a write that is accepted, the bytes that the window has room for count in it. -/
theorem State.arcUsed_postArc (m : State) (fn n : Nat) : (m.postArc fn n).arcUsed fn = m.arcUsed fn + min n (m.arcRoom fn) := by
  have hused := m.arcUsed_useArc fn (min n (m.arcRoom fn))
  unfold State.postArc
  dsimp only
  split
  · exact hused
  · rw [State.arcUsed, State.acctNow_set]
    · exact hused
    · exact (m.useArc _ _).window_le_acctNow_win

/-- What exceeds the room of the window is owed in later ones. -/
theorem State.debt_postArc (m : State) (fn n : Nat) :
    tabGet 0 (m.postArc fn n).acctNow.debt fn = tabGet 0 m.acctNow.debt fn + (n - m.arcRoom fn) := by
  unfold State.postArc
  dsimp only
  split
  · rw [State.debt_useArc]
    omega
  · rw [State.acctNow_set, tabGet_tabSet_same, State.debt_useArc]
    · omega
    · exact (m.useArc _ _).window_le_acctNow_win

/-! Bytes and errors (R243, R244). -/

/-- With no error about, the ECC finds nothing. -/
theorem State.eccAll_of_no_error {m : State} (h : m.latent = []) (unit : Nat) (reads : Nat → Bool) :
    m.eccAll [] unit reads = m := by
  cases m
  cases h
  rfl

/-- What the ECC finds where the only error in the words read is `e` (R244). -/
theorem State.eccAll_of_one_read {m : State} {errs rest : EccErrs} {e : Nat × Bool} (unit : Nat) {reads : Nat → Bool}
    (hread : (m.latent ++ errs).filter (fun x => reads x.1) = [e]) (hrest : (m.latent ++ errs).filter (fun x => !reads x.1) = rest) :
    m.eccAll errs unit reads =
      if e.2 then ({ m with latent := rest } : State).poisonWord e.1 unit else ({ m with latent := rest } : State).inc .arc .arcCeCnt := by
  rw [State.eccAll, hread, hrest]
  rfl

theorem State.arcPut_frame (m : State) (a : Nat) (bs : List Byte) :
    m.arcPut a bs = { m with arc := (m.arcPut a bs).arc, written := (m.arcPut a bs).written,
                             poison := (m.arcPut a bs).poison, latent := (m.arcPut a bs).latent } := by
  unfold State.arcPut
  dsimp only
  split <;> rfl

/-- A write brings no error, and no poison. -/
theorem State.latent_arcPut_of_nil {m : State} (h : m.latent = []) (a : Nat) (bs : List Byte) : (m.arcPut a bs).latent = [] := by
  unfold State.arcPut
  dsimp only
  split
  · exact h
  · simp [h]

theorem State.poison_arcPut_of_nil {m : State} (h : m.poison = []) (a : Nat) (bs : List Byte) : (m.arcPut a bs).poison = [] := by
  unfold State.arcPut
  dsimp only
  split
  · exact h
  · simp [h]

/-- The Archive's bytes stand in order in a sound state. -/
theorem State.wf_arc_of_sound {m : State} (h : m.sound = true) : Memory.wf m.arc = true := by
  simp only [State.sound, Bool.and_eq_true] at h
  exact h.1.1.1.1

theorem State.arcPut_at (m : State) (a : Nat) (bs : List Byte) (i : Nat) (hi : i < bs.length) (h : Memory.wf m.arc = true) :
    memGet (m.arcPut a bs).arc (a + i) = bs[i] := by
  unfold State.arcPut
  dsimp only
  split
  · omega
  · exact memGet_memStore_at a bs i hi h

theorem State.message_frame (m : State) (fn v : Nat) : m.message fn v = { m with msix := (m.message fn v).msix } := by
  unfold State.message
  dsimp only
  split
  · rfl
  · split <;> rfl

/-- What a page signals changes the messages alone. -/
theorem signal_frame (before after : State) (p : Page) :
    signal before after p = { after with msix := (signal before after p).msix } := by
  refine foldl_preserves _ (fun m => m = { after with msix := m.msix }) (fun m fn hm => ?_) _ after rfl
  split
  · next hfn =>
    exact (m.message_frame fn _).trans
      (congrArg (fun x : State => { x with msix := (m.message fn (m.r (.q fn) .qEvtVec)).msix }) hm)
  · exact hm

/-- A raised flag changes the register fields and the messages alone. -/
theorem State.flag_frame (m : State) (p : Page) (f : Fld) :
    m.flag p f = { m with regs := (m.w p f 1).regs, msix := (m.flag p f).msix } :=
  signal_frame m (m.w p f 1) p

/-! BAR2 (R411, R412). -/

/-- An access of the host that reaches its window takes effect at once. -/
theorem byHost_of_reach {i : Instr} {fn : Nat} {c : Bool} {m m' : State} (hreach : m.reach fn = true) (hc : c = true) :
    byHost i fn c m m' = .next m' := by
  have hwaits : m.waits = false := by
    simp only [State.reach, Bool.and_eq_true, Bool.not_eq_true'] at hreach
    exact hreach.1.1.2
  simp [byHost, hwaits, hc]

theorem State.bar2Part_of_le {m : State} {fn off len : Nat} (h : off + len ≤ (m.region fn).2) : m.bar2Part fn off len = len := by
  unfold State.bar2Part
  omega

/-- A write inside the region, with no error about, is counted and stored. -/
theorem State.bar2WriteOp_clean {m : State} {fn off : Nat} {bytes : List Byte} (harch : m.archOn = true)
    (hin : off + bytes.length ≤ (m.region fn).2) (hlat : m.latent = []) :
    m.bar2WriteOp fn off bytes false [] = (m.postArc fn bytes.length).arcPut ((m.region fn).1 + off) bytes := by
  have hpost : (m.postArc fn bytes.length).latent = [] := by
    rw [State.postArc_frame]
    exact hlat
  simp [State.bar2WriteOp, harch, State.bar2Part_of_le hin, State.eccAll_of_no_error hpost]

/-- A read inside the region, with bandwidth and with no error and no poison about, is counted and answered. -/
theorem State.bar2ReadOp_clean {m : State} {fn off len : Nat} (harch : m.archOn = true) (hshare : m.shareOut fn = false)
    (hin : off + len ≤ (m.region fn).2) (hlat : m.latent = []) (hpoison : m.poison = []) :
    m.bar2ReadOp fn off len [] = (m.postArc fn len).answer fn 0 (m.arcNat ((m.region fn).1 + off) len) := by
  have hpost := m.postArc_frame fn len
  have hlat' : (m.postArc fn len).latent = [] := by
    rw [hpost]
    exact hlat
  have hclean : ∀ a, (m.postArc fn len).poisoned a len = false := fun a => by
    rw [hpost]
    simp [State.poisoned, hpoison]
  have hnat : ∀ a, (m.postArc fn len).arcNat a len = m.arcNat a len := fun a => by
    rw [hpost]
    rfl
  simp [State.bar2ReadOp, harch, hshare, State.bar2Part_of_le hin, State.eccAt, State.eccAll_of_no_error hlat', hclean, hnat, bit]

/-! The patrol scrub (R244). -/

theorem mem_insertUp (n : Nat) (l : List Nat) : n ∈ insertUp n l := by
  induction l with
  | nil => simp [insertUp]
  | cons k l ih =>
    unfold insertUp
    split
    · simp
    · split
      · next hk => simp [hk]
      · simp [ih]

/-- A word that is poisoned already is neither counted nor logged again. -/
theorem State.poisonWord_of_mem {m : State} {w : Nat} (h : w ∈ m.poison) (unit : Nat) : m.poisonWord w unit = m :=
  if_pos (by simpa using h)

/-- The first finding of a multi-bit error poisons the word, logs it, counts it and raises the flag. -/
theorem State.poisonWord_of_not_mem {m : State} {w : Nat} (h : w ∉ m.poison) (unit : Nat) : ∃ x : Nat × Nat × Nat × Nat,
    m.poisonWord w unit =
      (({ m with poison := insertUp w m.poison, cur := { m.cur with ueLog := some x } } : State).inc .arc .arcUeCnt).flag .arc .arcUe := by
  unfold State.poisonWord
  rw [if_neg (by simpa using h)]
  cases m.cur.ueLog with
  | none => exact ⟨_, rfl⟩
  | some x => exact ⟨x, rfl⟩

/-- Among errors that lie in other words the scrub of word `w` finds what has come up in `w` alone. -/
theorem scrub_finds {l : EccErrs} {w : Nat} (h : ∀ x ∈ l, x.1 ≠ w) (b : Bool) :
    (l ++ [(w, b)]).filter (fun x => x.1 == w) = [(w, b)] ∧ (l ++ [(w, b)]).filter (fun x => !(x.1 == w)) = l := by
  constructor
  · simpa [List.filter_append] using h
  · simpa [List.filter_append] using h

/-- The scrub of a word of the Archive finds what has come up in it before and what comes up now. -/
theorem State.scrubOp_of_lt {m : State} {w : Nat} (harch : m.archOn = true) (hw : w * 8 < m.arcSize) (e : EccErr) :
    m.scrubOp w e = m.eccAll (match e with | .clean => [] | .single => [(w, false)] | .multi _ => [(w, true)]) 3 (· == w) :=
  if_pos ⟨harch, hw⟩

/-- An error that has come up before is found when its word is scrubbed. -/
theorem State.scrubOp_clean_of_latent {m : State} {w : Nat} (harch : m.archOn = true) (hw : w * 8 < m.arcSize)
    (hlat : m.latent = [(w, false)]) : m.scrubOp w .clean = ({ m with latent := [] } : State).inc .arc .arcCeCnt := by
  rw [State.scrubOp_of_lt harch hw, State.eccAll_of_one_read (e := (w, false)) (rest := []) _ (by simp [hlat]) (by simp [hlat])]
  rfl

/-- A single-bit error is corrected and counted. -/
theorem State.scrubOp_single {m : State} {w : Nat} (harch : m.archOn = true) (hw : w * 8 < m.arcSize)
    (hother : ∀ x ∈ m.latent, x.1 ≠ w) : m.scrubOp w .single = m.inc .arc .arcCeCnt := by
  obtain ⟨hread, hrest⟩ := scrub_finds hother false
  rw [State.scrubOp_of_lt harch hw, State.eccAll_of_one_read _ hread hrest]
  rfl

/-- A multi-bit error poisons its word. -/
theorem State.scrubOp_multi {m : State} {w : Nat} (harch : m.archOn = true) (hw : w * 8 < m.arcSize)
    (hother : ∀ x ∈ m.latent, x.1 ≠ w) (k : Nat) : m.scrubOp w (.multi k) = m.poisonWord w 3 := by
  obtain ⟨hread, hrest⟩ := scrub_finds hother true
  rw [State.scrubOp_of_lt harch hw, State.eccAll_of_one_read _ hread hrest]
  rfl

/-- One count changes one field. -/
theorem State.regsKept_inc (m : State) (p : Page) (f : Fld) : RegsKept m (m.inc p f) (fun q g => q = p ∧ g = f) := by
  intro q g hg
  rw [State.r_inc, if_neg (fun h => hg h.symm)]

/-- Poison that is new is counted, logged and flagged, and changes nothing else. -/
theorem State.poisonWord_new {m : State} {w : Nat} (h : w ∉ m.poison) {m' : State} (hm' : m' = m.poisonWord w 3) :
    w ∈ m'.poison ∧ m'.r .arc .arcUe = 1 ∧ m'.r .arc .arcUeCnt = (m.r .arc .arcUeCnt + 1) % 2 ^ (Fld.arcUeCnt).w ∧
      m'.cur.ueLog.isSome = true ∧ RegsKept m m' (fun p f => p = .arc ∧ f ∈ [.arcUe, .arcUeCnt]) ∧
      m' = { m with regs := m'.regs, poison := m'.poison, msix := m'.msix, cur := { m.cur with ueLog := m'.cur.ueLog } } := by
  obtain ⟨x, hx⟩ := State.poisonWord_of_not_mem h 3
  generalize hm₁ : ({ m with poison := insertUp w m.poison, cur := { m.cur with ueLog := some x } } : State) = m₁ at hx
  have hr : ∀ p f, m₁.r p f = m.r p f := fun p f => by
    rw [← hm₁]
    rfl
  have hframe : m' = { m₁ with regs := m'.regs, msix := m'.msix } := by
    rw [hm', hx, State.flag_frame]
    rfl
  have hpoison : m'.poison = insertUp w m.poison := by rw [hframe, ← hm₁]
  have hlog : m'.cur.ueLog = some x := by rw [hframe, ← hm₁]
  refine ⟨?_, ?_, ?_, ?_, fun p f hpf => ?_, ?_⟩
  · rw [hpoison]
    exact mem_insertUp _ _
  · rw [hm', hx, State.r_flag]
    rfl
  · rw [hm', hx, State.r_flag, if_neg (by decide), State.r_inc, if_pos ⟨rfl, rfl⟩, hr]
  · rw [hlog]
    rfl
  · have hne : ¬ (f = .arcUe ∧ p = .arc) ∧ ¬ (f = .arcUeCnt ∧ p = .arc) :=
      ⟨fun h => hpf ⟨h.2, by simp [h.1]⟩, fun h => hpf ⟨h.2, by simp [h.1]⟩⟩
    rw [hm', hx, State.r_flag, if_neg hne.1, State.r_inc, if_neg hne.2, hr]
  · rw [hpoison, hlog]
    rw [← hm₁] at hframe
    exact hframe

/-! The commands. -/

/-- BAR2_WRITE inside the region, with no error about, is counted and stored. -/
theorem exec_bar2Write_clean {m : State} {fn off : Nat} {bytes : List Byte} (hreach : m.reach fn = true)
    (hready : m.r .dev .devStatReady = 1) (harch : m.archOn = true) (hin : off + bytes.length ≤ (m.region fn).2)
    (hlat : m.latent = []) :
    exec (.bar2Write fn off bytes false []) m =
      .next ((m.postArc fn bytes.length).arcPut ((m.region fn).1 + off) bytes) := by
  rw [← State.bar2WriteOp_clean harch hin hlat]
  exact byHost_of_reach hreach (by simp [State.winOk, hreach, hready])

/-- BAR2_READ inside the region, with bandwidth and with no error and no poison about, is counted and answered. -/
theorem exec_bar2Read_clean {m : State} {fn off len : Nat} (hreach : m.reach fn = true) (hready : m.r .dev .devStatReady = 1)
    (harch : m.archOn = true) (hshare : m.shareOut fn = false) (hin : off + len ≤ (m.region fn).2) (hlat : m.latent = [])
    (hpoison : m.poison = []) :
    exec (.bar2Read fn off len []) m =
      .next ((m.postArc fn len).answer fn 0 (m.arcNat ((m.region fn).1 + off) len)) := by
  rw [← State.bar2ReadOp_clean harch hshare hin hlat hpoison]
  exact byHost_of_reach hreach (by simp [State.winOk, hreach, hready])

/-- Bytes counted and stored, with no error about, change the Archive and the accounting alone. -/
theorem State.arcPut_postArc_frame {m : State} (hlat : m.latent = []) (fn n a : Nat) (bs : List Byte) :
    (m.postArc fn n).arcPut a bs =
      { m with arc := ((m.postArc fn n).arcPut a bs).arc, written := ((m.postArc fn n).arcPut a bs).written,
               poison := ((m.postArc fn n).arcPut a bs).poison,
               cur := { m.cur with acct := ((m.postArc fn n).arcPut a bs).cur.acct } } := by
  rw [m.postArc_frame fn n]
  unfold State.arcPut
  dsimp only
  split
  · rfl
  · simp [hlat]

/-- An answer to a function whose bytes were counted changes that function and the accounting alone. -/
theorem State.answer_postArc_frame (m : State) (fn n status result : Nat) :
    (m.postArc fn n).answer fn status result =
      { m with fns := ((m.postArc fn n).answer fn status result).fns,
               cur := { m.cur with acct := ((m.postArc fn n).answer fn status result).cur.acct } } := by
  rw [m.postArc_frame fn n]
  rfl

theorem State.fn_answer_postArc (m : State) (fn n status result g : Nat) :
    ((m.postArc fn n).answer fn status result).fn g =
      if g = fn then { m.fn fn with status := status, result := result } else m.fn g := by
  rw [m.postArc_frame fn n]
  exact State.fn_setFn_any _ _ _ _

/-- The bytes just stored are read back (R242, R243). -/
theorem bar2Read_after_write {m m' : State} {fn off : Nat} {bytes : List Byte} (hsound : m.sound = true)
    (hreach : m.reach fn = true) (hready : m.r .dev .devStatReady = 1) (harch : m.archOn = true)
    (hin : off + bytes.length ≤ (m.region fn).2) (hlat : m.latent = []) (hpoison : m.poison = [])
    (hm' : m' = (m.postArc fn bytes.length).arcPut ((m.region fn).1 + off) bytes) (hshare : m'.shareOut fn = false) :
    exec (.bar2Read fn off bytes.length []) m' = .next ((m'.postArc fn bytes.length).answer fn 0 (leNat bytes)) := by
  have hframe := State.arcPut_postArc_frame hlat fn bytes.length ((m.region fn).1 + off) bytes
  rw [← hm'] at hframe
  have hpoison' : m'.poison = [] := by
    rw [hm']
    exact State.poison_arcPut_of_nil (by rw [State.postArc_frame]; exact hpoison) _ _
  have hwf : Memory.wf (m.postArc fn bytes.length).arc = true := by
    rw [State.postArc_frame]
    exact State.wf_arc_of_sound hsound
  have hnat : m'.arcNat ((m.region fn).1 + off) bytes.length = leNat bytes := by
    rw [hm', State.arcNat, State.arcGet_arcPut _ _ _ hwf]
  have hregion : m'.region fn = m.region fn := by
    rw [hframe]
    rfl
  have hreach' : m'.reach fn = true := by
    rw [hframe]
    exact hreach
  have hready' : m'.r .dev .devStatReady = 1 := by
    rw [hframe]
    exact hready
  have harch' : m'.archOn = true := by
    rw [hframe]
    exact harch
  have hlat' : m'.latent = [] := by
    rw [hm']
    exact State.latent_arcPut_of_nil (by rw [State.postArc_frame]; exact hlat) _ _
  rw [← hnat, ← hregion]
  exact exec_bar2Read_clean hreach' hready' harch' hshare (by rw [hregion]; exact hin) hlat' hpoison'

/-- A window's end is beyond every tick of the window, and begins the next one (R247). -/
theorem State.windowOp_of_archOn {m : State} (harch : m.archOn = true) :
    m.windowOp.pace = max m.pace (nextMul 8000 m.cur.acct.win) ∧ m.windowOp.cur.acct.win = m.windowOp.pace / 8000 * 8000 ∧
      (m.cur.acct.debt = [] → m.windowOp.cur.acct.use = []) ∧
      m.windowOp = { m with pace := m.windowOp.pace, cur := { m.cur with acct := m.windowOp.cur.acct } } := by
  have hnext : (m.due (nextMul 8000 m.cur.acct.win)).cur.acct.win < (m.due (nextMul 8000 m.cur.acct.win)).pace / 8000 * 8000 := by
    simp only [State.due, nextMul]
    omega
  obtain ⟨hwin, huse⟩ := State.acctNow_of_lt_window hnext
  rw [State.windowOp, if_pos harch]
  exact ⟨rfl, hwin, huse, rfl⟩

end Sys2Proof.Machine

namespace Sys2Proof
open Machine

/-- Settles O27: the commands on an Archive without errors are a count of bytes and a store or an answer, a window's end is a new
accounting, and the scrub finds the errors of its own word alone. -/
theorem archiveAccesses : Obligations.ArchiveAccesses := by
  refine ⟨fun fn off bytes m hsound hreach hready harch hin hlat => ?_, fun m harch => ?_, fun w k m harch hw => ⟨?_, ?_⟩⟩
  · have hframe := State.arcPut_postArc_frame hlat fn bytes.length ((m.region fn).1 + off) bytes
    have harc : (m.postArc fn bytes.length).arc = m.arc := by rw [State.postArc_frame]
    refine ⟨_, exec_bar2Write_clean hreach hready harch hin hlat, fun a ha => ?_, fun i hi => ?_, ?_, ?_, hframe,
      fun _ hpoison hshare => ?_⟩
    · rw [State.arcPut_other _ _ _ _ (by omega), harc]
    · rw [State.arcPut_at _ _ _ _ hi (by rw [harc]; exact State.wf_arc_of_sound hsound), List.getElem?_eq_getElem hi]
    · rw [State.arcUsed_arcPut, State.arcUsed_postArc]
    · rw [State.acctNow_arcPut, State.debt_postArc]
    · refine ⟨_, bar2Read_after_write hsound hreach hready harch hin hlat hpoison rfl hshare, ?_, ?_, fun g hg => ?_,
        State.answer_postArc_frame _ _ _ _ _⟩
      · simp [State.fn_answer_postArc]
      · simp [State.fn_answer_postArc]
      · simp [State.fn_answer_postArc, hg]
  · exact ⟨_, rfl, State.windowOp_of_archOn harch⟩
  · intro hlat
    refine ⟨_, congrArg done (State.scrubOp_clean_of_latent harch hw hlat), rfl, ?_, ?_, rfl⟩
    · rw [State.r_inc, if_pos ⟨rfl, rfl⟩]
      rfl
    · exact State.regsKept_inc { m with latent := [] } _ _
  · intro hother
    refine ⟨⟨_, congrArg done (State.scrubOp_single harch hw hother), ?_, m.regsKept_inc _ _, rfl⟩, fun hclean => ?_,
      fun hpoisoned => ?_⟩
    · rw [State.r_inc, if_pos ⟨rfl, rfl⟩]
    · exact ⟨_, congrArg done (State.scrubOp_multi harch hw hother k), State.poisonWord_new hclean rfl⟩
    · exact congrArg done ((State.scrubOp_multi harch hw hother k).trans (State.poisonWord_of_mem hpoisoned 3))

end Sys2Proof
end
